-- ==== Sys2Proof/Word.lean ====
section
/-! DEFINITION. The words of the AT-40: bytes of telegrams, 16-bit timing values and statistics, 32-bit tote IDs,
stamps, counts and running timers (00_scope.md, 5.1 and 5.2). -/

namespace Sys2Proof

/-- One byte of a telegram. -/
abbrev Byte := BitVec 8

/-- A 32-bit tote ID; 0 means "no tote" (00_scope.md, 5.2). -/
abbrev ToteId := BitVec 32

/-- An aisle time taken as a stamp (00_scope.md, 5.1). -/
abbrev Stamp := BitVec 32

/-- Remaining ticks of a running timer: a 32-bit count (00_scope.md, 5.1). -/
abbrev Ticks := BitVec 32

/-- The handle of a transfer table entry, 0 to 31 (R25). -/
abbrev Handle := Fin 32

/-- A level; index 0 stands for level 1, index 39 for level 40 (R1). -/
abbrev Level := Fin 40

/-- A stream, 0 to 16 (00_scope.md, 5.2). -/
abbrev StreamNo := Fin 17

/-- The index of a party: stations 1 to 42 are indices 0 to 41 (00_scope.md, 3). -/
abbrev PartyNo := Fin 42

end Sys2Proof
end

