-- ==== Sys2Proof/Syntax/Vocabulary.lean ====
section
/-! DEFINITION. The things commands name: lifts, parties, ports, tote records, telegram headers, timing values, characters. -/

namespace Sys2Proof

/-- The two lifts, stations 41 and 42 (00_scope.md, 3). -/
inductive Lift where
  | a | b
deriving DecidableEq, Repr

/-- A party: the shuttle of a level, or a lift (00_scope.md, 3). -/
inductive Party where
  | shuttle (n : Level)
  | lift (x : Lift)
deriving DecidableEq, Repr

/-- The four ports (00_scope.md, 4). -/
inductive Port where
  | storeLine
  | levelBus
  | link (x : Lift)
deriving DecidableEq, Repr

/-- A character as it arrives after its start bit: 8 data bits, the parity bit and the stop bit (R117). -/
structure Character where
  data : Byte
  parity : Bool
  stop : Bool
deriving DecidableEq, Repr

/-- A tote record of six bytes (R3, Table 6-4). -/
structure ToteRec where
  id : ToteId
  stream : Byte
  dest : Byte
deriving DecidableEq, Repr

/-- What a PLACE-ASK names: a tote record from a shuttle, tote IDs from a lift (Table 6-5). -/
inductive PlaceBody where
  | record (r : ToteRec)
  | ids (l : List ToteId)
deriving DecidableEq, Repr

/-- The body of a STATE: party kind, station, firmware byte, and for party kind 2 the carriage (Table 6-5). -/
structure StateBody where
  kind : Byte
  station : Byte
  firmware : Byte
  totes : List ToteRec
deriving DecidableEq, Repr

/-- The header fields of a store line telegram that its command does not fix: destination aisle byte, source and tag
(Table 6-2). The source is not checked and travels with a forwarded order (R123). -/
structure StoreHdr where
  aisle : Byte
  srcAisle : Byte
  srcStation : Byte
  tag : Byte
deriving DecidableEq, Repr

/-- The twelve values of the timing table, in its order (R24, Table 10-3). -/
structure Timing where
  tick : Byte
  shuttleBase : BitVec 16
  shuttlePer : BitVec 16
  liftBase : BitVec 16
  liftPer : BitVec 16
  holdShuttle : BitVec 16
  holdLift : BitVec 16
  confirmLimit : BitVec 16
  visitBase : BitVec 16
  visitPer : BitVec 16
  missThreshold : Byte
  probeInterval : Byte
deriving DecidableEq, Repr

/-- The row of the route table that a write names, as bytes of Table 10-3: routed, primary lift, alternate lift,
window, stray policy, confirm, confirm default, low mark. -/
structure RowBytes where
  routed : Byte
  primary : Byte
  alternate : Byte
  window : Byte
  stray : Byte
  confirm : Byte
  dflt : Byte
  lowMark : Byte
deriving DecidableEq, Repr

end Sys2Proof
end

