-- ==== Sys2Proof/Syntax.lean ====
section
/-! DEFINITION. The commands of the AT-40: one constructor for each row of spec/opcode_table.json, in its order.
Operands are the fields of the telegram or pin that carries the command, as the sender gives them (bytes where a byte
arrives), so that every value a check can refuse can be named. -/

namespace Sys2Proof

/-- The commands. -/
inductive Instr where
  /-- FULL_RESET (R170): the switches and the stop input as they are read. -/
  | fullReset (switches : Byte) (stop : Bool)
  /-- TICK (R23). -/
  | tick
  /-- STOP_INPUT_ASSERTED (R163). -/
  | stopInputAsserted
  /-- STOP_INPUT_RELEASED (R163). -/
  | stopInputReleased
  /-- TELEGRAM_TRUNCATED (R118): a gap ends the telegram that is being received on the port. -/
  | telegramTruncated (port : Port)
  /-- DISCARDED_TELEGRAM (R117, R118, R120): characters, one or more, arrive on the port, and the telegram they end is judged; one that
  they leave unfinished stays half received. -/
  | discardedTelegram (port : Port) (first : Character) (rest : List Character)
  /-- STORE_ORDER (R126). -/
  | storeOrder (h : StoreHdr) (station kind : Byte) (body : List Byte)
  /-- MACHINE_REPORT (R129). -/
  | machineReport (p : Party) (tag kind : Byte) (body : List Byte)
  /-- STORE_POLL (R132). -/
  | storePoll (h : StoreHdr) (burst : Byte)
  /-- REQUEST (R133): function code and arguments as bytes. -/
  | request (h : StoreHdr) (body : List Byte)
  /-- IDLE (R121). -/
  | idle (p : Party) (tag : Byte)
  /-- PLACE_ASK (R28). -/
  | placeAsk (p : Party) (tag wait count : Byte) (body : PlaceBody)
  /-- FETCH_ASK (R28). -/
  | fetchAsk (p : Party) (tag wait count : Byte)
  /-- PLACED (R41). -/
  | placed (p : Party) (tag handle : Byte) (ids : List ToteId)
  /-- FETCHED (R42). -/
  | fetched (p : Party) (tag handle : Byte) (ids : List ToteId)
  /-- QUIT (R44). -/
  | quit (p : Party) (tag handle : Byte)
  /-- STATE (R57): from a lift. -/
  | state (x : Lift) (tag : Byte) (body : StateBody)
  /-- SHUTTLE_STATE (R148). -/
  | shuttleState (n : Level) (tag : Byte) (body : StateBody)
  /-- VISIT_OPEN (R68). -/
  | visitOpen (x : Lift) (tag level p f : Byte)
  /-- VISIT_CLOSE (R71). -/
  | visitClose (x : Lift) (tag : Byte)
  /-- NEXT_CALL (R76). -/
  | nextCall (x : Lift) (tag : Byte)
  /-- LOAD (R63). -/
  | load (x : Lift) (tag : Byte) (totes : List ToteRec)
  /-- UNLOAD (R65). -/
  | unload (x : Lift) (tag : Byte) (ids : List ToteId)
  /-- TURN_START (R139). -/
  | turnStart
  /-- TURN_FRAME_SENT (R140). -/
  | turnFrameSent
  /-- TURN_ANSWER (R141): the characters of the answer. -/
  | turnAnswer (chars : List Character)
  /-- TURN_START_LIMIT (R140). -/
  | turnStartLimit
  /-- TURN_COMPLETION_LIMIT (R140). -/
  | turnCompletionLimit
  /-- LIFT_TELEGRAM_SENT (R128). -/
  | liftTelegramSent (x : Lift)
  /-- UPSTREAM_TELEGRAM_SENT (R130). -/
  | upstreamTelegramSent
  /-- ACT_TIMER_EXPIRY (R45). -/
  | actTimerExpiry (h : Handle)
  /-- HOLD_TIMER_EXPIRY (R51). -/
  | holdTimerExpiry (h : Handle)
  /-- CONFIRM_TIMER_EXPIRY (R109). -/
  | confirmTimerExpiry (h : Handle)
  /-- VISIT_TIMER_EXPIRY (R72). -/
  | visitTimerExpiry (x : Lift)
  /-- STATE_ASK_INTERVAL (R56). -/
  | stateAskInterval (x : Lift)
  /-- SLOT_MAP_WRITE (R13): one byte a level. -/
  | slotMapWrite (h : StoreHdr) (map : List Byte)
  /-- ROUTE_TABLE_WRITE (R80). -/
  | routeTableWrite (h : StoreHdr) (stream : Byte) (row : RowBytes)
  /-- TIMING_TABLE_WRITE (R186). -/
  | timingTableWrite (h : StoreHdr) (t : Timing)
  /-- DISPOSITION_TABLE_WRITE (R174). -/
  | dispositionTableWrite (h : StoreHdr) (cls disposition : Byte)
  /-- PRIORITY_LIST_WRITE (R179). -/
  | priorityListWrite (h : StoreHdr) (classes : List Byte)
  /-- ADDRESS_ENTRIES_WRITE (R186). -/
  | addressEntriesWrite (h : StoreHdr) (group value mask : Byte)
  /-- NOTICE_ENABLES_WRITE (R190). -/
  | noticeEnablesWrite (h : StoreHdr) (set : Byte)
  /-- RESUME_DEFAULT_WRITE (R166). -/
  | resumeDefaultWrite (h : StoreHdr) (value : Byte)
  /-- TABLE_READ (R185); the stream counts for table 2 alone. -/
  | tableRead (h : StoreHdr) (table stream : Byte)
  /-- ENTRY_INTO_RUN (R159): a MODE-SET to RUN. -/
  | entryIntoRun (h : StoreHdr) (resume : Byte)
  /-- MODE_SET_CONFIG (R160): a MODE-SET to CONFIG. -/
  | modeSetConfig (h : StoreHdr) (resume : Byte)
  /-- ENTRY_INTO_DRAIN (R161): a MODE-SET to DRAIN. -/
  | entryIntoDrain (h : StoreHdr) (resume : Byte)
  /-- RETURN_TO_RUN (R162): a MODE-SET to RUN. -/
  | returnToRun (h : StoreHdr) (resume : Byte)
  /-- ENTRY_INTO_HALT (R164): a MODE-SET to HALT. -/
  | entryIntoHalt (h : StoreHdr) (resume : Byte)
  /-- RESUME_REISSUE (R166): a MODE-SET to RUN naming REISSUE. -/
  | resumeReissue (h : StoreHdr)
  /-- RESUME_REVOKE (R167): a MODE-SET to RUN naming REVOKE. -/
  | resumeRevoke (h : StoreHdr)
  /-- CLEANUP_INTO_CONFIG (R168): a MODE-SET to CONFIG. -/
  | cleanupIntoConfig (h : StoreHdr) (resume : Byte)
  /-- STREAM_APPEND (R83). -/
  | streamAppend (h : StoreHdr) (stream : Byte) (ids : List ToteId)
  /-- STREAM_CUT (R84); no ID names ALL. -/
  | streamCut (h : StoreHdr) (stream : Byte) (ids : List ToteId)
  /-- UNBAR (R115). -/
  | unbar (h : StoreHdr) (stream : Byte) (id : ToteId)
  /-- CONFIRM (R108). -/
  | confirm (h : StoreHdr) (handle : Byte) (id : ToteId)
  /-- DENY (R108). -/
  | deny (h : StoreHdr) (handle : Byte) (id : ToteId)
  /-- SLOT_SET (R16); tote ID 0 declares "none". -/
  | slotSet (h : StoreHdr) (level code target : Byte) (r : ToteRec)
  /-- LEVEL_SERVICE_ON (R151). -/
  | levelServiceOn (h : StoreHdr) (level : Byte)
  /-- LEVEL_SERVICE_OFF (R152). -/
  | levelServiceOff (h : StoreHdr) (level : Byte)
  /-- LIFT_SERVICE_ON (R61). -/
  | liftServiceOn (h : StoreHdr) (x : Lift)
  /-- LIFT_SERVICE_OFF (R61). -/
  | liftServiceOff (h : StoreHdr) (x : Lift)
  /-- CLEAR_FAULT (R180). -/
  | clearFault (h : StoreHdr) (cls : Byte)
  /-- CLEAR_LEAD (R181). -/
  | clearLead (h : StoreHdr)
  /-- CLEAR_PARTY (R178). -/
  | clearParty (h : StoreHdr) (station : Byte)
  /-- CLEAR_NOTICE (R191). -/
  | clearNotice (h : StoreHdr) (flags : Byte)
  /-- SLOT_READ (R21). -/
  | slotRead (h : StoreHdr) (level code : Byte)
  /-- LEVEL_RANGE_READ (R21). -/
  | levelRangeRead (h : StoreHdr) (first last : Byte)
  /-- STREAM_READ (R103). -/
  | streamRead (h : StoreHdr) (stream pos : Byte)
  /-- CARRIAGE_AND_VISIT_READ (R77). -/
  | carriageAndVisitRead (h : StoreHdr) (x : Lift)
  /-- CALL_QUEUE_READ (R77). -/
  | callQueueRead (h : StoreHdr) (x : Lift) (pos : Byte)
  /-- TRANSFER_TABLE_READ (R187). -/
  | transferTableRead (h : StoreHdr) (first : Byte)
  /-- FAULT_READ (R182). -/
  | faultRead (h : StoreHdr) (first : Byte)
  /-- PRESENCE_READ (R154). -/
  | presenceRead (h : StoreHdr) (first last : Byte)
  /-- STATISTICS_READ (R188). -/
  | statisticsRead (h : StoreHdr) (first : Byte)
  /-- STATISTICS_READ_AND_CLEAR (R188). -/
  | statisticsReadAndClear (h : StoreHdr) (first : Byte)
  /-- AISLE_TIME_READ (R188). -/
  | aisleTimeRead (h : StoreHdr)
  /-- STATUS_SUMMARY (R189). -/
  | statusSummary (h : StoreHdr)
  /-- RECEIVER_READY (R118). -/
  | receiverReady (port : Port)
  /-- LIFT_FRAME_BEGUN (R164). -/
  | liftFrameBegun (x : Lift)
deriving DecidableEq, Repr

end Sys2Proof
end

