-- ==== Sys2Proof/Decode.lean ====
section
/-! DEFINITION. The lengths of bodies (Tables 6-2, 6-5), and the words of the opcode table: it gives no row any bits
(every "fields" is empty), so no word spells a command. A telegram or a REQUEST is a run of bytes; Machine/Operands.lean
reads them. -/

namespace Sys2Proof

/-- A body of 0 to 48 bytes (Table 6-2). -/
def bodyFits (n : Nat) : Bool := n ≤ 48

/-- The length of the body of a STATE: with the carriage records that a lift's has, and that a body whose kind has none
may be given with all the same (Table 6-5). -/
def StateBody.length (b : StateBody) : Nat := if b.kind = 2 ∨ b.totes ≠ [] then 4 + 6 * b.totes.length else 3

/-- The length of the body of a PLACE-ASK (Table 6-5). -/
def PlaceBody.length : PlaceBody → Nat
  | .record _ => 8
  | .ids l => 2 + 4 * l.length

/-- The body of a STATE fits its party kind (Table 6-5). -/
def StateBody.fits (b : StateBody) : Bool := bodyFits b.length && (b.kind = 2 || b.totes.isEmpty)

/-- The body of a PLACE-ASK fits its sender and its count byte (Table 6-5). -/
def PlaceBody.fits (p : Party) (count : Byte) (b : PlaceBody) : Bool :=
  match p, b with
  | .shuttle _, .record _ => true
  | .lift _, .ids l => l.length = count.toNat && bodyFits b.length
  | .shuttle _, .ids _ => false
  | .lift _, .record _ => false

/-- The command a word spells by the table's bits: none, for no row of spec/opcode_table.json gives bits. -/
def decodeTableWord (_nbits _w : Nat) : Option Instr := none

end Sys2Proof
end

