-- ==== Sys2Proof/Config.lean ====
section
/-! DEFINITION. What an installation or a firmware revision fixes, and the capacities the spec states.
The spec leaves no result value undefined, so there is no free value here (log 31). -/

namespace Sys2Proof.Config

/-- DESIGN CHOICE (log 4), unsafe: the aisle address switches of `State.reset`. The spec gives the range 1 to 63
(00_scope.md, 3) and no setting; FULL_RESET names the setting it reads. -/
def resetSwitches : Byte := 1

/-- DESIGN CHOICE (log 4), unsafe: the stop input that `State.reset` has read. -/
def resetStop : Bool := false

/-- Firmware revision 2.3 (R189). -/
def firmwareMajor : Byte := 2

/-- Firmware revision 2.3 (R189). -/
def firmwareMinor : Byte := 3

/-- Places of the upstream queue (R129). -/
def upstreamPlaces : Nat := 64

/-- Places of the upstream queue open to forwarded machine reports (R129). -/
def reportPlaces : Nat := 48

/-- Places of the wait list for NOT-FORWARDED (R130). -/
def waitPlaces : Nat := 16

/-- Places of the management input queue (R133). -/
def requestPlaces : Nat := 4

/-- Places of the level downstream queue, and those open to one level (R127). -/
def levelQueuePlaces : Nat := 32
/-- At most 4 telegrams for any one level (R127). -/
def levelQueueShare : Nat := 4

/-- Places of a lift's downstream queue, and those open to forwarded orders (R128). -/
def liftQueuePlaces : Nat := 8
/-- At most 6 forwarded telegrams (R126, R128). -/
def liftForwardPlaces : Nat := 6

/-- Places of an answer box (R39). -/
def boxPlaces : Nat := 2

/-- Entries of the pool of release entries, and of one list (R82). -/
def poolEntries : Nat := 1024
/-- At most 128 entries in a list (R82). -/
def listEntries : Nat := 128

/-- Ticks between two STATE-ASKs to a RETURNING lift (R56). -/
def stateAskInterval : Ticks := 500

/-- The model's own bound on the raisings one event can make (log 7). -/
def raiseBound : Nat := 256

end Sys2Proof.Config
end

