-- ==== Sys2Proof/Machine/State.lean ====
section
/-! DEFINITION. The state of the AT-40: every table, queue, timer, mark and output the spec gives its ten blocks
(00_scope.md, section 2), the queue of waiting commands, and the values after a full reset. -/

namespace Sys2Proof.Machine

/-! ### Names -/

/-- Kind of an ask, an entry and a claim (R8, R25). -/
inductive Kind where
  | place | fetch
deriving DecidableEq, Repr

/-- The six slots of a level, codes 1 to 6 (R1). -/
inductive SlotCode where
  | in1 | in2 | a1 | a2 | b1 | b2
deriving DecidableEq, Repr

/-- The reason codes of Table 6-6. -/
inductive Reason where
  | config | halted | draining | partyFault | service | notReady | tableFull | busy | duplicate | badTote | badSlot
  | badCount | noRoute | stray | full | empty | notEligible | reserve | confirm | route | denied | timeout | revoked
  | late | noGrant | noVisit | inVisit | order | absent | unmapped | poolFull | listFull | readOnly | void
deriving DecidableEq, Repr

/-- The twelve fault classes (R171). -/
inductive FaultClass where
  | linkCheck | linkForm | route | queueOverrun | pollSilence | partyMismatch | actTimeout | lateReport
  | ungrantedAct | visitTimeout | order | stopInput
deriving DecidableEq, Repr

/-- The aisle modes (R156). -/
inductive Mode where
  | config | run | drain | halt
deriving DecidableEq, Repr

/-- The resume default (R166). -/
inductive ResumeMode where
  | reissue | revoke
deriving DecidableEq, Repr

/-- Dispositions (R174). -/
inductive Disposition where
  | note | fence | halt
deriving DecidableEq, Repr

/-- The notice flags (R190). -/
inductive Flag where
  | fault | mode | streamLow | serviceReady | doubt | overrun
deriving DecidableEq, Repr

/-! ### Telegrams of the controller -/

/-- The bodies of the telegrams the controller sends (Table 6-5), typed; `raw` is a forwarded body. -/
inductive Body where
  /-- POLL and STATE-ASK. -/
  | nothing
  /-- GO: handle, kind asked, and for each granted tote its slot and ID. -/
  | go (handle asked : Byte) (items : List (Level × SlotCode × ToteId))
  | hold (handle : Byte) (reason : Reason)
  | refuse (refused : Byte) (reason : Reason) (handle : Byte)
  /-- VISIT-END and CALL: level, p, f. -/
  | visit (level p f : Byte)
  | notForwarded (reason : Reason) (aisle station kind tag : Byte)
  | endCount (queued : Byte)
  | answer (code : Byte) (result : Option Reason) (data : List Byte)
  | notice (flags : Byte) (low : BitVec 16) (lead mode : Byte)
  | confirmAsk (handle : Byte) (id : ToteId) (stream lift level : Byte)
  /-- Order and report traffic, carried unchanged. -/
  | raw (bytes : List Byte)
deriving DecidableEq, Repr

/-- A telegram (Table 6-2). Length and check are functions of the rest (R119). -/
structure Tel where
  dstAisle : Byte
  dstStation : Byte
  srcAisle : Byte
  srcStation : Byte
  kind : Byte
  tag : Byte
  body : Body
deriving DecidableEq, Repr

/-! ### Slot table -/

/-- Content of a slot: a tote record with its placement stamp (R5). -/
structure Content where
  tote : ToteRec
  stamp : Stamp
deriving DecidableEq, Repr

/-- A claim: kind, owning handle, granted tote (R5, R8). -/
structure Claim where
  kind : Kind
  handle : Handle
  toteId : ToteId
deriving DecidableEq, Repr

/-- Doubt causes (R5). -/
inductive DoubtCause where
  | actTimeout | revoked | haltConfig | mapped
deriving DecidableEq, Repr

/-- The claim that was open when the act timer ran out, with its party (R10). -/
structure ExpiredClaim where
  party : Party
  handle : Handle
  kind : Kind
  toteId : ToteId
deriving DecidableEq, Repr

/-- A slot record. The state carries the optional fields it may hold (R5); a slot is mapped when it is not OFF (R6). -/
inductive Slot where
  | off
  | opened (content : Option Content) (claim : Option Claim)
  | doubt (content : Option Content) (cause : DoubtCause) (expired : Option ExpiredClaim) (reported : Option ToteId)
  | fenced (content : Option Content)
deriving DecidableEq, Repr

/-- The six slots of one level (R1). -/
structure LevelSlots where
  in1 : Slot
  in2 : Slot
  a1 : Slot
  a2 : Slot
  b1 : Slot
  b2 : Slot
deriving DecidableEq, Repr

/-! ### Transfer table -/

/-- Confirm state of a tote-list item (R25). -/
inductive Conf where
  | none | asked | confirmed | denied
deriving DecidableEq, Repr

/-- A tote-list item (R25). The model keeps the tote record of every item (log 23). -/
structure Item where
  tote : ToteRec
  slot : Option (Level × SlotCode)
  conf : Conf
deriving DecidableEq, Repr

/-- The phase of an entry with the field that is present in it: the hold reason in WAITING, the grant stamp in
GRANTED (R25, R26). -/
inductive Phase where
  | waiting (reason : Reason)
  | confirming
  | granted (stamp : Stamp)
deriving DecidableEq, Repr

/-- An entry of the transfer table (R25). -/
structure Entry where
  party : Party
  kind : Kind
  phase : Phase
  wait : Bool
  tag : Byte
  askStamp : Stamp
  count : Nat
  items : List Item
  timer : Ticks
deriving DecidableEq, Repr

/-- Capture statistics of a party (R53). -/
structure Stat where
  completed : BitVec 16
  last : BitVec 16
  largest : BitVec 16
deriving DecidableEq, Repr

/-! ### Sequencer -/

/-- Stray policies (R79). -/
inductive StrayPolicy where
  | refuse | accept
deriving DecidableEq, Repr

/-- Confirm defaults (R79). -/
inductive ConfirmDefault where
  | deny | grant
deriving DecidableEq, Repr

/-- A row of the route table (R79). -/
structure Row where
  routed : Bool
  primary : Lift
  alternate : Option Lift
  window : Byte
  stray : StrayPolicy
  confirm : Bool
  dflt : ConfirmDefault
  lowMark : Byte
deriving DecidableEq, Repr

/-- A release entry (R82). -/
structure RelEntry where
  id : ToteId
  barred : Bool
  pledged : Bool
deriving DecidableEq, Repr

/-- A stream: its row, active lift, switch mark, release list, low marker and counts (R79 to R96). -/
structure Stream where
  row : Row
  active : Lift
  switchPending : Bool
  list : List RelEntry
  lowMarker : Bool
  released : BitVec 32
  delivered : BitVec 32
deriving DecidableEq, Repr

/-! ### Lift coordinator and lift links -/

/-- Lift presence (R55). -/
inductive LiftPresence where
  | returning | online | service
deriving DecidableEq, Repr

/-- An open visit (R67). -/
structure Visit where
  level : Level
  p : Nat
  f : Nat
  limit : Ticks
  timer : Ticks
  tag : Byte
deriving DecidableEq, Repr

/-- A level in a call queue (R74). -/
structure Call where
  level : Level
  key : Byte
  stamp : Stamp
deriving DecidableEq, Repr

/-- What the lift coordinator keeps of a lift (R55, R56, R62, R67, R74). -/
structure LiftRec where
  presence : LiftPresence
  askTimer : Option Ticks
  firmware : Option Byte
  carriage : List ToteRec
  visit : Option Visit
  calls : List Call
deriving DecidableEq, Repr

/-- Receiver states; in RECEIVING with the bytes of the telegram received so far, byte 0 first (R118). -/
inductive Rx where
  | hunt
  | ready
  | receiving (held : List Byte)
deriving DecidableEq, Repr

/-- A place of a lift's downstream queue: the telegram, whether it is the controller's own, and whether its first
character has gone out (R128, R164). -/
structure DownItem where
  tel : Tel
  own : Bool
  begun : Bool
deriving DecidableEq, Repr

/-- A lift link (R118, R128, R135). -/
structure LinkRec where
  rx : Rx
  ownTag : Byte
  down : List DownItem
deriving DecidableEq, Repr

/-- One thing for each lift. -/
structure PerLift (α : Type) where
  a : α
  b : α
deriving DecidableEq, Repr

/-! ### Level bus -/

/-- Level presence (R147). -/
inductive LevelPresence where
  | unmapped | returning | online | absent | service
deriving DecidableEq, Repr

/-- A place of an answer box (R39), and whether its frame has begun (R164). -/
structure BoxItem where
  tel : Tel
  begun : Bool
deriving DecidableEq, Repr

/-- What the level bus scheduler keeps of a level (R143, R147, R152, R154). -/
structure ShuttleRec where
  presence : LevelPresence
  miss : Nat
  mark : Bool
  firmware : Byte
  box : List BoxItem
deriving DecidableEq, Repr

/-- A place of the level downstream queue (R127). -/
structure LevelItem where
  level : Level
  tel : Tel
  begun : Bool
deriving DecidableEq, Repr

/-- The turn in progress (R139, R140). -/
inductive Turn where
  | idle
  | sending (n : Level) (frame : Tel)
  | awaiting (n : Level)
deriving DecidableEq, Repr

/-- The level bus scheduler and the level bus receiver (R118, R127, R135, R137, R138). `pos` is the level of the last turn
given, or none before level 1; `next` is the level that is given the next turn; `cycle` says that a cycle is under way,
`probeCycle` that it is a probe cycle. -/
structure Bus where
  pos : Option Level
  next : Option Level
  probeCount : Byte
  cycle : Bool
  probeCycle : Bool
  turn : Turn
  rx : Rx
  queue : List LevelItem
  ownTag : Byte
deriving DecidableEq, Repr

/-! ### Store line and management input queue -/

/-- The store line transmitter (R132). -/
inductive StoreTx where
  | idle
  | burst (left : Nat) (tag : Byte)
  | ending (t : Tel)
deriving DecidableEq, Repr

/-- The store line side of the link interface (R122, R129, R130, R135). -/
structure StoreLine where
  rx : Rx
  tx : StoreTx
  upstream : List Tel
  noticeWait : Option Tel
  nfWait : List Tel
  unique : Byte
  group : Byte
  maskValue : Byte
  mask : Byte
  ownTag : Byte
deriving DecidableEq, Repr

/-- A management request read by its form (R184, Tables 10-1 to 10-3). -/
inductive Req where
  /-- A function code not in Table 10-1. -/
  | unknown (code : Byte)
  /-- Arguments that do not fit, or a field without a meaning that no function rule answers for. -/
  | badForm (code : Byte)
  | slotMap (map : List Byte)
  | routeRow (stream : Byte) (row : RowBytes)
  | timing (t : Timing)
  | disposition (cls disposition : Byte)
  | priority (classes : List Byte)
  | address (group value mask : Byte)
  | enables (set : Byte)
  | resumeDefault (value : Byte)
  | tableRead (table stream : Byte)
  | modeSet (target resume : Byte)
  | append (stream : Byte) (ids : List ToteId)
  | cut (stream : Byte) (ids : List ToteId)
  | unbar (stream : Byte) (id : ToteId)
  | confirm (handle : Byte) (id : ToteId)
  | deny (handle : Byte) (id : ToteId)
  | slotSet (level code target : Byte) (r : ToteRec)
  | levelService (level : Byte) (on : Bool)
  | liftService (x : Lift) (on : Bool)
  | clearFault (cls : Byte)
  | clearLead
  | clearParty (station : Byte)
  | clearNotice (flags : Byte)
  | slotRead (level code : Byte)
  | levelRange (first last : Byte)
  | streamRead (stream pos : Byte)
  | carriageRead (x : Lift)
  | callRead (x : Lift) (pos : Byte)
  | transferRead (first : Byte)
  | faultRead (first : Byte)
  | presenceRead (first last : Byte)
  | statsRead (first : Byte)
  | statsClear (first : Byte)
  | timeRead
  | summary
deriving DecidableEq, Repr

/-- A place of the management input queue (R133). -/
structure ReqItem where
  answer : Bool
  tag : Byte
  req : Req
deriving DecidableEq, Repr

/-! ### Modes, faults, notices -/

/-- The mode controller (R156, R157, R163, R166). -/
structure ModeCtl where
  mode : Mode
  motion : Bool
  resumeDefault : ResumeMode
  stop : Bool
deriving DecidableEq, Repr

/-- A pending fault record (R172). -/
structure FaultRec where
  count : Byte
  firstParty : Option Party
  firstStamp : Stamp
  lastParty : Option Party
  lastStamp : Stamp
deriving DecidableEq, Repr

/-- The fault unit (R172, R174, R176, R179). A record that is not pending is `none`. -/
structure FaultUnit where
  records : Vector (Option FaultRec) 12
  dispositions : Vector Disposition 12
  priority : List FaultClass
  latches : Vector Bool 42
deriving DecidableEq, Repr

/-- The six flags, or the six enables (R190). -/
structure Flags where
  fault : Bool
  mode : Bool
  streamLow : Bool
  serviceReady : Bool
  doubt : Bool
  overrun : Bool
deriving DecidableEq, Repr

/-- The notice flags, their enables and the attention output (R190, R192). -/
structure NoticeUnit where
  pending : Flags
  enabled : Flags
  attention : Bool
deriving DecidableEq, Repr

/-- A fault to be raised: its class and its party, if it names one (R171). -/
structure Raise where
  cls : FaultClass
  party : Option Party
deriving DecidableEq, Repr

/-- The model's own: what the step in progress still has to do (log 7, log 8). Empty between steps. -/
structure Work where
  /-- Slots, lists, carriages or presence have changed: active lifts and call queues are to be brought up to date. -/
  touched : Bool
  /-- A change of R49 has been made: the hold queue is to be re-evaluated. -/
  reeval : Bool
  /-- A turn has ended or a presence has changed: the scheduler is to look for the next level (R137). -/
  look : Bool
  /-- Raisings left to the end of the event (R171). -/
  raises : List Raise
  /-- The upstream place kept for the ANSWER of the request in execution (R133). -/
  reserved : Bool
deriving DecidableEq, Repr

/-- The state of the controller. -/
structure State where
  time : Stamp
  timing : Timing
  slots : Vector LevelSlots 40
  table : Vector (Option Entry) 32
  lastExpired : Vector (Option Handle) 42
  stats : Vector Stat 42
  streams : Vector Stream 17
  coord : PerLift LiftRec
  links : PerLift LinkRec
  shuttles : Vector ShuttleRec 40
  bus : Bus
  store : StoreLine
  unsentAsks : List Tel
  requests : List ReqItem
  modeCtl : ModeCtl
  faults : FaultUnit
  notices : NoticeUnit
  work : Work
  /-- Commands that wait, first in first out. -/
  pending : List Instr
deriving DecidableEq, Repr

/-- Reasons a step stops with a fault. The spec gives every command an effect in every state (a refusal sent back, a
discard, or no effect), so no meaning answers one. -/
inductive Fault where
  /-- Raised by no meaning of this model. Safe: a claim that a run does not fault loses nothing. -/
  | never
deriving DecidableEq, Repr

/-- Reasons a step refuses a command. -/
inductive Refusal where
  /-- Raised by an arm of `exec` whose row has no meaning yet; no arm is left so. Safe: nothing is claimed of it. -/
  | notModelled (mnemonic : String)
deriving DecidableEq, Repr

/-! ### Reset values -/

/-- The reset values of the timing table (R24). -/
def Timing.resetValues : Timing where
  tick := 1
  shuttleBase := 3000
  shuttlePer := 1500
  liftBase := 2500
  liftPer := 1200
  holdShuttle := 20000
  holdLift := 8000
  confirmLimit := 4000
  visitBase := 6000
  visitPer := 3500
  missThreshold := 3
  probeInterval := 8

/-- The reset row of a stream: stream 0 is routed, the others are not (R79, R104). -/
def Row.resetValues (routed : Bool) : Row where
  routed := routed
  primary := .a
  alternate := none
  window := 1
  stray := .refuse
  confirm := false
  dflt := .deny
  lowMark := 0

/-- A stream after a full reset (R104). -/
def Stream.resetValues (routed : Bool) : Stream where
  row := Row.resetValues routed
  active := .a
  switchPending := false
  list := []
  lowMarker := false
  released := 0
  delivered := 0

/-- The six slots of a level after a full reset (R22). -/
def LevelSlots.allOff : LevelSlots where
  in1 := .off
  in2 := .off
  a1 := .off
  a2 := .off
  b1 := .off
  b2 := .off

/-- A level's scheduler record after a full reset (R155). -/
def ShuttleRec.resetValues : ShuttleRec where
  presence := .unmapped
  miss := 0
  mark := false
  firmware := 0
  box := []

/-- A lift's coordinator record after a full reset: RETURNING, its STATE-ASK interval running (R78). -/
def LiftRec.resetValues : LiftRec where
  presence := .returning
  askTimer := some Config.stateAskInterval
  firmware := none
  carriage := []
  visit := none
  calls := []

/-- The STATE-ASK sent to a lift at the reset (R78, R135): station 41 or 42 of the controller's aisle. -/
def Tel.resetStateAsk (aisle station : Byte) : Tel where
  dstAisle := aisle
  dstStation := station
  srcAisle := aisle
  srcStation := 0
  kind := 0x12
  tag := 0
  body := .nothing

/-- A lift link after a full reset: the queue empty (R136), then the STATE-ASK of R78 in it (log 4). -/
def LinkRec.resetValues (aisle station : Byte) : LinkRec where
  rx := .hunt
  ownTag := 0
  down := [{ tel := Tel.resetStateAsk aisle station, own := true, begun := false }]

/-- The level bus after a full reset (R136, R155): no cycle has begun, for no level is polled (R138). -/
def Bus.resetValues : Bus where
  pos := none
  next := none
  probeCount := 0
  cycle := false
  probeCycle := false
  turn := .idle
  rx := .hunt
  queue := []
  ownTag := 0

/-- The unique aisle number that switches give: a setting above 63 is read as 0 (R122). -/
def switchAisle (switches : Byte) : Byte := if switches.toNat ≤ 63 then switches else 0

/-- The store line after a full reset (R136). -/
def StoreLine.resetValues (aisle : Byte) : StoreLine where
  rx := .hunt
  tx := .idle
  upstream := []
  noticeWait := none
  nfWait := []
  unique := aisle
  group := 0
  maskValue := 0
  mask := 0
  ownTag := 0

/-- The mode controller after a full reset (R170). -/
def ModeCtl.resetValues (stop : Bool) : ModeCtl where
  mode := .config
  motion := false
  resumeDefault := .reissue
  stop := stop

/-- The priority list after a full reset (R179). -/
def resetPriority : List FaultClass :=
  [.stopInput, .ungrantedAct, .order, .actTimeout, .visitTimeout, .partyMismatch, .pollSilence, .lateReport,
    .queueOverrun, .route, .linkForm, .linkCheck]

/-- The dispositions after a full reset, in class order (R174). -/
def resetDispositions : Vector Disposition 12 :=
  #v[.note, .note, .note, .note, .note, .fence, .fence, .note, .halt, .fence, .halt, .halt]

/-- The fault unit after a full reset (R183). -/
def FaultUnit.resetValues : FaultUnit where
  records := Vector.replicate 12 none
  dispositions := resetDispositions
  priority := resetPriority
  latches := Vector.replicate 42 false

/-- Flags that are all as given. -/
def Flags.all (v : Bool) : Flags where
  fault := v
  mode := v
  streamLow := v
  serviceReady := v
  doubt := v
  overrun := v

/-- The management unit after a full reset: no flag pending, all enables on, attention off (R190, R192). -/
def NoticeUnit.resetValues : NoticeUnit where
  pending := Flags.all false
  enabled := Flags.all true
  attention := false

/-- Nothing left to do. -/
def Work.done : Work where
  touched := false
  reeval := false
  look := false
  raises := []
  reserved := false

/-- The state right after a full reset that has read these switches and this stop input, before a stop input found
asserted is raised (R170). -/
def State.resetWith (switches : Byte) (stop : Bool) : State where
  time := 0
  timing := Timing.resetValues
  slots := Vector.replicate 40 LevelSlots.allOff
  table := Vector.replicate 32 none
  lastExpired := Vector.replicate 42 none
  stats := Vector.replicate 42 { completed := 0, last := 0, largest := 0 }
  streams := (Vector.replicate 17 (Stream.resetValues false)).set 0 (Stream.resetValues true)
  coord := { a := LiftRec.resetValues, b := LiftRec.resetValues }
  links := { a := LinkRec.resetValues (switchAisle switches) 41, b := LinkRec.resetValues (switchAisle switches) 42 }
  shuttles := Vector.replicate 40 ShuttleRec.resetValues
  bus := Bus.resetValues
  store := StoreLine.resetValues (switchAisle switches)
  unsentAsks := []
  requests := []
  modeCtl := ModeCtl.resetValues stop
  faults := FaultUnit.resetValues
  notices := NoticeUnit.resetValues
  work := Work.done
  pending := []

/-- The machine right after reset. The switch setting and the stop input are the model's choice (log 4). -/
def State.reset : State := State.resetWith Config.resetSwitches Config.resetStop

end Sys2Proof.Machine
end

