-- ==== Sys2Proof/Machine/Ops.lean ====
section
/-! DEFINITION. The named operations that every block uses: numbers and bytes, codes of Tables 6-1 to 6-6 and of
Table 10-2, the bytes of a telegram, reading and writing the parts of State, and the queues of the link interface. -/

namespace Sys2Proof

/-- The station of a lift: 41 for A, 42 for B (00_scope.md, 3). -/
def Lift.station : Lift → Byte
  | .a => 41
  | .b => 42

/-- The other lift. -/
def Lift.other : Lift → Lift
  | .a => .b
  | .b => .a

/-- The index of a party: shuttles first, then lift A, then lift B, which is the order of R23 for equal stamps. -/
def Party.idx : Party → PartyNo
  | .shuttle n => ⟨n.val, by omega⟩
  | .lift .a => 40
  | .lift .b => 41

/-- The station of a party (00_scope.md, 3). -/
def Party.station (p : Party) : Byte := BitVec.ofNat 8 (p.idx.val + 1)

/-- The port on which a party's telegrams arrive (R125). -/
def Party.port : Party → Port
  | .shuttle _ => .levelBus
  | .lift x => .link x

end Sys2Proof

namespace Sys2Proof.Machine

/-! ### Numbers and bytes -/

/-- A number as one byte. -/
def byte (n : Nat) : Byte := BitVec.ofNat 8 n

/-- A mark as one byte, 1 or 0. -/
def markByte (b : Bool) : Byte := if b then 1 else 0

/-- Two bytes, high byte first (00_scope.md, 5.2). -/
def be16 (w : BitVec 16) : List Byte := [w.extractLsb' 8 8, w.extractLsb' 0 8]

/-- Four bytes, high byte first (00_scope.md, 5.2). -/
def be32 (w : BitVec 32) : List Byte :=
  [w.extractLsb' 24 8, w.extractLsb' 16 8, w.extractLsb' 8 8, w.extractLsb' 0 8]

/-- The 16-bit number two bytes spell. -/
def join16 (a b : Byte) : BitVec 16 := a ++ b

/-- The 32-bit number four bytes spell. -/
def join32 (a b c d : Byte) : BitVec 32 := ((a ++ b) ++ c) ++ d

/-- A set of marks as `n` bytes, high byte first, item k of the list being bit k - 1 (Table 10-2). -/
def markSet (n : Nat) (marks : List Bool) : List Byte :=
  let w := marks.foldr (fun b acc => 2 * acc + (if b then 1 else 0)) 0
  (List.range n).reverse.map (fun i => byte (w / 256 ^ i))

/-- Age of a stamp: the aisle time minus the stamp modulo 2^32 (R23). -/
def age (now stamp : Stamp) : Stamp := now - stamp

/-- Insertion of one item in an order. -/
def insertBy {α : Type} (before : α → α → Bool) (x : α) : List α → List α
  | [] => [x]
  | y :: ys => if before y x then y :: insertBy before x ys else x :: y :: ys

/-- The list in an order; items that neither precedes keep their order. -/
def sortBy {α : Type} (before : α → α → Bool) : List α → List α
  | [] => []
  | x :: xs => insertBy before x (sortBy before xs)

/-- A vector with every item changed, its index given. -/
def vmap {α β : Type} {n : Nat} (v : Vector α n) (f : Fin n → α → β) : Vector β n :=
  ⟨⟨(List.finRange n).map (fun i => f i v[i])⟩, by simp⟩

/-- A list names nothing twice. -/
def allDiffer {α : Type} [DecidableEq α] : List α → Bool
  | [] => true
  | x :: xs => !xs.contains x && allDiffer xs

/-! ### Codes -/

/-- The level number 1 to 40 as a byte. -/
def levelByte (n : Level) : Byte := byte (n.val + 1)

/-- The level a byte names, if it is 1 to 40 (R2). -/
def levelOf (b : Byte) : Option Level :=
  if h : 1 ≤ b.toNat ∧ b.toNat ≤ 40 then some ⟨b.toNat - 1, by omega⟩ else none

/-- The stream a byte names, if it is 0 to 16. -/
def streamOf (b : Byte) : Option StreamNo :=
  if h : b.toNat < 17 then some ⟨b.toNat, h⟩ else none

/-- The handle a byte names, if it is 0 to 31. -/
def handleOf (b : Byte) : Option Handle :=
  if h : b.toNat < 32 then some ⟨b.toNat, h⟩ else none

/-- A handle as a byte. -/
def handleByte (h : Handle) : Byte := byte h.val

/-- The party a station names, if it is 1 to 42. -/
def partyOf (b : Byte) : Option Party :=
  if b = 41 then some (.lift .a) else if b = 42 then some (.lift .b) else (levelOf b).map .shuttle

/-- The lift a byte names by its station (Table 10-2). -/
def liftOf (b : Byte) : Option Lift :=
  if b = 41 then some .a else if b = 42 then some .b else none

/-- Slot codes (R1). -/
def SlotCode.byte : SlotCode → Byte
  | .in1 => 1
  | .in2 => 2
  | .a1 => 3
  | .a2 => 4
  | .b1 => 5
  | .b2 => 6

/-- All slot codes in order. -/
def SlotCode.all : List SlotCode := [.in1, .in2, .a1, .a2, .b1, .b2]

/-- The slot a code names, if it is 1 to 6 (R2). -/
def slotCodeOf (b : Byte) : Option SlotCode := SlotCode.all.find? (fun c => c.byte = b)

/-- The two places of the IN pair, place 1 first (R1). -/
def inPair : List SlotCode := [.in1, .in2]

/-- The two places of a lift's OUT pair, place 1 first (R1). -/
def outPair : Lift → List SlotCode
  | .a => [.a1, .a2]
  | .b => [.b1, .b2]

/-- The other place of the same pair (R1, R33). -/
def SlotCode.partner : SlotCode → SlotCode
  | .in1 => .in2
  | .in2 => .in1
  | .a1 => .a2
  | .a2 => .a1
  | .b1 => .b2
  | .b2 => .b1

/-- The lift whose OUT pair a slot belongs to (R1). -/
def SlotCode.outLift : SlotCode → Option Lift
  | .in1 | .in2 => none
  | .a1 | .a2 => some .a
  | .b1 | .b2 => some .b

/-- Reason codes (Table 6-6). -/
def Reason.code : Reason → Byte
  | .config => 1
  | .halted => 2
  | .draining => 3
  | .partyFault => 4
  | .service => 5
  | .notReady => 6
  | .tableFull => 7
  | .busy => 8
  | .duplicate => 9
  | .badTote => 10
  | .badSlot => 11
  | .badCount => 12
  | .noRoute => 13
  | .stray => 14
  | .full => 15
  | .empty => 16
  | .notEligible => 17
  | .reserve => 18
  | .confirm => 19
  | .route => 20
  | .denied => 22
  | .timeout => 23
  | .revoked => 24
  | .late => 25
  | .noGrant => 26
  | .noVisit => 27
  | .inVisit => 28
  | .order => 29
  | .absent => 30
  | .unmapped => 31
  | .poolFull => 32
  | .listFull => 33
  | .readOnly => 34
  | .void => 35

/-- The result byte of an ANSWER: 0 for OK, or a reason code (Table 6-5). -/
def resultByte : Option Reason → Byte
  | none => 0
  | some r => r.code

/-- Class numbers less one (R171). -/
def FaultClass.idx : FaultClass → Fin 12
  | .linkCheck => 0
  | .linkForm => 1
  | .route => 2
  | .queueOverrun => 3
  | .pollSilence => 4
  | .partyMismatch => 5
  | .actTimeout => 6
  | .lateReport => 7
  | .ungrantedAct => 8
  | .visitTimeout => 9
  | .order => 10
  | .stopInput => 11

/-- The twelve classes in number order (R171). -/
def FaultClass.all : List FaultClass :=
  [.linkCheck, .linkForm, .route, .queueOverrun, .pollSilence, .partyMismatch, .actTimeout, .lateReport,
    .ungrantedAct, .visitTimeout, .order, .stopInput]

/-- Class numbers 1 to 12 (R171). -/
def FaultClass.byte (c : FaultClass) : Byte := Machine.byte (c.idx.val + 1)

/-- The class a number names, if it is 1 to 12 (R171). -/
def classOf (b : Byte) : Option FaultClass := FaultClass.all.find? (fun c => c.byte = b)

/-- Aisle modes as in the NOTICE (6.12). -/
def Mode.byte : Mode → Byte
  | .config => 0
  | .run => 1
  | .drain => 2
  | .halt => 3

/-- The mode a byte names. -/
def modeOf (b : Byte) : Option Mode :=
  if b = 0 then some .config else if b = 1 then some .run else if b = 2 then some .drain
  else if b = 3 then some .halt else none

/-- Resume modes (Table 10-2, Table 10-3). -/
def ResumeMode.byte : ResumeMode → Byte
  | .reissue => 1
  | .revoke => 2

/-- Dispositions (Table 10-3). -/
def Disposition.byte : Disposition → Byte
  | .note => 0
  | .fence => 1
  | .halt => 2

/-- The disposition a byte names (R174). -/
def dispositionOf (b : Byte) : Option Disposition :=
  if b = 0 then some .note else if b = 1 then some .fence else if b = 2 then some .halt else none

/-- Flags in the form of the NOTICE flags byte (6.12). -/
def Flags.byte (f : Flags) : Byte :=
  Machine.byte ((if f.fault then 1 else 0) + (if f.mode then 2 else 0) + (if f.streamLow then 4 else 0)
    + (if f.serviceReady then 8 else 0) + (if f.doubt then 16 else 0) + (if f.overrun then 32 else 0))

/-- The flags a NOTICE flags byte names; bits 6 and 7 are not looked at (6.12). -/
def flagsOf (b : Byte) : Flags where
  fault := b.getLsbD 0
  mode := b.getLsbD 1
  streamLow := b.getLsbD 2
  serviceReady := b.getLsbD 3
  doubt := b.getLsbD 4
  overrun := b.getLsbD 5

/-- Kind codes of Table 6-3. -/
def kPoll : Byte := 0x10
/-- IDLE. -/
def kIdle : Byte := 0x11
/-- STATE-ASK. -/
def kStateAsk : Byte := 0x12
/-- STATE. -/
def kState : Byte := 0x13
/-- PLACE-ASK. -/
def kPlaceAsk : Byte := 0x20
/-- FETCH-ASK. -/
def kFetchAsk : Byte := 0x21
/-- PLACED. -/
def kPlaced : Byte := 0x22
/-- FETCHED. -/
def kFetched : Byte := 0x23
/-- QUIT. -/
def kQuit : Byte := 0x24
/-- GO. -/
def kGo : Byte := 0x28
/-- HOLD. -/
def kHold : Byte := 0x29
/-- REFUSE. -/
def kRefuse : Byte := 0x2A
/-- VISIT-OPEN. -/
def kVisitOpen : Byte := 0x30
/-- VISIT-CLOSE. -/
def kVisitClose : Byte := 0x31
/-- VISIT-END. -/
def kVisitEnd : Byte := 0x32
/-- NEXT-CALL. -/
def kNextCall : Byte := 0x33
/-- CALL. -/
def kCall : Byte := 0x34
/-- LOAD. -/
def kLoad : Byte := 0x35
/-- UNLOAD. -/
def kUnload : Byte := 0x36
/-- NOT-FORWARDED. -/
def kNotForwarded : Byte := 0x40
/-- STORE-POLL. -/
def kStorePoll : Byte := 0x50
/-- END. -/
def kEnd : Byte := 0x51
/-- REQUEST. -/
def kRequest : Byte := 0x52
/-- ANSWER. -/
def kAnswer : Byte := 0x53
/-- NOTICE. -/
def kNotice : Byte := 0x54
/-- CONFIRM-ASK. -/
def kConfirmAsk : Byte := 0x55

/-- The kind code of the ask that made an entry (R25, Table 10-2). -/
def Kind.ask : Kind → Byte
  | .place => kPlaceAsk
  | .fetch => kFetchAsk

/-- The kind code of the completion of an entry (R40). -/
def Kind.report : Kind → Byte
  | .place => kPlaced
  | .fetch => kFetched

/-- Order and report traffic: kinds 0x60 to 0xFF (Table 6-3). -/
def isReport (k : Byte) : Bool := 0x60 ≤ k.toNat

/-- The kinds of Table 6-3 (R120, step 5). -/
def knownKind (k : Byte) : Bool :=
  [kPoll, kIdle, kStateAsk, kState, kPlaceAsk, kFetchAsk, kPlaced, kFetched, kQuit, kGo, kHold, kRefuse, kVisitOpen,
    kVisitClose, kVisitEnd, kNextCall, kCall, kLoad, kUnload, kNotForwarded, kStorePoll, kEnd, kRequest, kAnswer,
    kNotice, kConfirmAsk].contains k || isReport k

/-! ### Bytes of a telegram -/

/-- The six bytes of a tote record (Table 6-4). -/
def toteBytes (r : ToteRec) : List Byte := be32 r.id ++ [r.stream, r.dest]

/-- The body bytes of a telegram of the controller (Table 6-5). -/
def Body.bytes : Body → List Byte
  | .nothing => []
  | .go h k items => [h, k, byte items.length] ++ items.flatMap (fun i => [levelByte i.1, i.2.1.byte] ++ be32 i.2.2)
  | .hold h r => [h, r.code]
  | .refuse k r h => [k, r.code, h]
  | .visit l p f => [l, p, f]
  | .notForwarded r a s k t => [r.code, a, s, k, t]
  | .endCount n => [n]
  | .answer c r d => [c, resultByte r] ++ d
  | .notice f low lead m => [f] ++ be16 low ++ [lead, m]
  | .confirmAsk h id st x l => [h] ++ be32 id ++ [st, x, l]
  | .raw b => b

/-- The sum of bytes modulo 65536 (R119). -/
def byteSum (bs : List Byte) : BitVec 16 := bs.foldl (fun acc b => acc + b.zeroExtend 16) 0

/-- The check of the bytes before it (R119). -/
def checkOf (bs : List Byte) : BitVec 16 := 65535 - byteSum bs

/-- A telegram from byte 0 to its last body byte (Table 6-2). -/
def Tel.front (t : Tel) : List Byte :=
  [byte (t.body.bytes.length + 6), t.dstAisle, t.dstStation, t.srcAisle, t.srcStation, t.kind, t.tag] ++ t.body.bytes

/-- A telegram as it is sent: with its check, high byte first (R119, Table 6-2). -/
def Tel.bytes (t : Tel) : List Byte := t.front ++ be16 (checkOf t.front)

/-! ### Parts of State -/

/-- The lift's thing. -/
def PerLift.get {α : Type} (p : PerLift α) : Lift → α
  | .a => p.a
  | .b => p.b

/-- With the lift's thing replaced. -/
def PerLift.set {α : Type} (p : PerLift α) : Lift → α → PerLift α
  | .a, v => { p with a := v }
  | .b, v => { p with b := v }

/-- One slot of a level. -/
def LevelSlots.get (l : LevelSlots) : SlotCode → Slot
  | .in1 => l.in1
  | .in2 => l.in2
  | .a1 => l.a1
  | .a2 => l.a2
  | .b1 => l.b1
  | .b2 => l.b2

/-- With one slot of a level replaced. -/
def LevelSlots.set (l : LevelSlots) : SlotCode → Slot → LevelSlots
  | .in1, v => { l with in1 := v }
  | .in2, v => { l with in2 := v }
  | .a1, v => { l with a1 := v }
  | .a2, v => { l with a2 := v }
  | .b1, v => { l with b1 := v }
  | .b2, v => { l with b2 := v }

/-- The record of a slot. -/
def State.slot (s : State) (n : Level) (c : SlotCode) : Slot := (s.slots[n]).get c

/-- Write the record of a slot. -/
def State.setSlot (s : State) (n : Level) (c : SlotCode) (v : Slot) : State :=
  { s with slots := s.slots.set n ((s.slots[n]).set c v) }

/-- The entry with a handle. -/
def State.entry (s : State) (h : Handle) : Option Entry := s.table[h]

/-- Write the entry of a handle. -/
def State.setEntry (s : State) (h : Handle) (e : Option Entry) : State := { s with table := s.table.set h e }

/-- The entries in use with their handles, lowest handle first. -/
def State.entries (s : State) : List (Handle × Entry) :=
  (List.finRange 32).filterMap (fun h => (s.entry h).map (fun e => (h, e)))

/-- The entry of a party, if it has one (R25). -/
def State.entryOf (s : State) (p : Party) : Option (Handle × Entry) := s.entries.find? (fun x => x.2.party = p)

/-- A stream. -/
def State.stream (s : State) (i : StreamNo) : Stream := s.streams[i]

/-- Write a stream. -/
def State.setStream (s : State) (i : StreamNo) (v : Stream) : State := { s with streams := s.streams.set i v }

/-- What the lift coordinator keeps of a lift. -/
def State.lift (s : State) (x : Lift) : LiftRec := s.coord.get x

/-- Write what the lift coordinator keeps of a lift. -/
def State.setLift (s : State) (x : Lift) (v : LiftRec) : State := { s with coord := s.coord.set x v }

/-- A lift link. -/
def State.link (s : State) (x : Lift) : LinkRec := s.links.get x

/-- Write a lift link. -/
def State.setLink (s : State) (x : Lift) (v : LinkRec) : State := { s with links := s.links.set x v }

/-- What the scheduler keeps of a level. -/
def State.shuttle (s : State) (n : Level) : ShuttleRec := s.shuttles[n]

/-- Write what the scheduler keeps of a level. -/
def State.setShuttle (s : State) (n : Level) (v : ShuttleRec) : State := { s with shuttles := s.shuttles.set n v }

/-- The latch of a party (R176). -/
def State.latch (s : State) (p : Party) : Bool := s.faults.latches[p.idx]

/-- Write the latch of a party. -/
def State.setLatchBit (s : State) (p : Party) (b : Bool) : State :=
  { s with faults := { s.faults with latches := s.faults.latches.set p.idx b } }

/-- The last-expired handle of a party (R27). -/
def State.lastExpiredOf (s : State) (p : Party) : Option Handle := s.lastExpired[p.idx]

/-- Write the last-expired handle of a party. -/
def State.setLastExpired (s : State) (p : Party) (h : Option Handle) : State :=
  { s with lastExpired := s.lastExpired.set p.idx h }

/-- The fault record of a class (R172). -/
def State.faultRec (s : State) (c : FaultClass) : Option FaultRec := s.faults.records[c.idx]

/-- Write the fault record of a class. -/
def State.setFaultRec (s : State) (c : FaultClass) (r : Option FaultRec) : State :=
  { s with faults := { s.faults with records := s.faults.records.set c.idx r } }

/-- The disposition of a class (R174). -/
def State.disposition (s : State) (c : FaultClass) : Disposition := s.faults.dispositions[c.idx]

/-- The aisle mode. -/
def State.mode (s : State) : Mode := s.modeCtl.mode

/-! ### What the step still has to do -/

/-- A slot, list, carriage or presence has changed (R20, R75, R95). -/
def State.touch (s : State) : State := { s with work := { s.work with touched := true } }

/-- A change of R49 has been made. -/
def State.wantReeval (s : State) : State := { s with work := { s.work with touched := true, reeval := true } }

/-- A turn has ended or a presence has changed: the scheduler looks at the end of the event (R137, R138). -/
def State.wantLook (s : State) : State := { s with work := { s.work with look := true } }

/-- Leave a raising to the end of the event (R171). -/
def State.raise (s : State) (c : FaultClass) (p : Option Party) : State :=
  { s with work := { s.work with raises := s.work.raises ++ [{ cls := c, party := p }] } }

/-! ### Telegrams of the controller and their queues -/

/-- A telegram of the controller to a party (R135). -/
def State.toParty (s : State) (p : Party) (kind tag : Byte) (b : Body) : Tel where
  dstAisle := s.store.unique
  dstStation := p.station
  srcAisle := s.store.unique
  srcStation := 0
  kind := kind
  tag := tag
  body := b

/-- A telegram of the controller to the store controller (R135). -/
def State.toStore (s : State) (kind tag : Byte) (b : Body) : Tel where
  dstAisle := 0
  dstStation := 0
  srcAisle := s.store.unique
  srcStation := 0
  kind := kind
  tag := tag
  body := b

/-- An own telegram joins a lift's downstream queue while fewer than 8 places are in use; else it is discarded and
QUEUE OVERRUN is raised against the lift (R128). -/
def State.sendLift (s : State) (x : Lift) (t : Tel) : State :=
  let k := s.link x
  if k.down.length < Config.liftQueuePlaces then
    s.setLink x { k with down := k.down ++ [{ tel := t, own := true, begun := false }] }
  else s.raise .queueOverrun (some (.lift x))

/-- A STATE-ASK to a lift, with the own-tag count of its link; not sent when no place is free (R56, R135). -/
def State.sendStateAsk (s : State) (x : Lift) : State :=
  let k := s.link x
  if k.down.length < Config.liftQueuePlaces then
    s.setLink x { k with
      down := k.down ++ [{ tel := s.toParty (.lift x) kStateAsk k.ownTag .nothing, own := true, begun := false }] }
  else s

/-- A place of an answer box holds an unbegun HOLD about the entry (R39), known by its handle alone: the model's choice
(log 46). -/
def BoxItem.holdsHold (i : BoxItem) (h : Handle) : Bool :=
  !i.begun && match i.tel.body with
    | .hold h' _ => h' = handleByte h
    | _ => false

/-- Put a telegram in the place of the first place that a test picks. -/
def replaceFirst {α : Type} (f : α → Bool) (v : α) : List α → List α
  | [] => []
  | x :: xs => if f x then v :: xs else x :: replaceFirst f v xs

/-- An answer box after an answer is put in: in the place of an unsent HOLD about the same entry; else at the end; the
older answer is discarded when both places are in use (R39). `about` is the entry the answer is about (log 12). -/
def putBox (box : List BoxItem) (t : Tel) (about : Option Handle) : List BoxItem :=
  let i : BoxItem := { tel := t, begun := false }
  match about with
  | some h =>
    if box.any (fun j => j.holdsHold h) then replaceFirst (fun j => j.holdsHold h) i box
    else if box.length < Config.boxPlaces then box ++ [i] else box.drop 1 ++ [i]
  | none => if box.length < Config.boxPlaces then box ++ [i] else box.drop 1 ++ [i]

/-- An answer for a shuttle goes to its level's answer box; in SERVICE and UNMAPPED it is discarded at once (R143). -/
def State.sendShuttle (s : State) (n : Level) (t : Tel) (about : Option Handle) : State :=
  let r := s.shuttle n
  match r.presence with
  | .service => s
  | .unmapped => s
  | .returning => s.setShuttle n { r with box := putBox r.box t about }
  | .online => s.setShuttle n { r with box := putBox r.box t about }
  | .absent => s.setShuttle n { r with box := putBox r.box t about }

/-- An answer to a party goes back on its port (R39). -/
def State.sendParty (s : State) (p : Party) (t : Tel) (about : Option Handle) : State :=
  match p with
  | .shuttle n => s.sendShuttle n t about
  | .lift x => s.sendLift x t

/-- REFUSE: the kind refused, the reason, a handle or 255, and the tag of what it answers (R28, R135). -/
def State.refuse (s : State) (p : Party) (kind : Byte) (r : Reason) (handle tag : Byte) (about : Option Handle) : State :=
  s.sendParty p (s.toParty p kRefuse tag (.refuse kind r handle)) about

/-- Places of the upstream queue in use, the one kept for an ANSWER among them (R129, R133). -/
def State.upstreamUsed (s : State) : Nat := s.store.upstream.length + (if s.work.reserved then 1 else 0)

/-- A place of the upstream queue is free for an own telegram (R129). -/
def State.placeFree (s : State) : Bool := s.upstreamUsed < Config.upstreamPlaces

/-- A telegram joins the upstream queue at its tail. -/
def State.pushUpstream (s : State) (t : Tel) : State :=
  { s with store := { s.store with upstream := s.store.upstream ++ [t] } }

/-- A NOT-FORWARDED to the store controller: admitted, or waiting, or discarded with QUEUE OVERRUN (R130, R134). -/
def State.sendNotForwarded (s : State) (r : Reason) (t : Tel) : State :=
  let nf := s.toStore kNotForwarded t.tag (.notForwarded r t.dstAisle t.dstStation t.kind t.tag)
  if s.placeFree then s.pushUpstream nf
  else if s.store.nfWait.length < Config.waitPlaces then
    { s with store := { s.store with nfWait := s.store.nfWait ++ [nf] } }
  else s.raise .queueOverrun none

/-- A CONFIRM-ASK: admitted, or kept unsent by the confirm unit (R107). -/
def State.sendConfirmAsk (s : State) (t : Tel) : State :=
  if s.placeFree then s.pushUpstream t else { s with unsentAsks := s.unsentAsks ++ [t] }

/-- A CONFIRM-ASK is about the entry with this handle (R107). -/
def Tel.asksAbout (t : Tel) (h : Handle) : Bool :=
  match t.body with
  | .confirmAsk h' _ _ _ _ => h' = handleByte h
  | _ => false

/-- The unsent CONFIRM-ASKs of an entry are discarded (R107). -/
def State.dropConfirmAsks (s : State) (h : Handle) : State :=
  { s with unsentAsks := s.unsentAsks.filter (fun t => !t.asksAbout h) }

/-- The telegrams of a level in the level downstream queue are removed, and a NOT-FORWARDED is made for each in the
order they were admitted (R145, R149, R151). -/
def State.flushLevel (s : State) (n : Level) (r : Reason) : State :=
  let gone := s.bus.queue.filter (fun i => i.level = n)
  let s := { s with bus := { s.bus with queue := s.bus.queue.filter (fun i => i.level ≠ n) } }
  gone.foldl (fun s i => s.sendNotForwarded r i.tel) s

/-- A level's answer box is emptied whole (R143). -/
def State.emptyBox (s : State) (n : Level) : State := s.setShuttle n { s.shuttle n with box := [] }

/-- The forwarded telegrams of a lift whose first character has not gone out are answered NOT-FORWARDED SERVICE and
discarded (R61). -/
def State.flushLift (s : State) (x : Lift) : State :=
  let k := s.link x
  let gone := k.down.filter (fun i => !i.own && !i.begun)
  let s := s.setLink x { k with down := k.down.filter (fun i => i.own || i.begun) }
  gone.foldl (fun s i => s.sendNotForwarded .service i.tel) s

/-- A telegram is a GO of a grant, not the GO that answers a VISIT-OPEN (R164; at a latch log 48). -/
def Tel.isGrantGo (t : Tel) : Bool :=
  match t.body with
  | .go _ asked _ => asked ≠ kVisitOpen
  | _ => false

/-- Every GO of a grant to a party whose frame has not begun is withdrawn and discarded (R164, R176). At a latch too the
unsent GO that answers a VISIT-OPEN stays and is sent, the model's choice (R177, log 48). -/
def State.withdrawGos (s : State) (p : Party) : State :=
  match p with
  | .shuttle n =>
    let r := s.shuttle n
    s.setShuttle n { r with box := r.box.filter (fun i => i.begun || !i.tel.isGrantGo) }
  | .lift x =>
    let k := s.link x
    s.setLink x { k with down := k.down.filter (fun i => i.begun || !i.tel.isGrantGo) }

/-- A telegram is the GO of the grant of this handle. -/
def Tel.isGoOf (t : Tel) (h : Handle) : Bool :=
  match t.body with
  | .go h' asked _ => asked ≠ kVisitOpen && h' = handleByte h
  | _ => false

/-- The GO of a grant is still unsent in its queue: it stands there and its frame has not begun (R176). It is known by its
handle alone, so one of an earlier entry with that handle counts too: the model's choice (log 46). -/
def State.goUnsent (s : State) (p : Party) (h : Handle) : Bool :=
  match p with
  | .shuttle n => (s.shuttle n).box.any (fun i => !i.begun && i.tel.isGoOf h)
  | .lift x => (s.link x).down.any (fun i => !i.begun && i.tel.isGoOf h)

end Sys2Proof.Machine
end

