-- ==== Sys2Proof/Machine/Operands.lean ====
section
/-! DEFINITION. Reading bytes: what a receiver makes of the characters of a telegram (R118 to R120), its header (Table
6-2), the fields of the bodies that the controller takes (Table 6-5), and the arguments of a REQUEST (Tables 10-1 to
10-3). -/

namespace Sys2Proof

/-! ### Characters -/

/-- The parity bit that makes the number of ones among 8 data bits and itself even (R117). -/
def evenParity (b : Byte) : Bool := ((List.range 8).filter (fun i => b.getLsbD i)).length % 2 = 1

/-- A received character fails: its parity bit does not give even parity, or its stop bit is not a one (R117). -/
def Character.fails (c : Character) : Bool := c.parity ≠ evenParity c.data || !c.stop

/-- The character the controller sends for a byte, with correct parity and stop bit (R117). -/
def sentCharacter (b : Byte) : Character where
  data := b
  parity := evenParity b
  stop := true

/-- The ten bits of a character after its start bit, in the order in which they stand on the line: the data bits least
significant first, the parity bit, the stop bit (R117). -/
def Character.bits (c : Character) : List Bool := (List.range 8).map (fun i => c.data.getLsbD i) ++ [c.parity, c.stop]

end Sys2Proof

namespace Sys2Proof.Machine

/-! ### Telegrams -/

/-- The characters of a telegram that the controller sends (R117, R119). -/
def Tel.characters (t : Tel) : List Character := t.bytes.map sentCharacter

/-- A received telegram by its fields (Table 6-2); length and check have been judged. -/
structure Frame where
  dstAisle : Byte
  dstStation : Byte
  srcAisle : Byte
  srcStation : Byte
  kind : Byte
  tag : Byte
  body : List Byte
deriving DecidableEq, Repr

/-- What characters on a port come to: no telegram ended, one that fails steps 1 to 3 of R120 with its class, or a sound
telegram. -/
inductive Reception where
  | nothing
  | failed (c : FaultClass)
  | sound (f : Frame)
deriving DecidableEq, Repr

/-- The length byte is outside 6 to 54 (R120, step 2). -/
def badLength (l : Byte) : Bool := l.toNat < 6 || 54 < l.toNat

/-- The check of a whole telegram passes (R119). -/
def checkPasses (bytes : List Byte) : Bool :=
  match (bytes.drop (bytes.length - 2)) with
  | [hi, lo] => byteSum (bytes.take (bytes.length - 2)) + join16 hi lo = 65535
  | _ => false

/-- The fields of a whole telegram (Table 6-2). -/
def frameOf : List Byte → Option Frame
  | _ :: da :: ds :: sa :: ss :: k :: t :: rest => some ⟨da, ds, sa, ss, k, t, rest.take (rest.length - 2)⟩
  | _ => none

/-- What the bytes of a telegram, byte 0 first, come to: none while fewer than L + 3 have been received, else the outcome
of steps 2 and 3 of R120 (R118, R120). -/
def judgeBytes (bytes : List Byte) : Option Reception :=
  match bytes with
  | [] => none
  | l :: _ =>
    if badLength l then some (.failed .linkForm)
    else if bytes.length < l.toNat + 3 then none
    else if checkPasses bytes then
      match frameOf bytes with
      | some f => some (.sound f)
      | none => some (.failed .linkForm)
    else some (.failed .linkCheck)

/-- Characters appended to the bytes a receiver holds: the receiver after them, and what the telegram came to if it ended
among them. The characters after its end find the receiver in HUNT (R118, R120, R141). -/
def takeCharacters (held : List Byte) : List Character → Rx × Reception
  | [] => (if held.isEmpty then .ready else .receiving held, .nothing)
  | c :: cs =>
    if c.fails then (.hunt, .failed .linkCheck)
    else match judgeBytes (held ++ [c.data]) with
      | some r => (.hunt, r)
      | none => takeCharacters (held ++ [c.data]) cs

/-- Characters that arrive at a receiver without a gap: discarded in HUNT; in READY the first is byte 0 of a telegram; in
RECEIVING they are appended (R118). -/
def Rx.take (rx : Rx) (cs : List Character) : Rx × Reception :=
  match rx with
  | .hunt => (.hunt, .nothing)
  | .ready => takeCharacters [] cs
  | .receiving held => takeCharacters held cs

/-- The bytes of a telegram whose fields these are. -/
def Frame.tel (f : Frame) : Tel := ⟨f.dstAisle, f.dstStation, f.srcAisle, f.srcStation, f.kind, f.tag, .raw f.body⟩

/-! ### Fields of bodies -/

/-- A run of tote IDs of 4 bytes each. -/
def idsOf : List Byte → Option (List ToteId)
  | [] => some []
  | a :: b :: c :: d :: r => (idsOf r).map (fun l => join32 a b c d :: l)
  | _ => none

/-- A run of tote records of 6 bytes each (Table 6-4). -/
def totesOf : List Byte → Option (List ToteRec)
  | [] => some []
  | a :: b :: c :: d :: s :: l :: r => (totesOf r).map (fun t => ⟨join32 a b c d, s, l⟩ :: t)
  | _ => none

/-- A count byte and that many tote IDs. -/
def countedIds (c : Byte) (bytes : List Byte) : Option (List ToteId) :=
  (idsOf bytes).filter (fun l => l.length = c.toNat)

/-- A count byte and that many tote records. -/
def countedTotes (c : Byte) (bytes : List Byte) : Option (List ToteRec) :=
  (totesOf bytes).filter (fun l => l.length = c.toNat)

/-- The body of a STATE (Table 6-5). -/
def stateBodyOf : List Byte → Option StateBody
  | k :: st :: fw :: rest =>
    if k = 2 then
      match rest with
      | c :: bytes => (countedTotes c bytes).map (fun l => ⟨k, st, fw, l⟩)
      | [] => none
    else if rest.isEmpty then some ⟨k, st, fw, []⟩
    else none
  | _ => none

/-- The wait flag, the count and what a PLACE-ASK names (Table 6-5). -/
def placeBodyOf (p : Party) : List Byte → Option (Byte × Byte × PlaceBody)
  | w :: n :: rest =>
    match p with
    | .shuttle _ => match totesOf rest with
      | some [r] => some (w, n, .record r)
      | _ => none
    | .lift _ => (countedIds n rest).map (fun l => (w, n, .ids l))
  | _ => none

/-- The handle and the tote IDs of a PLACED or FETCHED (Table 6-5). -/
def reportBodyOf : List Byte → Option (Byte × List ToteId)
  | h :: c :: rest => (countedIds c rest).map (fun l => (h, l))
  | _ => none

/-- The totes of a LOAD (Table 6-5). -/
def loadBodyOf : List Byte → Option (List ToteRec)
  | c :: rest => countedTotes c rest
  | [] => none

/-- The tote IDs of an UNLOAD (Table 6-5). -/
def unloadBodyOf : List Byte → Option (List ToteId)
  | c :: rest => countedIds c rest
  | [] => none

/-! ### Requests -/

/-- The function code of a request (Table 10-1). -/
def Req.code : Req → Byte
  | .unknown c => c
  | .badForm c => c
  | .slotMap _ | .routeRow _ _ | .timing _ | .disposition _ _ | .priority _ | .address _ _ _ | .enables _
  | .resumeDefault _ => 0x01
  | .tableRead _ _ => 0x02
  | .modeSet _ _ => 0x10
  | .append _ _ => 0x20
  | .cut _ _ => 0x21
  | .unbar _ _ => 0x22
  | .confirm _ _ => 0x23
  | .deny _ _ => 0x24
  | .slotSet _ _ _ _ => 0x30
  | .levelService _ _ => 0x31
  | .liftService _ _ => 0x32
  | .clearFault _ => 0x40
  | .clearLead => 0x41
  | .clearParty _ => 0x42
  | .clearNotice _ => 0x43
  | .slotRead _ _ => 0x50
  | .levelRange _ _ => 0x51
  | .streamRead _ _ => 0x52
  | .carriageRead _ => 0x53
  | .callRead _ _ => 0x54
  | .transferRead _ => 0x55
  | .faultRead _ => 0x56
  | .presenceRead _ _ => 0x57
  | .statsRead _ => 0x58
  | .statsClear _ => 0x59
  | .timeRead => 0x5A
  | .summary => 0x5B

/-- The timing table of 21 bytes (Table 10-3). -/
def timingOf : List Byte → Option Timing
  | [t, a, a', b, b', c, c', d, d', e, e', f, f', g, g', h, h', i, i', m, p] =>
    some ⟨t, join16 a a', join16 b b', join16 c c', join16 d d', join16 e e', join16 f f', join16 g g', join16 h h',
      join16 i i', m, p⟩
  | _ => none

/-- The arguments of a table write (Table 10-3); none when their number does not fit. -/
def tableWriteOf : List Byte → Option Req
  | [] => none
  | t :: c => match t.toNat with
    | 1 => if c.length = 40 then some (.slotMap c) else none
    | 2 => match c with
      | [s, ro, pr, al, w, st, co, df, lo] => some (.routeRow s ⟨ro, pr, al, w, st, co, df, lo⟩)
      | _ => none
    | 3 => (timingOf c).map .timing
    | 4 => match c with
      | [k, d] => some (.disposition k d)
      | _ => none
    | 5 => match c with
      | n :: l => if l.length = n.toNat then some (.priority l) else none
      | [] => none
    | 6 => match c with
      | [g, v, m] => some (.address g v m)
      | _ => none
    | 7 => match c with
      | [e] => some (.enables e)
      | _ => none
    | 8 => match c with
      | [r] => some (.resumeDefault r)
      | _ => none
    | _ => none

/-- The arguments of a table read (Table 10-2). -/
def tableReadOf : List Byte → Option Req
  | [t] => if t = 2 then none else some (.tableRead t 0)
  | [t, s] => if t = 2 then some (.tableRead t s) else none
  | _ => none

/-- A stream, a count and tote IDs (Table 10-2). -/
def streamIdsOf : List Byte → Option (Byte × List ToteId)
  | s :: c :: rest => (countedIds c rest).map (fun l => (s, l))
  | _ => none

/-- A byte and a tote ID (Table 10-2). -/
def byteIdOf : List Byte → Option (Byte × ToteId)
  | [x, a, b, c, d] => some (x, join32 a b c d)
  | _ => none

/-- ON and OFF (Table 10-2). -/
def onOf (b : Byte) : Option Bool := if b = 1 then some true else if b = 0 then some false else none

/-- One byte of arguments. -/
def oneByte (f : Byte → Req) : List Byte → Option Req
  | [a] => some (f a)
  | _ => none

/-- Two bytes of arguments. -/
def twoBytes (f : Byte → Byte → Req) : List Byte → Option Req
  | [a, b] => some (f a b)
  | _ => none

/-- The arguments of a function of Table 10-1; the outer `none` is a code that the table does not have, the inner one
arguments that do not fit (R184). -/
def argumentsOf (code : Byte) (a : List Byte) : Option (Option Req) :=
  match code.toNat with
  | 0x01 => some (tableWriteOf a)
  | 0x02 => some (tableReadOf a)
  | 0x10 => some (twoBytes .modeSet a)
  | 0x20 => some ((streamIdsOf a).map (fun x => .append x.1 x.2))
  | 0x21 => some ((streamIdsOf a).map (fun x => .cut x.1 x.2))
  | 0x22 => some ((byteIdOf a).map (fun x => .unbar x.1 x.2))
  | 0x23 => some ((byteIdOf a).map (fun x => .confirm x.1 x.2))
  | 0x24 => some ((byteIdOf a).map (fun x => .deny x.1 x.2))
  | 0x30 => some (match a with
    | [l, c, t, i, i', i'', i''', s, d] => some (.slotSet l c t ⟨join32 i i' i'' i''', s, d⟩)
    | _ => none)
  | 0x31 => some (match a with
    | [l, o] => (onOf o).map (fun o => .levelService l o)
    | _ => none)
  | 0x32 => some (match a with
    | [l, o] => match liftOf l, onOf o with
      | some x, some o => some (.liftService x o)
      | _, _ => none
    | _ => none)
  | 0x40 => some (oneByte .clearFault a)
  | 0x41 => some (if a.isEmpty then some .clearLead else none)
  | 0x42 => some (oneByte .clearParty a)
  | 0x43 => some (oneByte .clearNotice a)
  | 0x50 => some (twoBytes .slotRead a)
  | 0x51 => some (twoBytes .levelRange a)
  | 0x52 => some (twoBytes .streamRead a)
  | 0x53 => some (match a with
    | [l] => (liftOf l).map .carriageRead
    | _ => none)
  | 0x54 => some (match a with
    | [l, p] => (liftOf l).map (fun x => .callRead x p)
    | _ => none)
  | 0x55 => some (oneByte .transferRead a)
  | 0x56 => some (oneByte .faultRead a)
  | 0x57 => some (twoBytes .presenceRead a)
  | 0x58 => some (oneByte .statsRead a)
  | 0x59 => some (oneByte .statsClear a)
  | 0x5A => some (if a.isEmpty then some .timeRead else none)
  | 0x5B => some (if a.isEmpty then some .summary else none)
  | _ => none

/-- A REQUEST by its body: function code and arguments (R184). -/
def requestOf (code : Byte) (arguments : List Byte) : Req :=
  match argumentsOf code arguments with
  | none => .unknown code
  | some none => .badForm code
  | some (some q) => q

end Sys2Proof.Machine
end

