-- ==== Sys2Proof/Machine/Flags.lean ====
section
/-! DEFINITION. Notice flags, the NOTICE and the attention output (R131, R190 to R192), the lead fault (R179), fault
records (R173), and the change of mode with its output and flag (R156, R157). -/

namespace Sys2Proof.Machine

/-- The lead fault: the first class of the priority list that is pending (R179). -/
def State.leadFault (s : State) : Option FaultClass :=
  s.faults.priority.find? (fun c => (s.faultRec c).isSome)

/-- A class number, 0 for none (R179). -/
def leadByte : Option FaultClass → Byte
  | none => 0
  | some c => c.byte

/-- The low markers of streams 1 to 16 in stream order (R88). -/
def State.lowMarkers (s : State) : List Bool := (List.finRange 17).tail.map (fun i => (s.stream i).lowMarker)

/-- The stream-low set: bit k - 1 stands for stream k (6.12). -/
def State.lowSet (s : State) : BitVec 16 :=
  BitVec.ofNat 16 (s.lowMarkers.foldr (fun b acc => 2 * acc + (if b then 1 else 0)) 0)

/-- The body of a NOTICE made now: flags, stream-low set, lead fault class, aisle mode (R190). -/
def State.noticeBody (s : State) : Body :=
  .notice s.notices.pending.byte s.lowSet (leadByte s.leadFault) s.mode.byte

/-- A telegram of the upstream queue is a NOTICE. -/
def Tel.isNotice (t : Tel) : Bool := t.kind = kNotice

/-- The body of a NOTICE in the upstream queue, or waiting for it, is replaced (R131, R191). -/
def State.refreshNotice (s : State) : State :=
  let b := s.noticeBody
  { s with store := { s.store with
      upstream := s.store.upstream.map (fun t => if t.isNotice then { t with body := b } else t)
      noticeWait := s.store.noticeWait.map (fun t => { t with body := b }) } }

/-- A NOTICE is made: it merges with one queued or waiting, else it is admitted, else it waits (R131). Its tag is the
store line's own-tag count (R135, log 14). -/
def State.makeNotice (s : State) : State :=
  if s.store.upstream.any Tel.isNotice || s.store.noticeWait.isSome then s.refreshNotice
  else
    let t := s.toStore kNotice s.store.ownTag s.noticeBody
    if s.placeFree then s.pushUpstream t else { s with store := { s.store with noticeWait := some t } }

/-- One flag of a set. -/
def Flags.get (f : Flags) : Flag → Bool
  | .fault => f.fault
  | .mode => f.mode
  | .streamLow => f.streamLow
  | .serviceReady => f.serviceReady
  | .doubt => f.doubt
  | .overrun => f.overrun

/-- A set with one flag on. -/
def Flags.put (f : Flags) : Flag → Flags
  | .fault => { f with fault := true }
  | .mode => { f with mode := true }
  | .streamLow => { f with streamLow := true }
  | .serviceReady => { f with serviceReady := true }
  | .doubt => { f with doubt := true }
  | .overrun => { f with overrun := true }

/-- The flags of both sets. -/
def Flags.both (f g : Flags) : Flags where
  fault := f.fault && g.fault
  mode := f.mode && g.mode
  streamLow := f.streamLow && g.streamLow
  serviceReady := f.serviceReady && g.serviceReady
  doubt := f.doubt && g.doubt
  overrun := f.overrun && g.overrun

/-- The flags of the first set that are not in the second. -/
def Flags.minus (f g : Flags) : Flags where
  fault := f.fault && !g.fault
  mode := f.mode && !g.mode
  streamLow := f.streamLow && !g.streamLow
  serviceReady := f.serviceReady && !g.serviceReady
  doubt := f.doubt && !g.doubt
  overrun := f.overrun && !g.overrun

/-- Some flag of the set is on. -/
def Flags.any (f : Flags) : Bool :=
  f.fault || f.mode || f.streamLow || f.serviceReady || f.doubt || f.overrun

/-- The flags and enables with the attention output that follows from them (R192). -/
def NoticeUnit.make (pending enabled : Flags) : NoticeUnit where
  pending := pending
  enabled := enabled
  attention := (pending.both enabled).any

/-- A flag is handed on: it becomes pending, the attention output follows, and an enabled flag makes a notice event
(R190, R192). -/
def State.handFlag (s : State) (f : Flag) : State :=
  let s := { s with notices := NoticeUnit.make (s.notices.pending.put f) s.notices.enabled }
  if s.notices.enabled.get f then s.makeNotice else s

/-- Count of a pending class raised once more: held at 255 (R172, R173). -/
def countUp (c : Byte) : Byte := if c = 255 then 255 else c + 1

/-- A raising updates the record of its class; a class that becomes pending hands on the FAULT flag (R173). -/
def State.recordFault (s : State) (r : Raise) : State :=
  match s.faultRec r.cls with
  | none =>
    (s.setFaultRec r.cls (some ⟨1, r.party, s.time, r.party, s.time⟩)).handFlag .fault
  | some f =>
    s.setFaultRec r.cls (some { f with count := countUp f.count, lastParty := r.party, lastStamp := s.time })

/-- The motion permit output is asserted in RUN and DRAIN (R157). -/
def Mode.permits : Mode → Bool
  | .config => false
  | .run => true
  | .drain => true
  | .halt => false

/-- A change of mode: the output changes as part of it, and the MODE flag is handed on (R156, R157). -/
def State.setMode (s : State) (m : Mode) : State :=
  State.handFlag { s with modeCtl := { s.modeCtl with mode := m, motion := m.permits } } .mode

/-- The lead fault lamp: lit while the lead fault is not none (R179). -/
def State.leadFaultLamp (s : State) : Bool := s.leadFault.isSome

/-- The aisle mode lamp shows the mode (R156). -/
def State.modeLamp (s : State) : Mode := s.mode

end Sys2Proof.Machine
end

