-- ==== Sys2Proof/Machine/Slots.lean ====
section
/-! DEFINITION. The slot table: what a slot holds, claims, the census, and the changes of a slot record (chapter 1). -/

namespace Sys2Proof.Machine

/-- The content of a slot (R5). -/
def Slot.content : Slot → Option Content
  | .off => none
  | .opened c _ => c
  | .doubt c _ _ _ => c
  | .fenced c => c

/-- The claim of a slot (R5). -/
def Slot.claim : Slot → Option Claim
  | .off => none
  | .opened _ k => k
  | .doubt _ _ _ _ => none
  | .fenced _ => none

/-- A slot is mapped when it is not OFF (R6, R13). -/
def Slot.mapped : Slot → Bool
  | .off => false
  | .opened _ _ => true
  | .doubt _ _ _ _ => true
  | .fenced _ => true

/-- A slot is OPEN. -/
def Slot.isOpen : Slot → Bool
  | .opened _ _ => true
  | .off => false
  | .doubt _ _ _ _ => false
  | .fenced _ => false

/-- A slot is OPEN, empty and unclaimed (R8). -/
def Slot.isFree : Slot → Bool
  | .opened none none => true
  | .opened (some _) _ => false
  | .opened none (some _) => false
  | .off => false
  | .doubt _ _ _ _ => false
  | .fenced _ => false

/-- The content of an OPEN and unclaimed slot (R8). -/
def Slot.ready : Slot → Option Content
  | .opened c none => c
  | .opened _ (some _) => none
  | .off => none
  | .doubt _ _ _ _ => none
  | .fenced _ => none

/-- A tote record is valid (R3). -/
def validTote (r : ToteRec) : Bool :=
  r.id ≠ 0 && r.stream.toNat ≤ 16 && r.dest.toNat ≤ 40 && !(r.stream ≠ 0 && r.dest ≠ 0)

/-- A record is inbound: its destination is a level (R3). -/
def isInbound (r : ToteRec) : Bool := r.dest ≠ 0

/-- A valid record fits a slot: an IN slot of level n takes an inbound record for n, an OUT slot an outbound one (R4). -/
def fitsSlot (r : ToteRec) (n : Level) (c : SlotCode) : Bool :=
  match c.outLift with
  | none => r.dest = levelByte n
  | some _ => r.dest = 0

/-- A level is mapped while at least one of its slots is (R14). -/
def State.levelMapped (s : State) (n : Level) : Bool := SlotCode.all.any (fun c => (s.slot n c).mapped)

/-- All levels, lowest first. -/
def allLevels : List Level := List.finRange 40

/-- All streams, lowest first. -/
def allStreams : List StreamNo := List.finRange 17

/-- All handles, lowest first. -/
def allHandles : List Handle := List.finRange 32

/-- Both lifts, A first. -/
def bothLifts : List Lift := [.a, .b]

/-- A tote stands in a slot, leaving one slot out (R19). -/
def State.inSlots (s : State) (id : ToteId) (but : Option (Level × SlotCode)) : Bool :=
  allLevels.any (fun n => SlotCode.all.any (fun c =>
    some (n, c) ≠ but && match (s.slot n c).content with
      | some x => x.tote.id = id
      | none => false))

/-- A tote is an item of a lift's carriage record (R19). -/
def State.inCarriage (s : State) (x : Lift) (id : ToteId) : Bool := (s.lift x).carriage.any (fun r => r.id = id)

/-- A tote is the tote of a shuttle PLACE entry, in any phase (R19). -/
def State.inPlaceEntries (s : State) (id : ToteId) : Bool :=
  s.entries.any (fun x => match x.2.party, x.2.kind with
    | .shuttle _, .place => x.2.items.any (fun i => i.tote.id = id)
    | .shuttle _, .fetch => false
    | .lift _, _ => false)

/-- The census over every position but one slot (R19). -/
def State.inCensus (s : State) (id : ToteId) (but : Option (Level × SlotCode)) : Bool :=
  s.inSlots id but || s.inCarriage .a id || s.inCarriage .b id || s.inPlaceEntries id

/-- A claim is taken on an OPEN, unclaimed slot (R8). -/
def State.takeClaim (s : State) (n : Level) (c : SlotCode) (k : Claim) : State :=
  match s.slot n c with
  | .opened content none => s.setSlot n c (.opened content (some k))
  | .opened _ (some _) => s
  | .off => s
  | .doubt _ _ _ _ => s
  | .fenced _ => s

/-- The claim of an entry on a slot is removed with the content left as it was (R9). -/
def State.releaseClaim (s : State) (n : Level) (c : SlotCode) (h : Handle) : State :=
  match s.slot n c with
  | .opened content (some k) => if k.handle = h then s.setSlot n c (.opened content none) else s
  | .opened _ none => s
  | .off => s
  | .doubt _ _ _ _ => s
  | .fenced _ => s

/-- A slot claimed by an entry enters DOUBT; with cause ACT-TIMEOUT it keeps the claim and its party (R10). -/
def State.doubtClaim (s : State) (n : Level) (c : SlotCode) (h : Handle) (p : Party) (cause : DoubtCause) : State :=
  match s.slot n c with
  | .opened content (some k) =>
    if k.handle = h then
      s.setSlot n c (.doubt content cause
        (if cause = .actTimeout then some { party := p, handle := h, kind := k.kind, toteId := k.toteId } else none) none)
    else s
  | .opened _ none => s
  | .off => s
  | .doubt _ _ _ _ => s
  | .fenced _ => s

/-- The claims an entry's items have, removed (R9). -/
def State.releaseClaims (s : State) (h : Handle) (items : List Item) : State :=
  items.foldl (fun s i => match i.slot with
    | some (n, c) => s.releaseClaim n c h
    | none => s) s

/-- The slots an entry's items claim enter DOUBT (R10). -/
def State.doubtClaims (s : State) (h : Handle) (p : Party) (cause : DoubtCause) (items : List Item) : State :=
  items.foldl (fun s i => match i.slot with
    | some (n, c) => s.doubtClaim n c h p cause
    | none => s) s

/-- The reported tote of a slot in DOUBT is set when its expired claim is the party's, carries the handle and has the
tote (R11). -/
def Slot.report (p : Party) (h : Handle) (id : ToteId) : Slot → Slot
  | .doubt c .actTimeout (some k) r =>
    if k.party = p ∧ k.handle = h ∧ k.toteId = id then .doubt c .actTimeout (some k) (some id)
    else .doubt c .actTimeout (some k) r
  | .doubt c .actTimeout none r => .doubt c .actTimeout none r
  | .doubt c .revoked k r => .doubt c .revoked k r
  | .doubt c .haltConfig k r => .doubt c .haltConfig k r
  | .doubt c .mapped k r => .doubt c .mapped k r
  | .off => .off
  | .opened c k => .opened c k
  | .fenced c => .fenced c

/-- A change of every slot of a level. -/
def LevelSlots.map (f : SlotCode → Slot → Slot) (l : LevelSlots) : LevelSlots where
  in1 := f .in1 l.in1
  in2 := f .in2 l.in2
  a1 := f .a1 l.a1
  a2 := f .a2 l.a2
  b1 := f .b1 l.b1
  b2 := f .b2 l.b2

/-- The reported totes of a late report (R11, R47). Where two slots match, both are set: the model's choice (log 37). -/
def State.reportTotes (s : State) (p : Party) (h : Handle) (ids : List ToteId) : State :=
  { s with slots := vmap s.slots (fun _ l => l.map (fun _ v => ids.foldl (fun v id => v.report p h id) v)) }

/-- The slot map as Table 10-3 gives it: one byte for each level. -/
def State.mapByte (s : State) (n : Level) : Byte :=
  byte ((SlotCode.all.zipIdx.map (fun x => if (s.slot n x.1).mapped then 2 ^ x.2 else 0)).sum)

end Sys2Proof.Machine
end

