-- ==== Sys2Proof/Machine/Cycles.lean ====
section
/-! DEFINITION. The cycles of the level bus: which level the scheduler finds for the next turn when a turn ends or a
presence changes (R137, R138, log 11). -/

namespace Sys2Proof.Machine

/-- A level of this presence is included in a cycle (R137). -/
def LevelPresence.included (p : LevelPresence) (probe : Bool) : Bool :=
  match p with
  | .returning => true
  | .online => true
  | .absent => probe
  | .unmapped => false
  | .service => false

/-- The next level above the position that the present cycle includes (R137). -/
def State.seek (s : State) (b : Bus) : Option Level :=
  allLevels.find? (fun n => (match b.pos with
    | none => true
    | some m => m.val < n.val) && (s.shuttle n).presence.included b.probeCycle)

/-- Some level is ONLINE, RETURNING or ABSENT, so that cycles begin (R138). -/
def State.anyPolled (s : State) : Bool := allLevels.any (fun n => (s.shuttle n).presence.included true)

/-- The end of the cycle that is under way, if one is: the position and the probe cycle count (R137, R138). -/
def Bus.endCycle (b : Bus) : Bus :=
  if b.cycle then
    { b with
      pos := none
      next := none
      cycle := false
      probeCycle := false
      probeCount := if b.probeCycle then 0 else b.probeCount + 1 }
  else { b with next := none }

/-- The cycle that begins with this count is a probe cycle (R138). -/
def probes (count interval : Byte) : Bool := interval.toNat ≤ count.toNat + 1

/-- The start of a cycle: the count is compared with the probe interval (R138). -/
def Bus.beginCycle (b : Bus) (interval : Byte) : Bus :=
  { b with pos := none, cycle := true, probeCycle := probes b.probeCount interval }

/-- A new cycle begins and its lowest included level is to have the next turn; a cycle that includes no level ends at once
(R137, R138). The bound is above every probe interval. -/
def State.newCycle (s : State) : Nat → Bus → Bus
  | 0, b => b
  | k + 1, b =>
    let b := b.beginCycle s.timing.probeInterval
    match s.seek b with
    | some n => { b with next := some n }
    | none => State.newCycle s k b.endCycle

/-- The scheduler's look for the level of the next turn: the next above the position in the present cycle; with none the
cycle ends and, while some level is polled, a new one begins (R137, R138). -/
def State.look (s : State) : Bus :=
  match if s.bus.cycle then s.seek s.bus else none with
  | some n => { s.bus with next := some n }
  | none => if s.anyPolled then s.newCycle 257 s.bus.endCycle else s.bus.endCycle

/-- The level that was found for the next turn is still included in the present cycle. -/
def State.nextStands (s : State) : Bool :=
  match s.bus.next with
  | some n => (s.shuttle n).presence.included s.bus.probeCycle
  | none => false

/-- Between turns the scheduler looks when no level stands for the next turn: when the turn has just ended (R137), at the
first change of presence that makes a level polled (R138), and when the level found is no longer included, the model's
choice (log 53). -/
def State.schedule (s : State) : State :=
  match s.bus.turn with
  | .idle => if s.nextStands then s else { s with bus := s.look }
  | .sending _ _ => s
  | .awaiting _ => s

end Sys2Proof.Machine
end

