-- ==== Sys2Proof/Machine/Sequencer.lean ====
section
/-! DEFINITION. The sequencer: index, eligibility, fetchability, pledges, bars, custody, the active lift and its
switch-over (chapter 4), and the call queues the lift coordinator keeps from them (R74, R75). -/

namespace Sys2Proof.Machine

/-- The stream number of a tote record, if it is 0 to 16. -/
def toteStream (r : ToteRec) : Option StreamNo := streamOf r.stream

/-- The position of an ID in a release list, 0 at the head (R89). -/
def relIndex (l : List RelEntry) (id : ToteId) : Option Nat := l.findIdx? (fun e => e.id = id)

/-- The entry of an ID in a release list. -/
def relEntry (l : List RelEntry) (id : ToteId) : Option RelEntry := l.find? (fun e => e.id = id)

/-- A tote is eligible: of stream 0, or at an index below its stream's window and not barred (R90). -/
def State.eligible (s : State) (r : ToteRec) : Bool :=
  match toteStream r with
  | none => false
  | some i =>
    if i = 0 then true
    else match relIndex (s.stream i).list r.id, relEntry (s.stream i).list r.id with
      | some k, some e => k < (s.stream i).row.window.toNat && !e.barred
      | _, _ => false

/-- A tote of a sequenced stream that is not in its stream's release list (R91). -/
def State.isStray (s : State) (r : ToteRec) : Bool :=
  match toteStream r with
  | none => false
  | some i => i ≠ 0 && (relIndex (s.stream i).list r.id).isNone

/-- The index of a tote for orders: its position in its stream's list, 255 for stream 0 (R36, R74). -/
def State.orderIndex (s : State) (r : ToteRec) : Nat :=
  match toteStream r with
  | none => 255
  | some i => if i = 0 then 255 else (relIndex (s.stream i).list r.id).getD 255

/-- A tote is under a confirmation in flight (R92, R106). -/
def State.covered (s : State) (id : ToteId) : Bool :=
  s.entries.any (fun x => match x.2.phase with
    | .confirming => x.2.items.any (fun i => i.tote.id = id)
    | .waiting _ => false
    | .granted _ => false)

/-- The tote of a slot when the slot is OPEN and unclaimed and its tote is eligible and not covered (R92). The caller
names a slot of the lift's own OUT pair. -/
def State.fetchableAt (s : State) (n : Level) (c : SlotCode) : Option Content :=
  match (s.slot n c).ready with
  | none => none
  | some x => if s.eligible x.tote && !s.covered x.tote.id then some x else none

/-- The fetchable totes of a lift at a level, in place order (R92). -/
def State.fetchables (s : State) (x : Lift) (n : Level) : List (SlotCode × Content) :=
  (outPair x).filterMap (fun c => (s.fetchableAt n c).map (fun t => (c, t)))

/-! ### Pledges and bars -/

/-- The entry of one ID in one stream's list changed. -/
def State.changeRel (s : State) (i : StreamNo) (id : ToteId) (f : RelEntry → RelEntry) : State :=
  let st := s.stream i
  s.setStream i { st with list := st.list.map (fun e => if e.id = id then f e else e) }

/-- The release entries of granted sequenced totes are pledged (R37, R85). -/
def State.pledge (s : State) (items : List Item) : State :=
  items.foldl (fun s i => match toteStream i.tote with
    | some k => if k = 0 then s else s.changeRel k i.tote.id (fun e => { e with pledged := true })
    | none => s) s

/-- The pledges of totes are removed (R85). -/
def State.unpledge (s : State) (items : List Item) : State :=
  items.foldl (fun s i => match toteStream i.tote with
    | some k => if k = 0 then s else s.changeRel k i.tote.id (fun e => { e with pledged := false })
    | none => s) s

/-- The release entry of a tote in its stream's list is barred (R108). -/
def State.bar (s : State) (r : ToteRec) : State :=
  match toteStream r with
  | some k => if k = 0 then s else (s.changeRel k r.id (fun e => { e with barred := true })).touch
  | none => s

/-- A tote's ID stands in its stream's release list (R108). -/
def State.listed (s : State) (r : ToteRec) : Bool :=
  match toteStream r with
  | some k => k ≠ 0 && (relIndex (s.stream k).list r.id).isSome
  | none => false

/-- Entries of all release lists together (R82). -/
def State.poolUsed (s : State) : Nat := (allStreams.map (fun i => (s.stream i).list.length)).sum

/-- The free count of the pool (R82). -/
def State.poolFree (s : State) : Nat := Config.poolEntries - s.poolUsed

/-- A list falls below its low mark: from a length at or above it to one below (R88). -/
def fallsBelow (before after : Nat) (mark : Byte) : Bool := mark.toNat ≤ before && after < mark.toNat

/-- A stream's list is replaced by a shorter one; a fall below the low mark sets the low marker and hands on
STREAM-LOW (R88). -/
def State.shrinkList (s : State) (i : StreamNo) (l : List RelEntry) : State :=
  let st := s.stream i
  if fallsBelow st.list.length l.length st.row.lowMark then
    (s.setStream i { st with list := l, lowMarker := true }).handFlag .streamLow
  else s.setStream i { st with list := l }

/-! ### Custody and the active lift -/

/-- A record is an outbound tote of a stream. -/
def outboundOf (r : ToteRec) (i : StreamNo) : Bool := r.dest = 0 && toteStream r = some i

/-- A tote of the stream is the content of a slot of the lift's OUT pair at some level (R94). -/
def State.custodySlots (s : State) (i : StreamNo) (x : Lift) : Bool :=
  allLevels.any (fun n => (outPair x).any (fun c => match (s.slot n c).content with
    | some t => outboundOf t.tote i
    | none => false))

/-- A slot address is in the OUT pair of a lift. -/
def inOutPair (a : Option (Level × SlotCode)) (x : Lift) : Bool :=
  match a with
  | some (_, c) => c.outLift = some x
  | none => false

/-- A PLACE claim of a shuttle entry with a tote of the stream on a slot of the lift's OUT pair, or a pledged release
entry whose tote is granted to the lift for fetch (R94). -/
def State.custodyEntries (s : State) (i : StreamNo) (x : Lift) : Bool :=
  s.entries.any (fun e => match e.2.phase, e.2.party, e.2.kind with
    | .granted _, .shuttle _, .place => e.2.items.any (fun t => inOutPair t.slot x && outboundOf t.tote i)
    | .granted _, .lift y, .fetch => y = x && e.2.items.any (fun t => match relEntry (s.stream i).list t.tote.id with
        | some r => r.pledged && outboundOf t.tote i
        | none => false)
    | _, _, _ => false)

/-- Custody of a stream at a lift (R94). -/
def State.custody (s : State) (i : StreamNo) (x : Lift) : Bool :=
  s.custodySlots i x || s.custodyEntries i x || (s.lift x).carriage.any (fun r => outboundOf r i)

/-- The wanted lift of a stream (R96). From the alternate it is the primary once the primary is ONLINE (log 10). -/
def State.wanted (s : State) (i : StreamNo) : Lift :=
  let st := s.stream i
  if st.active = st.row.primary then
    match st.row.alternate with
    | some x => if (s.lift st.row.primary).presence = .service then x else st.row.primary
    | none => st.row.primary
  else if (s.lift st.row.primary).presence = .online then st.row.primary else st.active

/-- The evaluation of a stream's active lift: no change, a switch, or a switch that custody blocks (R96). A switch and a
mark cleared without one are route switches for the hold queue (R93, R97, R98). -/
def State.evalStream (s : State) (i : StreamNo) : State :=
  let st := s.stream i
  let w := s.wanted i
  if w = st.active then
    if st.switchPending then (s.setStream i { st with switchPending := false }).wantReeval else s
  else if s.custody i st.active then s.setStream i { st with switchPending := true }
  else (s.setStream i { st with active := w, switchPending := false }).wantReeval

/-- Every stream's active lift is evaluated (R95, R96). -/
def State.evalStreams (s : State) : State := allStreams.foldl (fun s i => s.evalStream i) s

/-! ### Call queues -/

/-- The key of a level for a lift: the smallest index among its fetchable totes, if it has one (R74). -/
def State.callKey (s : State) (x : Lift) (n : Level) : Option Byte :=
  match s.fetchables x n with
  | [] => none
  | t :: ts => some (byte (ts.foldl (fun k u => min k (s.orderIndex u.2.tote)) (s.orderIndex t.2.tote)))

/-- The order of a call queue: key, then entry stamp with the older first, then level (R74). -/
def callBefore (now : Stamp) (c d : Call) : Bool :=
  if c.key ≠ d.key then c.key.toNat < d.key.toNat
  else if c.stamp ≠ d.stamp then (age now d.stamp).toNat < (age now c.stamp).toNat
  else c.level.val < d.level.val

/-- The call queue of a lift brought up to date: levels that qualify, with the stamp they had or the aisle time now
(R74, R75). -/
def State.newCalls (s : State) (x : Lift) : List Call :=
  sortBy (callBefore s.time) (allLevels.filterMap (fun n => (s.callKey x n).map (fun k =>
    { level := n
      key := k
      stamp := match (s.lift x).calls.find? (fun c => c.level = n) with
        | some c => c.stamp
        | none => s.time })))

/-- Both call queues are brought up to date (R75). -/
def State.updateCalls (s : State) : State :=
  let a := s.newCalls .a
  let b := s.newCalls .b
  { s with coord := { a := { s.coord.a with calls := a }, b := { s.coord.b with calls := b } } }

end Sys2Proof.Machine
end

