-- ==== Sys2Proof/Machine/Transfer.lean ====
section
/-! DEFINITION. The transfer engine's shared operations: the choice of slots (R33 to R36), GO, HOLD and entry into
CONFIRMING (R37, R38, R106), removal of an entry (R52), the end of a visit (R70) and the automatic return to CONFIG
(R162). -/

namespace Sys2Proof.Machine

/-! ### Limits (R24) -/

/-- The act limit of a party for a number of totes, not cut at 65535 (R37). -/
def actLimit (t : Timing) (p : Party) (n : Nat) : Ticks :=
  match p with
  | .shuttle _ => t.shuttleBase.zeroExtend 32 + t.shuttlePer.zeroExtend 32 * BitVec.ofNat 32 n
  | .lift _ => t.liftBase.zeroExtend 32 + t.liftPer.zeroExtend 32 * BitVec.ofNat 32 n

/-- The hold limit of a party (R38). -/
def holdLimit (t : Timing) (p : Party) : Ticks :=
  match p with
  | .shuttle _ => t.holdShuttle.zeroExtend 32
  | .lift _ => t.holdLift.zeroExtend 32

/-- The visit limit of planned counts, not cut at 65535 (R68). -/
def visitLimit (t : Timing) (n : Nat) : Ticks :=
  t.visitBase.zeroExtend 32 + t.visitPer.zeroExtend 32 * BitVec.ofNat 32 n

/-! ### Check 10: the choice of slots -/

/-- What check 10 finds: slots to grant, totes to confirm, or a reason to wait (R28). -/
inductive Verdict where
  | grant (items : List Item)
  | confirm (items : List Item)
  | wait (r : Reason)
deriving DecidableEq, Repr

/-- A slot holds a tote that is not eligible, or is claimed for the placing of one (R33). -/
def State.blocksReserve (s : State) (n : Level) (c : SlotCode) : Bool :=
  (match (s.slot n c).content with
    | some t => !s.eligible t.tote
    | none => false) ||
  (match (s.slot n c).claim with
    | some k => k.kind = .place && (match s.entry k.handle with
        | some e => e.items.any (fun i => i.tote.id = k.toteId && !s.eligible i.tote)
        | none => false)
    | none => false)

/-- The choice for a shuttle PLACE (R33). -/
def State.chooseShuttlePlace (s : State) (n : Level) (i : Item) : Verdict :=
  match toteStream i.tote with
  | none => .wait .full
  | some k =>
    if (s.stream k).switchPending then .wait .route
    else match (outPair (s.stream k).active).find? (fun c => (s.slot n c).isFree) with
      | none => .wait .full
      | some c =>
        if s.eligible i.tote || !s.blocksReserve n c.partner then .grant [{ i with slot := some (n, c) }]
        else .wait .reserve

/-- A stamp is older than another one (R23). -/
def older (now a b : Stamp) : Bool := (age now b).toNat < (age now a).toNat

/-- The choice for a shuttle FETCH: the oldest tote of the level's IN pair (R34). -/
def State.chooseShuttleFetch (s : State) (n : Level) : Verdict :=
  match inPair.filterMap (fun c => (s.slot n c).ready.map (fun t => (c, t))) with
  | [] => .wait .empty
  | x :: xs =>
    let b := xs.foldl (fun b y => if older s.time y.2.stamp b.2.stamp then y else b) x
    .grant [{ tote := b.2.tote, slot := some (n, b.1), conf := .none }]

/-- The free IN slots of a level in place order (R35). -/
def State.freeIn (s : State) (n : Level) : List SlotCode := inPair.filter (fun c => (s.slot n c).isFree)

/-- The choice for a lift PLACE at its visit level (R35). -/
def State.chooseLiftPlace (s : State) (n : Level) (items : List Item) : Verdict :=
  match s.freeIn n with
  | [] => .wait .full
  | cs => .grant ((items.zip cs).map (fun p => { p.1 with slot := some (n, p.2) }))

/-- The order of a lift's candidates: index, then placement stamp with the older first, then place (R36). -/
def State.candidateBefore (s : State) (a b : SlotCode × Content) : Bool :=
  if s.orderIndex a.2.tote ≠ s.orderIndex b.2.tote then s.orderIndex a.2.tote < s.orderIndex b.2.tote
  else if a.2.stamp ≠ b.2.stamp then older s.time a.2.stamp b.2.stamp
  else a.1.byte.toNat < b.1.byte.toNat

/-- Free places of a carriage record (R62). -/
def LiftRec.freePlaces (l : LiftRec) : Nat := 2 - l.carriage.length

/-- The tote's stream has confirm on (R36, R105). -/
def State.needsConfirm (s : State) (r : ToteRec) : Bool :=
  match toteStream r with
  | some i => (s.stream i).row.confirm
  | none => false

/-- An item as a selection writes it: asked when its stream has confirm on (R106). -/
def State.selected (s : State) (r : ToteRec) : Item where
  tote := r
  slot := none
  conf := if s.needsConfirm r then .asked else .none

/-- The choice for a lift FETCH at its visit level (R36). -/
def State.chooseLiftFetch (s : State) (x : Lift) (n : Level) (count : Nat) : Verdict :=
  let cs := (sortBy s.candidateBefore (s.fetchables x n)).take (min count (s.lift x).freePlaces)
  if cs.isEmpty then
    if (outPair x).any (fun c => (s.slot n c).isOpen && (s.slot n c).content.isSome) then .wait .notEligible
    else .wait .empty
  else if cs.any (fun c => s.needsConfirm c.2.tote) then .confirm (cs.map (fun c => s.selected c.2.tote))
  else .grant (cs.map (fun c => { tote := c.2.tote, slot := some (n, c.1), conf := .none }))

/-- Check 10 for an entry, at an ask or at a re-evaluation (R28, R49). A lift that waits has its visit open (log 27). -/
def State.verdict (s : State) (e : Entry) : Verdict :=
  match e.party, e.kind with
  | .shuttle n, .place => match e.items with
    | [] => .wait .full
    | i :: _ => s.chooseShuttlePlace n i
  | .shuttle n, .fetch => s.chooseShuttleFetch n
  | .lift x, .place => match (s.lift x).visit with
    | none => .wait .full
    | some v => s.chooseLiftPlace v.level e.items
  | .lift x, .fetch => match (s.lift x).visit with
    | none => .wait .empty
    | some v => s.chooseLiftFetch x v.level e.count

/-! ### GO, HOLD, CONFIRMING -/

/-- The lowest free handle (R25). -/
def State.freeHandle (s : State) : Option Handle := allHandles.find? (fun h => (s.entry h).isNone)

/-- The GO of a grant: handle, kind asked, and slot and tote of each granted item (R37). -/
def goBody (h : Handle) (k : Kind) (items : List Item) : Body :=
  .go (handleByte h) k.ask (items.filterMap (fun i => i.slot.map (fun a => (a.1, a.2, i.tote.id))))

/-- The GO of an entry's grant is sent to its party (R37). -/
def State.sendGo (s : State) (h : Handle) (e : Entry) : State :=
  s.sendParty e.party (s.toParty e.party kGo e.tag (goBody h e.kind e.items)) (some h)

/-- The HOLD about an entry is sent to its party (R38). -/
def State.sendHold (s : State) (h : Handle) (e : Entry) (r : Reason) : State :=
  s.sendParty e.party (s.toParty e.party kHold e.tag (.hold (handleByte h) r)) (some h)

/-- One claim for each granted item (R37). -/
def State.takeClaims (s : State) (h : Handle) (k : Kind) (items : List Item) : State :=
  items.foldl (fun s i => match i.slot with
    | some (n, c) => s.takeClaim n c { kind := k, handle := h, toteId := i.tote.id }
    | none => s) s

/-- The entry is a lift FETCH, whose granted sequenced totes are pledged (R37). -/
def Entry.isLiftFetch (e : Entry) : Bool :=
  match e.party, e.kind with
  | .lift _, .fetch => true
  | .lift _, .place => false
  | .shuttle _, _ => false

/-- The entry in GRANTED with these items, its act timer at the act limit (R37). -/
def Entry.granted (e : Entry) (now : Stamp) (t : Timing) (items : List Item) : Entry :=
  { e with phase := .granted now, items := items, timer := actLimit t e.party items.length }

/-- A grant, as one step (R37). -/
def State.grant (s : State) (h : Handle) (e : Entry) (items : List Item) : State :=
  let e' := e.granted s.time s.timing items
  let s := (s.takeClaims h e.kind items).setEntry h (some e')
  let s := if e.isLiftFetch then s.pledge items else s
  (s.sendGo h e').touch

/-- An entry in WAITING with a reason and its hold timer started (R38). -/
def Entry.held (e : Entry) (t : Timing) (r : Reason) : Entry :=
  { e with phase := .waiting r, timer := holdLimit t e.party }

/-- A HOLD, as one step (R38). -/
def State.hold (s : State) (h : Handle) (e : Entry) (r : Reason) : State :=
  (s.setEntry h (some (e.held s.timing r))).sendHold h e r

/-- The visit level of a party as a byte, 0 without a visit. -/
def State.visitLevelByte (s : State) (p : Party) : Byte :=
  match p with
  | .lift x => match (s.lift x).visit with
    | some v => levelByte v.level
    | none => 0
  | .shuttle _ => 0

/-- The CONFIRM-ASK about an item (R107). -/
def State.confirmAskOf (s : State) (h : Handle) (e : Entry) (i : Item) : Tel :=
  s.toStore kConfirmAsk e.tag
    (.confirmAsk (handleByte h) i.tote.id i.tote.stream e.party.station (s.visitLevelByte e.party))

/-- Entry into CONFIRMING, as one step (R106). -/
def State.enterConfirming (s : State) (h : Handle) (e : Entry) (items : List Item) : State :=
  let e' := { e with phase := .confirming, items := items, timer := s.timing.confirmLimit.zeroExtend 32 }
  let s := (s.setEntry h (some e')).sendHold h e' .confirm
  (items.foldl (fun s i => if i.conf = .asked then s.sendConfirmAsk (s.confirmAskOf h e' i) else s) s).touch

/-- Check 10 of an ask that passed the checks before it: the entry takes the handle, or is refused (R28). The
last-expired handle is cleared when the ask makes an entry (R27). -/
def State.decideAsk (s : State) (h : Handle) (e : Entry) : State :=
  match s.verdict e with
  | .grant items => (s.setLastExpired e.party none).grant h e items
  | .confirm items => (s.setLastExpired e.party none).enterConfirming h e items
  | .wait r =>
    if e.wait then (s.setLastExpired e.party none).hold h e r
    else s.refuse e.party e.kind.ask r 255 e.tag none

/-! ### Removal of an entry, end of a visit -/

/-- The number of open visits (R189). -/
def State.openVisits (s : State) : Nat := (bothLifts.filter (fun x => (s.lift x).visit.isSome)).length

/-- In DRAIN, with the table empty and no visit open, the aisle returns to CONFIG (R162). -/
def State.checkDrain (s : State) : State :=
  if s.mode = .drain ∧ s.entries.isEmpty = true ∧ s.openVisits = 0 then s.setMode .config else s

/-- The phase is GRANTED. -/
def Phase.isGranted : Phase → Bool
  | .granted _ => true
  | .waiting _ => false
  | .confirming => false

/-- An entry is removed: its claims, its pledges and its confirmation in flight end with it, and the change is passed
on (R52). Slots that a rule sends into DOUBT have been sent before. -/
def State.removeEntry (s : State) (h : Handle) (e : Entry) : State :=
  let s := s.releaseClaims h e.items
  let s := if e.isLiftFetch && e.phase.isGranted then s.unpledge e.items else s
  (((s.dropConfirmAsks h).setEntry h none).wantReeval).checkDrain

/-- An entry is refused with a reason, its handle and its tag, and removed (R52). -/
def State.refuseEntry (s : State) (h : Handle) (e : Entry) (r : Reason) : State :=
  (s.refuse e.party e.kind.ask r (handleByte h) e.tag (some h)).removeEntry h e

/-- The end of a visit; a VISIT-CLOSE gives its tag to the VISIT-END (R70). -/
def State.endVisit (s : State) (x : Lift) (closeTag : Option Byte) : State :=
  match (s.lift x).visit with
  | none => s
  | some v =>
    let s := s.sendLift x
      (s.toParty (.lift x) kVisitEnd (closeTag.getD v.tag) (.visit (levelByte v.level) (byte v.p) (byte v.f)))
    (s.setLift x { s.lift x with visit := none }).checkDrain

/-! ### Routing of a shuttle PLACE -/

/-- At the level, neither slot of the OUT pair of the active lift of the tote's stream is mapped (R30). -/
def State.noMappedPair (s : State) (n : Level) (r : ToteRec) : Bool :=
  match toteStream r with
  | some k => !(outPair (s.stream k).active).any (fun c => (s.slot n c).mapped)
  | none => true

/-- Check 8: the stream is not routed, or the tote is a stray under REFUSE (R32). -/
def State.routingFailure (s : State) (r : ToteRec) : Option Reason :=
  match toteStream r with
  | none => some .noRoute
  | some k =>
    if !(s.stream k).row.routed then some .noRoute
    else if s.isStray r && (s.stream k).row.stray = .refuse then some .stray
    else none

/-- What a re-evaluation repeats for a shuttle PLACE before check 10 (R49). -/
def State.reroute (s : State) (e : Entry) : Option Reason :=
  match e.party, e.kind, e.items with
  | .shuttle n, .place, i :: _ => if s.noMappedPair n i.tote then some .badSlot else s.routingFailure i.tote
  | .shuttle _, .place, [] => none
  | .shuttle _, .fetch, _ => none
  | .lift _, _, _ => none

end Sys2Proof.Machine
end

