-- ==== Sys2Proof/Machine/Settle.lean ====
section
/-! DEFINITION. What ends every step: the sequencer's evaluation, the hold queue (R49), the call queues (R75), and the
raisings left to the end of the event with their dispositions (R171, R173, R175, R176, R164). -/

namespace Sys2Proof.Machine

/-! ### The hold queue -/

/-- An entry is in WAITING. -/
def Entry.isWaiting (e : Entry) : Bool :=
  match e.phase with
  | .waiting _ => true
  | .confirming => false
  | .granted _ => false

/-- The order of the hold queue: ask stamp, older first, then party (R23, R49). -/
def holdBefore (now : Stamp) (a b : Handle × Entry) : Bool :=
  if a.2.askStamp ≠ b.2.askStamp then older now a.2.askStamp b.2.askStamp
  else a.2.party.idx.val < b.2.party.idx.val

/-- The hold queue (R49). -/
def State.holdQueue (s : State) : List Handle :=
  (sortBy (holdBefore s.time) (s.entries.filter (fun x => x.2.isWaiting))).map (fun x => x.1)

/-- One WAITING entry evaluated again (R49). -/
def State.reevalEntry (s : State) (h : Handle) : State :=
  match s.entry h with
  | none => s
  | some e =>
    if e.isWaiting then
      match s.reroute e with
      | some r => s.refuseEntry h e r
      | none => match s.verdict e with
        | .grant items => s.grant h e items
        | .confirm items => s.enterConfirming h e items
        | .wait r => s.setEntry h (some { e with phase := .waiting r })
    else s

/-- A pass over the hold queue; in a mode other than RUN nothing is granted, and by the model's choice no entry is refused
and no hold reason brought up to date either: the return to RUN does it (R49, R165, log 41). -/
def State.reevaluate (s : State) : State :=
  if s.mode = .run then s.holdQueue.foldl (fun s h => s.reevalEntry h) s else s

/-- What changes have been passed on is done: active lifts, hold queue, call queues (log 8), after the notices and telegrams
that the rule of the event makes, the model's choice (log 45). -/
def State.settle (s : State) : State :=
  if s.work.touched then
    let s := s.evalStreams
    let s := if s.work.reeval then s.reevaluate else s
    let s := s.updateCalls
    { s with work := { s.work with touched := false, reeval := false } }
  else s

/-! ### Dispositions -/

/-- Every GO of a grant whose frame has not begun is withdrawn, on all ports (R164). -/
def State.withdrawAllGos (s : State) : State :=
  let s := allLevels.foldl (fun s n =>
    if (s.shuttle n).box.isEmpty then s else s.withdrawGos (.shuttle n)) s
  (s.withdrawGos (.lift .a)).withdrawGos (.lift .b)

/-- Entry into HALT; from CONFIG or HALT there is no change of mode (R164). -/
def State.enterHalt (s : State) : State :=
  match s.mode with
  | .config => s
  | .halt => s
  | .run => (s.setMode .halt).withdrawAllGos
  | .drain => (s.setMode .halt).withdrawAllGos

/-- The latch of a party goes from clear to set. The GO is withdrawn before the REFUSE is sent, the model's choice (R176,
log 44). -/
def State.setLatch (s : State) (p : Party) : State :=
  if s.latch p then s
  else
    let s := s.setLatchBit p true
    match s.entryOf p with
    | none => s.withdrawGos p
    | some (h, e) =>
      match e.phase with
      | .waiting _ => (s.withdrawGos p).refuseEntry h e .partyFault
      | .confirming => (s.withdrawGos p).refuseEntry h e .partyFault
      | .granted _ =>
        if s.goUnsent p h then (s.withdrawGos p).refuseEntry h e .partyFault else s.withdrawGos p

/-- The disposition of a raising (R175). -/
def State.dispose (s : State) (r : Raise) : State :=
  match s.disposition r.cls with
  | .note => s
  | .fence => match r.party with
    | some p => s.setLatch p
    | none => s
  | .halt => s.enterHalt

/-- One raising: the record, then the disposition (R173, R175). -/
def State.applyRaise (s : State) (r : Raise) : State := (s.recordFault r).dispose r

/-- The raisings of the event in their order, each on the state the one before has left (R171, log 7). -/
def State.finishWith : Nat → State → State
  | 0, s => s.settle
  | k + 1, s =>
    let s := s.settle
    match s.work.raises with
    | [] => s
    | r :: rs => State.finishWith k (State.applyRaise { s with work := { s.work with raises := rs } } r)

/-- The scheduler's look, where the event has ended a turn or changed a presence. It comes after the outcome of the turn has
been dealt with; nothing that ends a step after it changes a presence (R137, log 11). -/
def State.lookDone (s : State) : State := if s.work.look then s.schedule else s

/-- The end of a step: everything passed on and raised is done. -/
def State.finish (s : State) : State :=
  let s := s.lookDone.finishWith Config.raiseBound
  { s with work := { s.work with touched := false, reeval := false, look := false, raises := [] } }

end Sys2Proof.Machine
end

