-- ==== Sys2Proof/Machine/Lifts.lean ====
section
/-! DEFINITION. The lift coordinator: lift presence, carriage records, visits, calls (chapter 3). -/

namespace Sys2Proof.Machine

/-! ### Checks that several telegrams share -/

/-- The reason of the first check that fails; each is given as whether it fails and its reason. -/
def firstFailure (checks : List (Bool × Reason)) : Option Reason := (checks.find? (fun c => c.1)).map (fun c => c.2)

/-- A lift that is not ONLINE is refused with NOT-READY or SERVICE (R60). -/
def LiftPresence.refusal : LiftPresence → Option Reason
  | .returning => some .notReady
  | .service => some .service
  | .online => none

/-- An ask, VISIT-OPEN or NEXT-CALL outside RUN (R29, R156). -/
def Mode.refusal : Mode → Option Reason
  | .config => some .config
  | .halt => some .halted
  | .drain => some .draining
  | .run => none

/-- A check as `firstFailure` takes it, from the reason of a refusal. -/
def checkOfRefusal (r : Option Reason) : Bool × Reason :=
  match r with
  | some r => (true, r)
  | none => (false, .void)

/-- A tote ID is 0, or one is named twice (R30, R40, R65). -/
def badIds (ids : List ToteId) : Bool := ids.contains 0 || !allDiffer ids

/-- A count is not 1 or 2. -/
def badCount (n : Nat) : Bool := n ≠ 1 && n ≠ 2

/-- A REFUSE to a lift's telegram with handle 255. -/
def State.refuseLift (s : State) (x : Lift) (kind : Byte) (r : Reason) (tag : Byte) : State :=
  s.refuse (.lift x) kind r 255 tag none

/-! ### Presence (R57 to R59, R61) -/

/-- Conditions 1 to 3 of R57. -/
def stateSound (x : Lift) (b : StateBody) : Bool :=
  b.kind = 2 && b.station = x.station && b.totes.length ≤ 2 && b.totes.all validTote
    && allDiffer (b.totes.map (fun r => r.id))

/-- Condition 4 of R57. -/
def State.stateApart (s : State) (x : Lift) (b : StateBody) : Bool :=
  b.totes.all (fun r => !(s.inSlots r.id none || s.inCarriage x.other r.id || s.inPlaceEntries r.id))

/-- A STATE that verifies a RETURNING lift is adopted (R57). -/
def State.adopt (s : State) (x : Lift) (b : StateBody) : State :=
  (s.setLift x { s.lift x with
    presence := .online
    askTimer := none
    firmware := some b.firmware
    carriage := b.totes }).touch

/-- A STATE from a lift, by its presence (R57, R58, R59). -/
def State.takeLiftState (s : State) (x : Lift) (b : StateBody) : State :=
  match (s.lift x).presence with
  | .returning =>
    if stateSound x b && s.stateApart x b then s.adopt x b else s.raise .partyMismatch (some (.lift x))
  | .online =>
    if stateSound x b && b.totes = (s.lift x).carriage then s else s.raise .partyMismatch (some (.lift x))
  | .service => s

/-- The party has an entry or the lift an open visit (R61). -/
def State.liftBusy (s : State) (x : Lift) : Bool := (s.entryOf (.lift x)).isSome || (s.lift x).visit.isSome

/-- LIFT-SERVICE ON, refused with BUSY or carried out (R61). -/
def State.liftServiceOn (s : State) (x : Lift) : State × Option Reason :=
  if s.liftBusy x then (s, some .busy)
  else (((s.setLift x { s.lift x with presence := .service, askTimer := none }).flushLift x).touch, none)

/-- LIFT-SERVICE OFF (R61). -/
def State.liftServiceOff (s : State) (x : Lift) : State :=
  match (s.lift x).presence with
  | .service =>
    ((s.setLift x { s.lift x with
      presence := .returning
      askTimer := some Config.stateAskInterval }).sendStateAsk x).touch
  | .returning => s
  | .online => s

/-- The 500-tick interval of a RETURNING lift runs out (R56, log 26). -/
def State.askIntervalOut (s : State) (x : Lift) : State :=
  if (s.lift x).askTimer = some 0 then
    (s.setLift x { s.lift x with askTimer := some Config.stateAskInterval }).sendStateAsk x
  else s

/-! ### Loading and unloading (R63 to R66) -/

/-- The level a record is bound for is mapped. -/
def State.destMapped (s : State) (r : ToteRec) : Bool :=
  match levelOf r.dest with
  | some n => s.levelMapped n
  | none => false

/-- The checks of a LOAD (R63). -/
def State.loadFailure (s : State) (x : Lift) (totes : List ToteRec) : Option Reason :=
  firstFailure [
    checkOfRefusal (s.lift x).presence.refusal,
    ((s.lift x).visit.isSome, .inVisit),
    ((s.entryOf (.lift x)).isSome, .busy),
    (badCount totes.length, .badCount),
    (!(totes.all (fun r => validTote r && isInbound r) && allDiffer (totes.map (fun r => r.id))), .badTote),
    (2 < (s.lift x).carriage.length + totes.length, .full),
    (!totes.all s.destMapped, .unmapped),
    (totes.any (fun r => s.inCensus r.id none), .duplicate)]

/-- A LOAD (R63, R64). -/
def State.takeLoad (s : State) (x : Lift) (tag : Byte) (totes : List ToteRec) : State :=
  match s.loadFailure x totes with
  | some r => s.refuseLift x kLoad r tag
  | none => (s.setLift x { s.lift x with carriage := (s.lift x).carriage ++ totes }).touch

/-- The checks of an UNLOAD before the carriage order (R65). -/
def State.unloadFailure (s : State) (x : Lift) (ids : List ToteId) : Option Reason :=
  firstFailure [
    checkOfRefusal (s.lift x).presence.refusal,
    ((s.lift x).visit.isSome, .inVisit),
    ((s.entryOf (.lift x)).isSome, .busy),
    (badCount ids.length, .badCount),
    (badIds ids, .badTote)]

/-- One more tote of the stream delivered, for an outbound tote (R87). -/
def State.deliver (s : State) (r : ToteRec) : State :=
  match toteStream r with
  | some k =>
    if isInbound r then s else s.setStream k { s.stream k with delivered := (s.stream k).delivered + 1 }
  | none => s

/-- An UNLOAD (R65, R66). -/
def State.takeUnload (s : State) (x : Lift) (tag : Byte) (ids : List ToteId) : State :=
  match s.unloadFailure x ids with
  | some r => s.refuseLift x kUnload r tag
  | none =>
    let c := (s.lift x).carriage
    if (c.take ids.length).map (fun r => r.id) = ids then
      let s := s.setLift x { s.lift x with carriage := c.drop ids.length }
      ((c.take ids.length).foldl (fun s r => s.deliver r) s).touch
    else (s.refuseLift x kUnload .order tag).raise .order (some (.lift x))

/-! ### Visits (R67 to R72) -/

/-- Carriage totes bound for a level byte. -/
def LiftRec.boundFor (l : LiftRec) (level : Byte) : Nat :=
  (l.carriage.filter (fun r => isInbound r && r.dest = level)).length

/-- Check 7 of R67: the plan does not fit the carriage. -/
def LiftRec.planFails (l : LiftRec) (level : Byte) (p f : Nat) : Bool :=
  l.boundFor level < p || 2 < f + (l.carriage.length - p) || p + f = 0

/-- The checks of a VISIT-OPEN (R67). -/
def State.visitFailure (s : State) (x : Lift) (level p f : Byte) : Option Reason :=
  firstFailure [
    checkOfRefusal (s.lift x).presence.refusal,
    ((s.lift x).visit.isSome, .inVisit),
    checkOfRefusal s.mode.refusal,
    (s.latch (.lift x), .partyFault),
    ((s.entryOf (.lift x)).isSome, .busy),
    (!(match levelOf level with
      | some n => s.levelMapped n
      | none => false), .unmapped),
    ((s.lift x).planFails level p.toNat f.toNat, .badCount)]

/-- The visit that a VISIT-OPEN opens (R68). -/
def newVisit (t : Timing) (n : Level) (p f tag : Byte) : Visit where
  level := n
  p := p.toNat
  f := f.toNat
  limit := visitLimit t (p.toNat + f.toNat)
  timer := visitLimit t (p.toNat + f.toNat)
  tag := tag

/-- A VISIT-OPEN (R67, R68). -/
def State.openVisit (s : State) (x : Lift) (tag level p f : Byte) : State :=
  match s.visitFailure x level p f, levelOf level with
  | some r, _ => s.refuseLift x kVisitOpen r tag
  | none, none => s
  | none, some n =>
    (s.setLift x { s.lift x with visit := some (newVisit s.timing n p f tag) }).sendLift x
      (s.toParty (.lift x) kGo tag (.go 255 kVisitOpen []))

/-- A VISIT-CLOSE (R71). -/
def State.closeVisit (s : State) (x : Lift) (tag : Byte) : State :=
  match firstFailure [
      checkOfRefusal (s.lift x).presence.refusal,
      ((s.lift x).visit.isNone, .noVisit),
      ((s.entryOf (.lift x)).isSome, .busy)] with
  | some r => s.refuseLift x kVisitClose r tag
  | none => s.endVisit x (some tag)

/-- The visit timer of a lift runs out (R72). -/
def State.visitExpiry (s : State) (x : Lift) : State :=
  match (s.lift x).visit with
  | none => s
  | some v =>
    if v.timer = 0 ∧ s.mode ≠ .halt then
      let s := s.endVisit x none
      let s := match s.entryOf (.lift x) with
        | none => s
        | some (h, e) => if e.phase.isGranted then s else s.refuseEntry h e .timeout
      s.raise .visitTimeout (some (.lift x))
    else s

/-! ### NEXT-CALL (R76) -/

/-- The advice of a CALL: level, p, f. -/
structure Advice where
  level : Level
  p : Nat
  f : Nat
deriving DecidableEq, Repr

/-- The first inbound tote in carriage order whose destination has a free IN slot, as its level (R76, case 1). -/
def State.placeLevel (s : State) (x : Lift) : Option Level :=
  (s.lift x).carriage.findSome? (fun r =>
    if isInbound r then
      match levelOf r.dest with
      | some n => if (s.freeIn n).isEmpty then none else some n
      | none => none
    else none)

/-- The advice of R76, if there is a level to advise. -/
def State.advice (s : State) (x : Lift) : Option Advice :=
  let l := s.lift x
  match s.placeLevel x with
  | some n =>
    let p := min (l.boundFor (levelByte n)) (s.freeIn n).length
    some { level := n, p := p, f := min (s.fetchables x n).length (2 - (l.carriage.length - p)) }
  | none => match l.calls with
    | [] => none
    | c :: _ =>
      if l.freePlaces = 0 then none
      else some { level := c.level, p := 0, f := min l.freePlaces (s.fetchables x c.level).length }

/-- The reason when there is no call: FULL with two outbound totes, else EMPTY (R76, case 3). -/
def LiftRec.noCall (l : LiftRec) : Reason :=
  if (l.carriage.filter (fun r => !isInbound r)).length = 2 then .full else .empty

/-- The checks of a NEXT-CALL (R76). -/
def State.callFailure (s : State) (x : Lift) : Option Reason :=
  firstFailure [
    checkOfRefusal (s.lift x).presence.refusal,
    ((s.lift x).visit.isSome, .inVisit),
    checkOfRefusal s.mode.refusal,
    (s.latch (.lift x), .partyFault),
    ((s.entryOf (.lift x)).isSome, .busy)]

/-- A NEXT-CALL (R76). -/
def State.answerCall (s : State) (x : Lift) (tag : Byte) : State :=
  match s.callFailure x with
  | some r => s.refuseLift x kNextCall r tag
  | none => match s.advice x with
    | some a => s.sendLift x (s.toParty (.lift x) kCall tag (.visit (levelByte a.level) (byte a.p) (byte a.f)))
    | none => s.refuseLift x kNextCall (s.lift x).noCall tag

end Sys2Proof.Machine
end

