-- ==== Sys2Proof/Machine/Acts.lean ====
section
/-! DEFINITION. Asks (R28 to R32), completions (R40 to R43, R47, R48, R193), QUIT (R44), act and hold expiry (R45,
R51). -/

namespace Sys2Proof.Machine

/-! ### Asks -/

/-- Check 3 for a shuttle (R29). An UNMAPPED or ABSENT level takes no turn that brings an ask (log 27). -/
def LevelPresence.refusal : LevelPresence → Option Reason
  | .online => none
  | .service => some .service
  | .returning => some .notReady
  | .absent => some .notReady
  | .unmapped => some .notReady

/-- Presence of a party as a refusal (R29). -/
def State.presenceRefusal (s : State) (p : Party) : Option Reason :=
  match p with
  | .shuttle n => (s.shuttle n).presence.refusal
  | .lift x => (s.lift x).presence.refusal

/-- Checks 1 to 3 (R29). -/
def State.askGate (s : State) (p : Party) : Option Reason :=
  firstFailure [checkOfRefusal s.mode.refusal, (s.latch p, .partyFault), checkOfRefusal (s.presenceRefusal p)]

/-- Checks 5, 7 and 8 of a shuttle's PLACE-ASK (R30, R32). -/
def State.shuttlePlaceFailure (s : State) (n : Level) (count : Byte) (r : ToteRec) : Option Reason :=
  firstFailure [
    (!validTote r || isInbound r, .badTote),
    (count ≠ 1, .badCount),
    (s.noMappedPair n r, .badSlot),
    (s.inCensus r.id none, .duplicate),
    checkOfRefusal (s.routingFailure r)]

/-- Checks 5 and 6 of a lift's PLACE-ASK (R30, R31). -/
def State.liftPlaceFailure (s : State) (x : Lift) (count : Byte) (ids : List ToteId) : Option Reason :=
  match firstFailure [(badIds ids, .badTote), (badCount count.toNat, .badCount)] with
  | some r => some r
  | none => match (s.lift x).visit with
    | none => some .noVisit
    | some v => firstFailure [
        (!ids.all (fun id => (s.lift x).carriage.any (fun r => r.id = id && r.dest = levelByte v.level)), .badTote),
        (v.p < count.toNat, .badCount)]

/-- Checks 5 and 6 of a FETCH-ASK (R30, R31). -/
def State.fetchFailure (s : State) (p : Party) (count : Byte) : Option Reason :=
  match p with
  | .shuttle _ => if count = 1 then none else some .badCount
  | .lift x =>
    if badCount count.toNat then some .badCount
    else match (s.lift x).visit with
      | none => some .noVisit
      | some v => firstFailure [
          (v.f < count.toNat || (s.lift x).freePlaces = 0, .badCount),
          (!(outPair x).any (fun c => (s.slot v.level c).mapped), .badSlot)]

/-- The entry an ask would make (R25). -/
def newEntry (s : State) (p : Party) (k : Kind) (tag wait count : Byte) (items : List Item) : Entry where
  party := p
  kind := k
  phase := .waiting .full
  wait := wait ≠ 0
  tag := tag
  askStamp := s.time
  count := count.toNat
  items := items
  timer := 0

/-- An ask, its checks in order; `bad` is what checks 5 to 8 find (R28). -/
def State.ask (s : State) (e : Entry) (bad : Option Reason) : State :=
  match s.askGate e.party with
  | some r => s.refuse e.party e.kind.ask r 255 e.tag none
  | none => match s.entryOf e.party with
    | some (h, _) => s.refuse e.party e.kind.ask .busy (handleByte h) e.tag none
    | none => match bad with
      | some r => s.refuse e.party e.kind.ask r 255 e.tag none
      | none => match s.freeHandle with
        | none => s.refuse e.party e.kind.ask .tableFull 255 e.tag none
        | some h => s.decideAsk h e

/-- The items a lift PLACE names, with their records from the carriage (R25, log 23). -/
def State.namedItems (s : State) (x : Lift) (ids : List ToteId) : List Item :=
  ids.filterMap (fun id => ((s.lift x).carriage.find? (fun r => r.id = id)).map
    (fun r => { tote := r, slot := none, conf := .none }))

/-- A PLACE-ASK (R28). -/
def State.takePlaceAsk (s : State) (p : Party) (tag wait count : Byte) (b : PlaceBody) : State :=
  match p, b with
  | .shuttle n, .record r =>
    s.ask (newEntry s p .place tag wait count [{ tote := r, slot := none, conf := .none }])
      (s.shuttlePlaceFailure n count r)
  | .lift x, .ids l => s.ask (newEntry s p .place tag wait count (s.namedItems x l)) (s.liftPlaceFailure x count l)
  | .shuttle _, .ids _ => s
  | .lift _, .record _ => s

/-- A FETCH-ASK (R28). -/
def State.takeFetchAsk (s : State) (p : Party) (tag wait count : Byte) : State :=
  s.ask (newEntry s p .fetch tag wait count []) (s.fetchFailure p count)

/-! ### Completions -/

/-- Capture statistics after a completion (R53). -/
def Stat.enter (t : Stat) (duration : Stamp) : Stat :=
  let d : BitVec 16 := if 65535 < duration.toNat then 65535 else BitVec.ofNat 16 duration.toNat
  { completed := t.completed + 1, last := d, largest := if t.largest.toNat < d.toNat then d else t.largest }

/-- The statistics of a party entered (R53). -/
def State.enterStat (s : State) (p : Party) (duration : Stamp) : State :=
  { s with stats := s.stats.set p.idx ((s.stats[p.idx]).enter duration) }

/-- The items a completion names, in the order it names them. -/
def Entry.named (e : Entry) (ids : List ToteId) : List Item :=
  ids.filterMap (fun id => e.items.find? (fun i => i.tote.id = id))

/-- The slots of named items filled or emptied, their claims removed (R41, R42). -/
def State.moveSlots (s : State) (k : Kind) (items : List Item) : State :=
  items.foldl (fun s i => match i.slot with
    | some (n, c) => s.setSlot n c (.opened (match k with
        | .place => some { tote := i.tote, stamp := s.time }
        | .fetch => none) none)
    | none => s) s

/-- The carriage record after a lift's completion (R41, R42). -/
def carriageAfter (c : List ToteRec) (k : Kind) (items : List Item) : List ToteRec :=
  match k with
  | .place => c.filter (fun r => !items.any (fun i => i.tote.id = r.id))
  | .fetch => c ++ items.map (fun i => i.tote)

/-- The release entries of fetched totes of one stream removed and counted as one change (R86, R193). -/
def State.releaseFetched (s : State) (i : StreamNo) (items : List Item) : State :=
  let gone := items.filter (fun t => toteStream t.tote = some i)
  if gone.isEmpty then s
  else
    let s := s.shrinkList i ((s.stream i).list.filter (fun e => !gone.any (fun t => t.tote.id = e.id)))
    s.setStream i { s.stream i with released := (s.stream i).released + BitVec.ofNat 32 gone.length }

/-- All streams 1 to 16 of fetched totes (R193). -/
def State.releaseAll (s : State) (items : List Item) : State :=
  allStreams.tail.foldl (fun s i => s.releaseFetched i items) s

/-- The lift's part of a completion: its carriage, and the release entries of what it fetched (R41, R42, R86). -/
def State.moveCarriage (s : State) (p : Party) (k : Kind) (items : List Item) : State :=
  match p with
  | .shuttle _ => s
  | .lift x =>
    let s := s.setLift x { s.lift x with carriage := carriageAfter (s.lift x).carriage k items }
    match k with
    | .place => s
    | .fetch => s.releaseAll items

/-- The visit counts lowered by a completion (R69). -/
def Visit.lower (v : Visit) (k : Kind) (n : Nat) : Visit :=
  match k with
  | .place => { v with p := v.p - n }
  | .fetch => { v with f := v.f - n }

/-- The completion handed to the lift's visit; it ends when both counts are 0, and in DRAIN in any case (R69, R162). -/
def State.countVisit (s : State) (p : Party) (k : Kind) (n : Nat) : State :=
  match p with
  | .shuttle _ => s
  | .lift x => match (s.lift x).visit with
    | none => s
    | some v =>
      let v := v.lower k n
      let s := s.setLift x { s.lift x with visit := some v }
      if (v.p = 0 ∧ v.f = 0) ∨ s.mode = .drain then s.endVisit x none else s

/-- A report taken as a completion (R41 to R43). -/
def State.complete (s : State) (h : Handle) (e : Entry) (granted : Stamp) (ids : List ToteId) : State :=
  let items := e.named ids
  let s := (s.moveSlots e.kind items).moveCarriage e.party e.kind items
  let s := s.enterStat e.party (age s.time granted)
  (s.removeEntry h e).countVisit e.party e.kind ids.length

/-- A late report (R47). -/
def State.lateReport (s : State) (p : Party) (k : Kind) (tag : Byte) (h : Handle) (ids : List ToteId) : State :=
  ((s.refuse p k.report .late (handleByte h) tag none).reportTotes p h ids).raise .lateReport (some p)

/-- An ungranted act (R48). Its REFUSE is about no entry, also when it carries the handle of the party's own WAITING entry,
whose unsent HOLD stays in the box: the model's choice (R39, log 50). -/
def State.ungranted (s : State) (p : Party) (k : Kind) (tag handle : Byte) : State :=
  (s.refuse p k.report .noGrant handle tag none).raise .ungrantedAct (some p)

/-- The grant stamp, when the report names the party's own GRANTED entry of its kind and only totes of it (R40). -/
def Entry.accepts (e : Entry) (k : Kind) (ids : List ToteId) : Option Stamp :=
  match e.phase with
  | .granted t => if e.kind = k ∧ ids.all (fun id => e.items.any (fun i => i.tote.id = id)) = true then some t else none
  | .waiting _ => none
  | .confirming => none

/-- The judgement of a completion (R40). -/
def State.judge (s : State) (p : Party) (k : Kind) (tag handle : Byte) (ids : List ToteId) : State :=
  match (s.entryOf p).filter (fun x => handleByte x.1 = handle) with
  | some (h, e) => match e.accepts k ids with
    | some t => s.complete h e t ids
    | none => s.ungranted p k tag handle
  | none => match (s.lastExpiredOf p).filter (fun h => handleByte h = handle) with
    | some h => s.lateReport p k tag h ids
    | none => s.ungranted p k tag handle

/-- Presence of the reporting party: only a lift that is not ONLINE is refused (R40, R60). -/
def State.reportRefusal (s : State) (p : Party) : Option Reason :=
  match p with
  | .shuttle _ => none
  | .lift x => (s.lift x).presence.refusal

/-- A PLACED or FETCHED (R40). A count outside 1 to 2 is looked at before the tote IDs, the model's choice where both fail
(log 38). -/
def State.takeReport (s : State) (p : Party) (k : Kind) (tag handle : Byte) (ids : List ToteId) : State :=
  match s.reportRefusal p with
  | some r => s.refuse p k.report r handle tag none
  | none => match firstFailure [(badCount ids.length, .badCount), (badIds ids, .badTote)] with
    | some r => s.refuse p k.report r 255 tag none
    | none => s.judge p k tag handle ids

/-- A QUIT (R44). -/
def State.takeQuit (s : State) (p : Party) (tag handle : Byte) : State :=
  match s.reportRefusal p with
  | some r => s.refuse p kQuit r handle tag none
  | none => match (s.entryOf p).filter (fun x => handleByte x.1 = handle) with
    | some (h, e) => s.removeEntry h e
    | none =>
      if ((s.lastExpiredOf p).filter (fun h => handleByte h = handle)).isSome then s.refuse p kQuit .late handle tag none
      else s.refuse p kQuit .noGrant handle tag none

/-! ### Expiries -/

/-- In DRAIN, the end of a lift's GRANTED entry by act expiry ends its visit (R162). -/
def State.drainVisit (s : State) (p : Party) : State :=
  match p with
  | .shuttle _ => s
  | .lift x => if s.mode = .drain then s.endVisit x none else s

/-- The slots an entry claims enter DOUBT, and the DOUBT flag is handed on (R10). -/
def State.doubtEntry (s : State) (h : Handle) (e : Entry) (cause : DoubtCause) : State :=
  (s.doubtClaims h e.party cause e.items).touch

/-- The act timer of an entry reaches 0 (R45). -/
def State.actExpiry (s : State) (h : Handle) : State :=
  match s.entry h with
  | none => s
  | some e =>
    if e.phase.isGranted && e.timer = 0 && s.mode ≠ .halt then
      let s := (s.doubtEntry h e .actTimeout).handFlag .doubt
      let s := (s.setLastExpired e.party (some h)).removeEntry h e
      (s.drainVisit e.party).raise .actTimeout (some e.party)
    else s

/-- The hold timer of an entry reaches 0 (R51). -/
def State.holdExpiry (s : State) (h : Handle) : State :=
  match s.entry h with
  | none => s
  | some e => if e.isWaiting && e.timer = 0 && s.mode ≠ .halt then s.refuseEntry h e .timeout else s

end Sys2Proof.Machine
end

