-- ==== Sys2Proof/Machine/LevelBus.lean ====
section
/-! DEFINITION. The level bus: turns (R137, R139, R140; the cycles are in Machine/Cycles.lean), misses and absence (R143, R145), presence
(R147 to R149), level service (R151, R152) and the slot map's effect on levels (R13, R150). -/

namespace Sys2Proof.Machine

/-! ### Turns -/

/-- The first telegram of a level in the level downstream queue marked as begun. -/
def beginFirst (n : Level) : List LevelItem → List LevelItem
  | [] => []
  | i :: is => if i.level = n then { i with begun := true } :: is else i :: beginFirst n is

/-- The frame of a turn is chosen and begins (R139). -/
def State.giveTurn (s : State) (n : Level) : State :=
  let r := s.shuttle n
  match r.box with
  | i :: is =>
    let s := s.setShuttle n { r with box := { i with begun := true } :: is }
    { s with bus := { s.bus with turn := .sending n i.tel } }
  | [] =>
    if r.presence = .returning then
      { s with bus := { s.bus with turn := .sending n (s.toParty (.shuttle n) kStateAsk s.bus.ownTag .nothing) } }
    else match s.bus.queue.find? (fun i => i.level = n) with
      | some i => { s with bus := { s.bus with turn := .sending n i.tel, queue := beginFirst n s.bus.queue } }
      | none => { s with bus := { s.bus with turn := .sending n (s.toParty (.shuttle n) kPoll s.bus.ownTag .nothing) } }

/-- The level that the scheduler has found gets its turn (R137). A turn in progress is left as it is. -/
def State.startTurn (s : State) : State :=
  match s.bus.turn with
  | .idle => match s.bus.next with
    | some n => State.giveTurn { s with bus := { s.bus with pos := some n, next := none } } n
    | none => s
  | .sending _ _ => s
  | .awaiting _ => s

/-- A POLL or STATE-ASK, whose tag is the level bus own-tag count (R135). -/
def Tel.isOwnTagged (t : Tel) : Bool := t.kind = kPoll || t.kind = kStateAsk

/-- The frame of a turn has been sent: its telegram leaves its place, the receiver goes straight to READY, and the answer
is awaited (R139, R140). -/
def State.frameSent (s : State) : State :=
  match s.bus.turn with
  | .idle => s
  | .awaiting _ => s
  | .sending n t =>
    if t.isOwnTagged then { s with bus := { s.bus with turn := .awaiting n, rx := .ready, ownTag := s.bus.ownTag + 1 } }
    else
      let r := s.shuttle n
      let s := s.setShuttle n { r with box := r.box.filter (fun i => !i.begun) }
      { s with bus := { s.bus with
          turn := .awaiting n
          rx := .ready
          queue := s.bus.queue.filter (fun i => !(i.level = n && i.begun)) } }

/-! ### Misses and absence -/

/-- The WAITING entry of a shuttle is removed without an answer (R145). -/
def State.dropWaiting (s : State) (n : Level) : State :=
  match s.entryOf (.shuttle n) with
  | none => s
  | some (h, e) => if e.phase.isGranted then s else s.removeEntry h e

/-- A level goes ABSENT, with its miss count (R145). -/
def State.goesAbsent (s : State) (n : Level) (m : Nat) : State :=
  let s := s.setShuttle n { s.shuttle n with presence := .absent, miss := m }
  (((s.dropWaiting n).flushLevel n .absent).emptyBox n).raise .pollSilence (some (.shuttle n))

/-- A miss of level n (R143). The presence at the end of the turn decides whether it counts, the model's choice (log 51). -/
def State.miss (s : State) (n : Level) : State :=
  let r := s.shuttle n
  let m := min 15 (r.miss + 1)
  if r.presence = .online ∨ r.presence = .returning then
    if s.timing.missThreshold.toNat ≤ m then s.goesAbsent n m else s.setShuttle n { r with miss := m }
  else s

/-- The turn ends: the bus is idle, its receiver in HUNT, and the scheduler looks for the next level (R137, R140). -/
def State.endTurn (s : State) : State :=
  State.wantLook { s with bus := { s.bus with turn := .idle, rx := .hunt, next := none } }

/-- A good answer of level n: the miss count is 0, and an ABSENT level is RETURNING (R143, R146). -/
def State.goodAnswer (s : State) (n : Level) : State :=
  let r := s.shuttle n
  s.setShuttle n { r with
    miss := 0
    presence := match r.presence with
      | .absent => .returning
      | .unmapped => .unmapped
      | .returning => .returning
      | .online => .online
      | .service => .service }

/-! ### Presence by STATE -/

/-- The WAITING entry of a shuttle is refused with SERVICE and removed (R149, R151). -/
def State.refuseWaiting (s : State) (n : Level) : State :=
  match s.entryOf (.shuttle n) with
  | none => s
  | some (h, e) => if e.phase.isGranted then s else s.refuseEntry h e .service

/-- A level enters SERVICE with a miss count (R149, R151). -/
def State.intoService (s : State) (n : Level) (m : Nat) : State :=
  let s := s.setShuttle n { s.shuttle n with presence := .service, miss := m, mark := false }
  (((s.refuseWaiting n).flushLevel n .service).emptyBox n).wantLook

/-- The STATE names party kind 1 and the level's own station (R148). -/
def verifiesShuttle (n : Level) (b : StateBody) : Bool := b.kind = 1 && b.station = levelByte n

/-- A RETURNING level verified: ONLINE, and with the service-return mark SERVICE-READY is handed on (R148). -/
def State.levelOnline (s : State) (n : Level) (firmware : Byte) : State :=
  let r := s.shuttle n
  let s := s.setShuttle n { r with presence := .online, firmware := firmware, mark := false }
  if r.mark then s.handFlag .serviceReady else s

/-- A shuttle STATE that does not match (R149). -/
def State.shuttleMismatch (s : State) (n : Level) : State :=
  (s.intoService n (s.shuttle n).miss).raise .partyMismatch (some (.shuttle n))

/-- A STATE from a shuttle, by its level's presence (R148, R149). -/
def State.takeShuttleState (s : State) (n : Level) (b : StateBody) : State :=
  let r := s.shuttle n
  match r.presence with
  | .returning => if verifiesShuttle n b then s.levelOnline n b.firmware else s.shuttleMismatch n
  | .online => if verifiesShuttle n b then s.setShuttle n { r with firmware := b.firmware } else s.shuttleMismatch n
  | .service => s
  | .absent => s
  | .unmapped => s

/-! ### Level service -/

/-- The shuttle has a GRANTED entry (R151). -/
def State.shuttleGranted (s : State) (n : Level) : Bool :=
  match s.entryOf (.shuttle n) with
  | some (_, e) => e.phase.isGranted
  | none => false

/-- LEVEL-SERVICE ON for a mapped level (R151). BUSY comes before the OK of a level that is in SERVICE already, the model's
choice (log 43). -/
def State.levelServiceOn (s : State) (n : Level) : State × Option Reason :=
  if s.shuttleGranted n then (s, some .busy)
  else match (s.shuttle n).presence with
    | .service => (s, none)
    | .returning => (s.intoService n 0, none)
    | .online => (s.intoService n 0, none)
    | .absent => (s.intoService n 0, none)
    | .unmapped => (s, none)

/-- LEVEL-SERVICE OFF for a mapped level (R152). -/
def State.levelServiceOff (s : State) (n : Level) : State :=
  let r := s.shuttle n
  match r.presence with
  | .service => (s.setShuttle n { r with presence := .returning, miss := 0, mark := true }).wantLook
  | .returning => s
  | .online => s
  | .absent => s
  | .unmapped => s

/-- Presence codes (Table 10-2). -/
def LevelPresence.byte : LevelPresence → Byte
  | .unmapped => 0
  | .returning => 1
  | .online => 2
  | .absent => 3
  | .service => 4

/-- A LEVEL-SERVICE request (R151, R152). -/
def State.levelService (s : State) (level : Byte) (on : Bool) : State × Option Reason × List Byte :=
  match levelOf level with
  | none => (s, some .unmapped, [level, 0])
  | some n =>
    if s.levelMapped n then
      let (t, r) := if on then s.levelServiceOn n else (s.levelServiceOff n, none)
      (t, r, [level, (t.shuttle n).presence.byte])
    else (s, some .unmapped, [level, (s.shuttle n).presence.byte])

/-! ### The slot map -/

/-- The map's bit of a slot code (Table 10-3). -/
def mapBit (b : Byte) (c : SlotCode) : Bool := b.getLsbD (c.byte.toNat - 1)

/-- A level's byte of the map names a code outside 1 to 6, or maps slots without an IN slot (R13, R185). -/
def badMapByte (b : Byte) : Bool :=
  b.getLsbD 6 || b.getLsbD 7 || (b ≠ 0 && !mapBit b .in1 && !mapBit b .in2)

/-- A slot after a slot map write (R13). -/
def Slot.remap (v : Slot) (mapped : Bool) : Slot :=
  if mapped then .doubt v.content .mapped none none else .off

/-- A level's record after a slot map write (R150). -/
def ShuttleRec.remap (r : ShuttleRec) (was now : Bool) : ShuttleRec :=
  match was, now with
  | false, true => { r with presence := .returning, miss := 0, mark := false }
  | true, false => { presence := .unmapped, miss := 0, mark := false, firmware := 0, box := [] }
  | true, true => r
  | false, false => r

/-- The byte of a map for a level. -/
def mapAt (map : List Byte) (n : Level) : Byte := map.getD n.val 0

/-- A slot map write that is taken. The NOT-FORWARDED UNMAPPEDs are made before the DOUBT flag is handed on, the model's
choice (R13, R150, log 42). -/
def State.applyMap (s : State) (map : List Byte) : State :=
  let shuttles := vmap s.shuttles (fun n r => r.remap (s.levelMapped n) (mapAt map n ≠ 0))
  let gone := s.bus.queue.filter (fun i => mapAt map i.level = 0)
  let s := { s with
    slots := vmap s.slots (fun n l => l.map (fun c v => v.remap (mapBit (mapAt map n) c)))
    shuttles := shuttles
    bus := { s.bus with queue := s.bus.queue.filter (fun i => mapAt map i.level ≠ 0) } }
  let s := gone.foldl (fun s i => s.sendNotForwarded .unmapped i.tel) s
  let s := if map.any (fun b => b ≠ 0) then s.handFlag .doubt else s
  s.touch.wantLook

/-- A slot map write (R13). -/
def State.writeMap (s : State) (map : List Byte) : State × Option Reason :=
  if s.mode ≠ .config then (s, some .config)
  else if map.any badMapByte then (s, some .badSlot)
  else (s.applyMap map, none)

end Sys2Proof.Machine
end

