-- ==== Sys2Proof/Machine/Confirm.lean ====
section
/-! DEFINITION. The confirm unit: decisions, defaults and resolution (chapter 5). -/

namespace Sys2Proof.Machine

/-- No item is asked any more. -/
def Entry.allDecided (e : Entry) : Bool := e.items.all (fun i => i.conf ≠ .asked)

/-- The place where a tote stands OPEN, unclaimed and eligible in a lift's own pair at a level, the entry's own cover
not counted (R110). -/
def State.stillFetchable (s : State) (x : Lift) (n : Level) (id : ToteId) : Option (SlotCode × ToteRec) :=
  (outPair x).findSome? (fun c => match (s.slot n c).ready with
    | some t => if t.tote.id = id && s.eligible t.tote then some (c, t.tote) else none
    | none => none)

/-- The items of a CONFIRMING entry that can still be granted, with the slot where each stands now (R110). -/
def State.keptItems (s : State) (e : Entry) : List Item :=
  match e.party with
  | .shuttle _ => []
  | .lift x => match (s.lift x).visit with
    | none => []
    | some v => e.items.filterMap (fun i =>
        if i.conf = .confirmed ∨ i.conf = .none then
          (s.stillFetchable x v.level i.tote.id).map (fun p => { tote := p.2, slot := some (v.level, p.1), conf := i.conf })
        else none)

/-- Resolution of a CONFIRMING entry in RUN (R110). -/
def State.resolve (s : State) (h : Handle) (e : Entry) : State :=
  let kept := s.keptItems e
  let s := s.dropConfirmAsks h
  if kept.isEmpty then
    if e.wait then
      (s.hold h { e with items := [] } .notEligible).wantReeval
    else s.refuseEntry h e .denied
  else (s.grant h e kept).wantReeval

/-- In RUN, a CONFIRMING entry with no asked item is resolved (R110, R114). -/
def State.resolveIfDecided (s : State) (h : Handle) : State :=
  match s.entry h with
  | none => s
  | some e =>
    if e.phase = .confirming && e.allDecided && s.mode = .run then s.resolve h e else s

/-- The items of an entry changed. -/
def Entry.mapItems (e : Entry) (f : Item → Item) : Entry := { e with items := e.items.map f }

/-- The first item with a tote ID that is asked. -/
def Entry.askedItem (e : Entry) (id : ToteId) : Option Item :=
  e.items.find? (fun i => i.tote.id = id && i.conf = .asked)

/-- A decision on an asked tote of a CONFIRMING entry (R108). -/
def State.decideItem (s : State) (h : Handle) (e : Entry) (id : ToteId) (c : Conf) : State :=
  (s.setEntry h (some (e.mapItems (fun i => if i.tote.id = id && i.conf = .asked then { i with conf := c } else i)))).touch

/-- The confirm default of a tote's stream (R105). -/
def State.confirmDefault (s : State) (r : ToteRec) : ConfirmDefault :=
  match toteStream r with
  | some k => (s.stream k).row.dflt
  | none => .deny

/-- The default applied to each asked tote at the expiry of the confirm timer (R109). The stream is that of the record
kept at the selection, the model's choice where a SLOT-SET has declared the tote anew since (log 39). -/
def State.applyDefaults (s : State) (h : Handle) (e : Entry) : State :=
  let e' := e.mapItems (fun i =>
    if i.conf = .asked then
      { i with conf := match s.confirmDefault i.tote with
        | .grant => .confirmed
        | .deny => .denied }
    else i)
  let s := e.items.foldl (fun s i =>
    if i.conf = .asked && s.confirmDefault i.tote = .deny && s.listed i.tote then s.bar i.tote else s) s
  s.setEntry h (some e')

/-- Result and data of a CONFIRM or DENY (R108). -/
def State.decideRequest (s : State) (deny : Bool) (hb : Byte) (id : ToteId) : State × Option Reason × List Byte :=
  match handleOf hb with
  | none => (s, some .void, [])
  | some h => match s.entry h with
    | none => (s, some .void, [])
    | some e =>
      if e.phase = .confirming then
        match e.askedItem id with
        | none => (s, some .void, [])
        | some i =>
          if deny then
            let listed := s.listed i.tote
            let s := s.decideItem h e id .denied
            let s := if listed then s.bar i.tote else s
            (s.resolveIfDecided h, none, [hb] ++ be32 id ++ [markByte listed])
          else ((s.decideItem h e id .confirmed).resolveIfDecided h, none, [hb] ++ be32 id)
      else (s, some .void, [])

/-- The confirm timer of an entry reaches 0 (R109). -/
def State.confirmExpiry (s : State) (h : Handle) : State :=
  match s.entry h with
  | none => s
  | some e =>
    if e.phase = .confirming && e.timer = 0 && s.mode ≠ .halt then
      (s.applyDefaults h e).touch.resolveIfDecided h
    else s

end Sys2Proof.Machine
end

