-- ==== Sys2Proof/Machine/Modes.lean ====
section
/-! DEFINITION. MODE-SET and what each change of mode does (chapter 8); the stop input (R163); the tick (R23, R24). -/

namespace Sys2Proof.Machine

/-! ### Run conditions (R159) -/

/-- Some level is mapped (R14). -/
def State.someMapped (s : State) : Bool := allLevels.any (fun n => s.levelMapped n)

/-- A class whose disposition is HALT is pending (R159, condition 3). -/
def State.haltPending (s : State) : Bool :=
  FaultClass.all.any (fun c => (s.faultRec c).isSome && s.disposition c = .halt)

/-- The run conditions (R159). -/
def State.runRefusal (s : State) (fromConfig : Bool) : Option Reason :=
  firstFailure [
    (fromConfig && !s.someMapped, .unmapped),
    (s.modeCtl.stop, .halted),
    (s.haltPending, .halted)]

/-- The mode becomes RUN and the hold queue is re-evaluated (R159, R162). -/
def State.intoRun (s : State) : State := (s.setMode .run).wantReeval

/-! ### Leaving HALT (R166 to R168) -/

/-- An entry is revoked: its slots enter DOUBT with a cause, its party is answered REVOKED (R166, R168). -/
def State.revokeEntry (s : State) (cause : DoubtCause) (h : Handle) (e : Entry) : State :=
  if e.phase.isGranted then (s.doubtEntry h e cause).refuseEntry h e .revoked else s.refuseEntry h e .revoked

/-- The DOUBT flag handed on once, when an entry that is revoked was GRANTED (R166 to R168). -/
def State.flagDoubt (s : State) (gone : List (Handle × Entry)) : State :=
  if gone.any (fun x => x.2.phase.isGranted) then s.handFlag .doubt else s

/-- A GRANTED entry's GO made again with its grant stamp and act timer anew (R166). -/
def State.reissueEntry (s : State) (h : Handle) (e : Entry) : State :=
  let e' := e.granted s.time s.timing e.items
  (s.setEntry h (some e')).sendGo h e'

/-- Every open visit's timer at the full limit kept in its context (R166). -/
def LiftRec.restartVisit (l : LiftRec) : LiftRec :=
  { l with visit := l.visit.map (fun v => { v with timer := v.limit }) }

/-- Steps 2 and 3 of R166 for one handle. -/
def State.reissueHandle (s : State) (h : Handle) : State :=
  match s.entry h with
  | none => s
  | some e =>
    if e.phase.isGranted then
      if s.latch e.party then s.revokeEntry .revoked h e else s.reissueEntry h e
    else s

/-- A resume with REISSUE (R166). -/
def State.reissue (s : State) : State :=
  let gone := s.entries.filter (fun x => x.2.phase.isGranted && s.latch x.2.party)
  let s := s.setMode .run
  let s := (allHandles.foldl (fun s h => s.reissueHandle h) s).flagDoubt gone
  let s := allHandles.foldl (fun s h => s.resolveIfDecided h) s
  let s := (s.setLift .a (s.lift .a).restartVisit).setLift .b (s.lift .b).restartVisit
  s.wantReeval

/-- Every entry is revoked or refused REVOKED, and every visit ends (R167, R168). -/
def State.revokeAll (s : State) (cause : DoubtCause) : State :=
  let gone := s.entries
  let s := (gone.foldl (fun s x => s.revokeEntry cause x.1 x.2) s).flagDoubt gone
  (s.endVisit .a none).endVisit .b none

/-- A resume with REVOKE (R167). -/
def State.resumeRevoke (s : State) : State := ((s.setMode .run).revokeAll .revoked).wantReeval

/-- A cleanup into CONFIG (R168). -/
def State.cleanup (s : State) : State := (s.revokeAll .haltConfig).setMode .config

/-! ### Draining (R161) -/

/-- The lift's visit ends unless the lift has a GRANTED entry (R161). -/
def State.endIdleVisit (s : State) (x : Lift) : State :=
  match s.entryOf (.lift x) with
  | some (_, e) => if e.phase.isGranted then s else s.endVisit x none
  | none => s.endVisit x none

/-- Entry into DRAIN (R161). -/
def State.drain (s : State) : State :=
  let s := s.setMode .drain
  let s := (s.entries.filter (fun x => !x.2.phase.isGranted)).foldl (fun s x => s.refuseEntry x.1 x.2 .draining) s
  ((s.endIdleVisit .a).endIdleVisit .b).checkDrain

/-! ### MODE-SET (R158) -/

/-- The resume mode a MODE-SET names: `none` for "default" (Table 10-2). -/
def resumeOf (b : Byte) : Option (Option ResumeMode) :=
  if b = 0 then some none else if b = 1 then some (some .reissue) else if b = 2 then some (some .revoke) else none

/-- A resume from HALT (R166, R167). -/
def State.resume (s : State) (r : Option ResumeMode) : State :=
  match r.getD s.modeCtl.resumeDefault with
  | .reissue => s.reissue
  | .revoke => s.resumeRevoke

/-- An effect under the run conditions (R159). -/
def State.whenRunnable (s : State) (fromConfig : Bool) (t : State) : State × Option Reason :=
  match s.runRefusal fromConfig with
  | some r => (s, some r)
  | none => (t, none)

/-- MODE-SET by present mode and target (R158). -/
def State.changeMode (s : State) (target : Mode) (r : Option ResumeMode) : State × Option Reason :=
  match s.mode, target with
  | .config, .config => (s, none)
  | .config, .run => s.whenRunnable true s.intoRun
  | .config, .drain => (s, some .config)
  | .config, .halt => (s, some .config)
  | .run, .config => if s.entries.isEmpty ∧ s.openVisits = 0 then (s.setMode .config, none) else (s, some .busy)
  | .run, .run => (s, none)
  | .run, .drain => (s.drain, none)
  | .run, .halt => (s.enterHalt, none)
  | .drain, .config => (s, some .busy)
  | .drain, .run => s.whenRunnable false s.intoRun
  | .drain, .drain => (s, none)
  | .drain, .halt => (s.enterHalt, none)
  | .halt, .config => (s.cleanup, none)
  | .halt, .run => s.whenRunnable false (s.resume r)
  | .halt, .drain => (s, some .halted)
  | .halt, .halt => (s, none)

/-- A MODE-SET (R158). -/
def State.modeSet (s : State) (target resume : Byte) : State × Option Reason :=
  match modeOf target, resumeOf resume with
  | some m, some r => s.changeMode m r
  | _, _ => (s, some .badCount)

/-! ### Stop input and tick -/

/-- The stop input as it changes (R163). -/
def State.setStop (s : State) (v : Bool) : State := { s with modeCtl := { s.modeCtl with stop := v } }

/-- A timer counted down by one tick; one that stands at 0 stays there (R24, log 9). -/
def countDown (t : Ticks) : Ticks := if t = 0 then 0 else t - 1

/-- An entry after a tick in a mode in which timers run (R24). -/
def Entry.tick (e : Entry) : Entry := { e with timer := countDown e.timer }

/-- What the coordinator keeps of a lift after a tick: the visit timer runs outside HALT, the STATE-ASK interval always
(R24, R56, R68). -/
def LiftRec.tick (l : LiftRec) (frozen : Bool) : LiftRec :=
  { l with
    askTimer := l.askTimer.map countDown
    visit := if frozen then l.visit else l.visit.map (fun v => { v with timer := countDown v.timer }) }

/-- One tick of the time base (R23, R24). -/
def State.tick (s : State) : State :=
  let frozen : Bool := s.mode = .halt
  { s with
    time := s.time + 1
    table := if frozen then s.table else vmap s.table (fun _ e => e.map Entry.tick)
    coord := ⟨s.coord.a.tick frozen, s.coord.b.tick frozen⟩ }

end Sys2Proof.Machine
end

