-- ==== Sys2Proof/Machine/Tables.lean ====
section
/-! DEFINITION. The functions of the store controller that change tables, streams, slots, faults and notices (R80, R83,
R84, R115, R15, R16, R174, R178 to R181, R185, R186, R190, R191). Each answers the state after it, the result, and the
ANSWER data where they are more than empty. -/

namespace Sys2Proof.Machine

/-! ### Route table (R80, R81) -/

/-- A byte that is 1 or 0 as yes or no (Table 10-3). -/
def markOf (b : Byte) : Option Bool := if b = 1 then some true else if b = 0 then some false else none

/-- The alternate lift a byte names: 0 for none (Table 10-3). -/
def alternateOf (b : Byte) : Option (Option Lift) := if b = 0 then some none else (liftOf b).map some

/-- The five fields that stream 0 keeps at their reset values (R79). -/
def sequencedFields (w : RowBytes) : Option (Byte × StrayPolicy × Bool × ConfirmDefault × Byte) :=
  match markOf w.stray, markOf w.confirm, markOf w.dflt with
  | some st, some c, some d =>
    if 1 ≤ w.window.toNat ∧ w.window.toNat ≤ 8 ∧ w.lowMark.toNat ≤ 127 then
      some (w.window, if st then .accept else .refuse, c, if d then .grant else .deny, w.lowMark)
    else none
  | _, _, _ => none

/-- The row that bytes give for a stream; none when a value is outside its range (R80, check 1). -/
def rowOf (i : StreamNo) (w : RowBytes) : Option Row :=
  match markOf w.routed, liftOf w.primary, alternateOf w.alternate with
  | some routed, some primary, some alternate =>
    if i = 0 then some { Row.resetValues routed with primary := primary, alternate := alternate }
    else match sequencedFields w with
      | some (win, st, c, d, low) =>
        some ⟨routed, primary, alternate, win, st, c, d, low⟩
      | none => none
  | _, _, _ => none

/-- Two rows name different lifts (R80, check 3). -/
def Row.liftsDiffer (a b : Row) : Bool := a.primary ≠ b.primary || a.alternate ≠ b.alternate

/-- A row that is taken (R81). -/
def State.applyRow (s : State) (i : StreamNo) (row : Row) : State :=
  let st := s.stream i
  let st' := if st.row.liftsDiffer row then { st with row := row, active := row.primary, switchPending := false }
    else { st with row := row }
  (s.setStream i st').wantReeval

/-- A route table write (R80). -/
def State.writeRow (s : State) (stream : Byte) (w : RowBytes) : State × Option Reason :=
  match streamOf stream with
  | none => (s, some .badCount)
  | some i => match rowOf i w with
    | none => (s, some .badCount)
    | some row =>
      if row.alternate = some row.primary then (s, some .route)
      else if (s.stream i).row.liftsDiffer row && (s.custody i .a || s.custody i .b) then (s, some .busy)
      else (s.applyRow i row, none)

/-! ### Timing table and address entries (R186) -/

/-- The values of a timing table are within their ranges (R24, R186). -/
def timingInRange (t : Timing) : Bool :=
  [1, 2, 5, 10].contains t.tick.toNat
    && [t.shuttleBase, t.shuttlePer, t.liftBase, t.liftPer, t.holdShuttle, t.holdLift, t.confirmLimit, t.visitBase,
        t.visitPer].all (fun w => w ≠ 0)
    && (1 ≤ t.missThreshold.toNat && t.missThreshold.toNat ≤ 15)
    && (2 ≤ t.probeInterval.toNat && t.probeInterval.toNat ≤ 64)

/-- A timing table write: the refusal by mode comes first (R185, R186, log 20). -/
def State.writeTiming (s : State) (t : Timing) : State × Option Reason :=
  if t.tick ≠ s.timing.tick ∧ s.mode ≠ .config then (s, some .config)
  else if timingInRange t then ({ s with timing := t }, none)
  else (s, some .badCount)

/-- An address entries write (R186). -/
def State.writeAddress (s : State) (group value mask : Byte) : State × Option Reason :=
  if s.mode ≠ .config then (s, some .config)
  else if 63 < group.toNat then (s, some .badCount)
  else ({ s with store := { s.store with group := group, maskValue := value, mask := mask } }, none)

/-! ### Fault unit (R174, R178 to R181) -/

/-- The classes fixed at HALT (R174). -/
def FaultClass.fixed (c : FaultClass) : Bool := c = .ungrantedAct || c = .stopInput

/-- A disposition table write (R174). -/
def State.writeDisposition (s : State) (cls disp : Byte) : State × Option Reason :=
  match classOf cls with
  | none => (s, some .badCount)
  | some c =>
    if c.fixed then (s, some .readOnly)
    else match dispositionOf disp with
      | none => (s, some .badCount)
      | some d => ({ s with faults := { s.faults with dispositions := s.faults.dispositions.set c.idx d } }, none)

/-- A priority list write (R179). -/
def State.writePriority (s : State) (classes : List Byte) : State × Option Reason :=
  if 12 < classes.length || !classes.all (fun b => (classOf b).isSome) || !allDiffer classes then (s, some .badCount)
  else ({ s with faults := { s.faults with priority := classes.filterMap classOf } }, none)

/-- The count a class's record holds, 0 when it is not pending (R180). -/
def State.faultCount (s : State) (c : FaultClass) : Byte :=
  match s.faultRec c with
  | some f => f.count
  | none => 0

/-- The clear of this class is refused while the stop input is asserted (R180, R181). -/
def State.clearBlocked (s : State) (c : FaultClass) : Bool := c = .stopInput && s.modeCtl.stop

/-- CLEAR-FAULT (R180). -/
def State.clearFault (s : State) (cls : Byte) : State × Option Reason × List Byte :=
  match classOf cls with
  | none => (s, some .badCount, [])
  | some c =>
    if s.clearBlocked c then (s, some .busy, []) else (s.setFaultRec c none, none, [cls, s.faultCount c])

/-- CLEAR-LEAD (R181). -/
def State.clearLead (s : State) : State × Option Reason × List Byte :=
  match s.leadFault with
  | none => (s, none, [0, 0])
  | some c =>
    if s.clearBlocked c then (s, some .busy, [c.byte, 0]) else (s.setFaultRec c none, none, [c.byte, s.faultCount c])

/-- CLEAR-PARTY (R178). -/
def State.clearParty (s : State) (station : Byte) : State × Option Reason × List Byte :=
  match partyOf station with
  | none => (s, some .badCount, [])
  | some p =>
    if s.latch p then ((s.setLatchBit p false).wantReeval, none, [station, 1]) else (s, none, [station, 0])

/-! ### Notices (R190, R191) -/

/-- A set of flags with bit 6 or bit 7 (R190, R191). -/
def badFlags (b : Byte) : Bool := b.getLsbD 6 || b.getLsbD 7

/-- A notice enables write (R190). -/
def State.writeEnables (s : State) (set : Byte) : State × Option Reason :=
  if badFlags set then (s, some .badCount)
  else
    let old := s.notices
    let s := { s with notices := NoticeUnit.make old.pending (flagsOf set) }
    if (((flagsOf set).minus old.enabled).both old.pending).any then (s.makeNotice, none) else (s, none)

/-- All low markers cleared (R88, R191). -/
def State.clearLowMarkers (s : State) : State :=
  { s with streams := vmap s.streams (fun _ st => { st with lowMarker := false }) }

/-- CLEAR-NOTICE (R191). -/
def State.clearNotice (s : State) (b : Byte) : State × Option Reason × List Byte :=
  if badFlags b then (s, some .badCount, [])
  else
    let s := { s with notices := NoticeUnit.make (s.notices.pending.minus (flagsOf b)) s.notices.enabled }
    let s := if (flagsOf b).streamLow then s.clearLowMarkers else s
    (s.refreshNotice, none, [s.notices.pending.byte])

/-- A resume default write (R166, R185). -/
def State.writeResumeDefault (s : State) (b : Byte) : State × Option Reason :=
  if b = 1 then ({ s with modeCtl := { s.modeCtl with resumeDefault := .reissue } }, none)
  else if b = 2 then ({ s with modeCtl := { s.modeCtl with resumeDefault := .revoke } }, none)
  else (s, some .badCount)

/-! ### Streams (R83, R84, R115) -/

/-- The stream a request names when it is 1 to 16 (R83, R84, R115). -/
def sequencedOf (b : Byte) : Option StreamNo := (streamOf b).filter (fun i => i ≠ 0)

/-- How far an append has come: the list so far, appended, skipped, and why it stopped (R83). -/
structure Appending where
  list : List RelEntry
  appended : Nat
  skipped : Nat
  stop : Option Reason
deriving DecidableEq, Repr

/-- One ID of an append. `elsewhere` says whether another list holds it; `used` counts the pool before the request
(R83). -/
def Appending.next (elsewhere : ToteId → Bool) (used : Nat) (a : Appending) (id : ToteId) : Appending :=
  if a.stop.isSome then a
  else if elsewhere id || (relIndex a.list id).isSome then { a with skipped := a.skipped + 1 }
  else if Config.listEntries ≤ a.list.length then { a with stop := some .listFull }
  else if Config.poolEntries ≤ used + a.appended then { a with stop := some .poolFull }
  else { a with list := a.list ++ [⟨id, false, false⟩], appended := a.appended + 1 }

/-- An ID stands in the list of another stream (R83). -/
def State.listedElsewhere (s : State) (i : StreamNo) (id : ToteId) : Bool :=
  allStreams.any (fun k => k ≠ i && (relIndex (s.stream k).list id).isSome)

/-- The result of an append (R83). -/
def Appending.result (a : Appending) : Option Reason :=
  match a.stop with
  | some r => some r
  | none => if a.skipped = 0 then none else some .duplicate

/-- Faults of the counts and IDs that an append or a cut names (R83, R84). -/
def idsFailure (least : Nat) (ids : List ToteId) : Option Reason :=
  firstFailure [(ids.length < least || 11 < ids.length, .badCount), (ids.contains 0, .badTote)]

/-- STREAM-APPEND (R83). The order of its refusals is the model's choice (log 38). -/
def State.append (s : State) (stream : Byte) (ids : List ToteId) : State × Option Reason × List Byte :=
  match sequencedOf stream with
  | none => (s, some .noRoute, [])
  | some i => match idsFailure 1 ids with
    | some r => (s, some r, [])
    | none =>
      let a := ids.foldl (Appending.next (s.listedElsewhere i) s.poolUsed) ⟨(s.stream i).list, 0, 0, none⟩
      let s := if a.appended = 0 then s else (s.setStream i { s.stream i with list := a.list }).wantReeval
      (s, a.result, [stream, byte a.appended, byte a.skipped, byte a.list.length])

/-- How far a cut has come: the list so far, removed, kept, not found (R84). -/
structure Cutting where
  list : List RelEntry
  removed : Nat
  kept : Nat
  notFound : Nat
deriving DecidableEq, Repr

/-- One named ID of a cut (R84, log 34). -/
def Cutting.next (c : Cutting) (id : ToteId) : Cutting :=
  match relEntry c.list id with
  | none => { c with notFound := c.notFound + 1 }
  | some e =>
    if e.pledged then { c with kept := c.kept + 1 }
    else { c with list := c.list.filter (fun e => e.id ≠ id), removed := c.removed + 1 }

/-- A cut with ALL (R84). -/
def cutAll (l : List RelEntry) : Cutting where
  list := l.filter (fun e => e.pledged)
  removed := (l.filter (fun e => !e.pledged)).length
  kept := (l.filter (fun e => e.pledged)).length
  notFound := 0

/-- STREAM-CUT; no ID names ALL (R84). The order of its refusals is the model's choice (log 38), as is that its STREAM-LOW
is handed on before the hold queue is re-evaluated (log 45). -/
def State.cut (s : State) (stream : Byte) (ids : List ToteId) : State × Option Reason × List Byte :=
  match sequencedOf stream with
  | none => (s, some .noRoute, [])
  | some i => match idsFailure 0 ids with
    | some r => (s, some r, [])
    | none =>
      let l := (s.stream i).list
      let c := if ids.isEmpty then cutAll l else ids.foldl Cutting.next ⟨l, 0, 0, 0⟩
      let s := if c.removed = 0 then s else (s.shrinkList i c.list).wantReeval
      (s, none, [stream, byte c.removed, byte c.kept, byte c.notFound, byte c.list.length])

/-- UNBAR (R115). The order of its refusals is the model's choice (log 38). -/
def State.unbar (s : State) (stream : Byte) (id : ToteId) : State × Option Reason :=
  match sequencedOf stream with
  | none => (s, some .noRoute)
  | some i =>
    if id = 0 then (s, some .badTote)
    else match relEntry (s.stream i).list id with
      | none => (s, some .void)
      | some e =>
        if e.barred then ((s.changeRel i id (fun e => { e with barred := false })).wantReeval, none)
        else (s, some .void)

/-! ### SLOT-SET (R15, R16) -/

/-- The target state a byte names: OPEN as `true`, FENCED as `false` (Table 10-2). -/
def targetOf (b : Byte) : Option Bool := if b = 1 then some true else if b = 3 then some false else none

/-- The content a SLOT-SET declares (R16). -/
def declared (now : Stamp) (r : ToteRec) : Option Content := if r.id = 0 then none else some ⟨r, now⟩

/-- The slot record after a SLOT-SET (R16). -/
def declaredSlot (isOpen : Bool) (c : Option Content) : Slot := if isOpen then .opened c none else .fenced c

/-- Checks 2 to 5 of a SLOT-SET (R15). -/
def State.slotSetFailure (s : State) (n : Level) (c : SlotCode) (r : ToteRec) : Option Reason :=
  firstFailure [
    (!(s.slot n c).mapped, .unmapped),
    ((s.slot n c).claim.isSome, .busy),
    (r.id ≠ 0 && !(validTote r && fitsSlot r n c), .badTote),
    (r.id ≠ 0 && s.inCensus r.id (some (n, c)), .duplicate)]

/-- The hold queue is told of a declaration: the slot enters OPEN from DOUBT or FENCED, or is emptied, filled or given
other content (R20). -/
def declaresChange (old : Slot) (isOpen : Bool) (c : Option Content) : Bool :=
  (isOpen && !old.isOpen) || old.content.isSome || c.isSome

/-- A SLOT-SET that passed its checks (R16). -/
def State.declare (s : State) (n : Level) (c : SlotCode) (isOpen : Bool) (r : ToteRec) : State :=
  let content := declared s.time r
  let told := declaresChange (s.slot n c) isOpen content
  let s := s.setSlot n c (declaredSlot isOpen content)
  if told then s.wantReeval else s.touch

/-- SLOT-SET (R15, R16). One refused BAD-SLOT for an address out of range answers the two bytes as they came: the model's
choice between R15 and R2 (log 36). -/
def State.slotSet (s : State) (level code target : Byte) (r : ToteRec) : State × Option Reason × List Byte :=
  match levelOf level, slotCodeOf code, targetOf target with
  | some n, some c, some isOpen => match s.slotSetFailure n c r with
    | some e => (s, some e, [level, code])
    | none => (s.declare n c isOpen r, none, [level, code])
  | _, _, _ => (s, some .badSlot, [level, code])

end Sys2Proof.Machine
end

