-- ==== Sys2Proof/Machine/Reads.lean ====
section
/-! DEFINITION. The reads of the store controller (R21, R77, R103, R154, R182, R185, R187 to R189), with the bytes Table
10-2 gives their ANSWER data. A read changes nothing, except the read-and-clear of the statistics. -/

namespace Sys2Proof.Machine

/-- A result with its ANSWER data. -/
abbrev Answer := Option Reason × List Byte

/-- An optional field: present mark, then the field, or zeros at its full width (Table 10-2). -/
def optionBytes {α : Type} (width : Nat) (f : α → List Byte) : Option α → List Byte
  | none => 0 :: List.replicate width 0
  | some a => 1 :: f a

/-! ### Tables -/

/-- An alternate lift as a byte, 0 for none (Table 10-3). -/
def alternateByte : Option Lift → Byte
  | none => 0
  | some x => x.station

/-- A row as Table 10-3 gives it, after its stream. -/
def Row.bytes (r : Row) : List Byte :=
  [markByte r.routed, r.primary.station, alternateByte r.alternate, r.window,
    markByte (r.stray = .accept), markByte r.confirm, markByte (r.dflt = .grant), r.lowMark]

/-- A timing table as Table 10-3 gives it. -/
def timingBytes (t : Timing) : List Byte :=
  [t.tick] ++ be16 t.shuttleBase ++ be16 t.shuttlePer ++ be16 t.liftBase ++ be16 t.liftPer ++ be16 t.holdShuttle
    ++ be16 t.holdLift ++ be16 t.confirmLimit ++ be16 t.visitBase ++ be16 t.visitPer
    ++ [t.missThreshold, t.probeInterval]

/-- A disposition with bit 7 set when it is fixed (Table 10-2). -/
def State.dispositionByte (s : State) (c : FaultClass) : Byte :=
  (s.disposition c).byte ||| (if c.fixed then 128 else 0)

/-- A table read (R185); `stream` counts for table 2. -/
def State.readTable (s : State) (table stream : Byte) : Answer :=
  match table.toNat with
  | 1 => (none, 1 :: allLevels.map s.mapByte)
  | 2 => match streamOf stream with
    | none => (some .noRoute, [])
    | some i => (none, [2, stream] ++ (s.stream i).row.bytes)
  | 3 => (none, 3 :: timingBytes s.timing)
  | 4 => (none, 4 :: FaultClass.all.map s.dispositionByte)
  | 5 => (none, [5, byte s.faults.priority.length] ++ s.faults.priority.map FaultClass.byte)
  | 6 => (none, [6, s.store.unique, s.store.group, s.store.maskValue, s.store.mask])
  | 7 => (none, [7, s.notices.enabled.byte])
  | 8 => (none, [8, s.modeCtl.resumeDefault.byte])
  | _ => (some .badCount, [])

/-! ### Slots (R21) -/

/-- Slot states (Table 10-2). -/
def Slot.stateByte : Slot → Byte
  | .off => 0
  | .opened _ _ => 1
  | .doubt _ _ _ _ => 2
  | .fenced _ => 3

/-- Doubt causes (Table 10-2). -/
def DoubtCause.byte : DoubtCause → Byte
  | .actTimeout => 1
  | .revoked => 2
  | .haltConfig => 3
  | .mapped => 4

/-- The doubt cause of a slot as a byte, 0 for none. -/
def Slot.causeByte : Slot → Byte
  | .doubt _ c _ _ => c.byte
  | .off => 0
  | .opened _ _ => 0
  | .fenced _ => 0

/-- The expired claim of a slot. -/
def Slot.expired : Slot → Option ExpiredClaim
  | .doubt _ _ k _ => k
  | .off => none
  | .opened _ _ => none
  | .fenced _ => none

/-- The reported tote of a slot. -/
def Slot.reported : Slot → Option ToteId
  | .doubt _ _ _ r => r
  | .off => none
  | .opened _ _ => none
  | .fenced _ => none

/-- Every field of a slot record after its address (R21). -/
def Slot.bytes (v : Slot) : List Byte :=
  [markByte v.mapped, v.stateByte]
    ++ optionBytes 10 (fun c => toteBytes c.tote ++ be32 c.stamp) v.content
    ++ optionBytes 6 (fun k => [k.kind.ask, handleByte k.handle] ++ be32 k.toteId) v.claim
    ++ [v.causeByte]
    ++ optionBytes 7 (fun k => [k.party.station, handleByte k.handle, k.kind.ask] ++ be32 k.toteId) v.expired
    ++ optionBytes 4 be32 v.reported

/-- The slot read (R21). -/
def State.readSlot (s : State) (level code : Byte) : Answer :=
  match levelOf level, slotCodeOf code with
  | some n, some c => (none, [level, code] ++ (s.slot n c).bytes)
  | _, _ => (some .badSlot, [])

/-- The claim kind of a slot in its summary (Table 10-2). -/
def Slot.claimBits (v : Slot) : Nat :=
  match v.claim with
  | none => 0
  | some k => match k.kind with
    | .place => 8
    | .fetch => 16

/-- The summary byte of a slot (R21, Table 10-2). -/
def Slot.summary (v : Slot) : Byte :=
  byte (v.stateByte.toNat + (if v.content.isSome then 4 else 0) + v.claimBits)

/-- The levels of a range. -/
def levelsIn (a b : Level) : List Level := allLevels.filter (fun n => a.val ≤ n.val && n.val ≤ b.val)

/-- A range of levels, refused with BAD-SLOT or BAD-COUNT (R21, R154); where both apply BAD-SLOT, the model's choice
(log 38). -/
def rangeOf (most : Nat) (first last : Byte) : Reason ⊕ List Level :=
  match levelOf first, levelOf last with
  | some a, some b => if b.val < a.val ∨ a.val + most ≤ b.val then .inl .badCount else .inr (levelsIn a b)
  | _, _ => .inl .badSlot

/-- The level range read (R21). -/
def State.readRange (s : State) (first last : Byte) : Answer :=
  match rangeOf 7 first last with
  | .inl r => (some r, [])
  | .inr ns => (none, [first, last] ++ ns.flatMap (fun n => SlotCode.all.map (fun c => (s.slot n c).summary)))

/-! ### Streams (R103) -/

/-- The marks byte of a stream (Table 10-2). -/
def State.streamMarks (s : State) (i : StreamNo) : Byte :=
  let st := s.stream i
  byte ((if st.row.routed then 1 else 0) + (if st.active = .b then 2 else 0) + (if st.switchPending then 4 else 0)
    + (if s.custody i .a then 8 else 0) + (if s.custody i .b then 16 else 0) + (if st.lowMarker then 32 else 0))

/-- A release entry as the stream read gives it. -/
def RelEntry.bytes (e : RelEntry) : List Byte :=
  be32 e.id ++ [byte ((if e.barred then 1 else 0) + (if e.pledged then 2 else 0))]

/-- The stream read (R103). -/
def State.readStream (s : State) (stream pos : Byte) : Answer :=
  match streamOf stream with
  | none => (some .noRoute, [])
  | some i =>
    let st := s.stream i
    let front := [stream, s.streamMarks i] ++ be32 st.delivered
    (none, if i = 0 then front
      else front ++ [byte st.list.length] ++ be16 (BitVec.ofNat 16 s.poolFree) ++ be32 st.released
        ++ ((st.list.drop pos.toNat).take 6).flatMap RelEntry.bytes)

/-! ### Lifts (R77) -/

/-- Presence codes of a lift (Table 10-2). -/
def LiftPresence.byte : LiftPresence → Byte
  | .returning => 1
  | .online => 2
  | .service => 4

/-- Two tote records in carriage order, zeros for a free place (Table 10-2). -/
def carriageBytes (c : List ToteRec) : List Byte :=
  ((c.flatMap toteBytes) ++ List.replicate 12 0).take 12

/-- The carriage and visit read (R77). -/
def State.readCarriage (s : State) (x : Lift) : Answer :=
  let l := s.lift x
  (none, [x.station, l.presence.byte, l.firmware.getD 0, byte l.carriage.length] ++ carriageBytes l.carriage
    ++ optionBytes 7 (fun v => [levelByte v.level, byte v.p, byte v.f] ++ be32 v.timer) l.visit)

/-- The call queue read (R77). -/
def State.readCalls (s : State) (x : Lift) (pos : Byte) : Answer :=
  let q := (s.lift x).calls
  (none, [x.station, byte q.length]
    ++ ((q.drop pos.toNat).take 7).flatMap (fun c => [levelByte c.level, c.key] ++ be32 c.stamp))

/-! ### Transfer table (R187) -/

/-- The set of handles in use (Table 10-2). -/
def State.handleSet (s : State) : List Byte := markSet 4 (allHandles.map (fun h => (s.entry h).isSome))

/-- Phase codes (Table 10-2). -/
def Phase.byte : Phase → Byte
  | .waiting _ => 1
  | .confirming => 2
  | .granted _ => 3

/-- The grant stamp of a phase. -/
def Phase.grantStamp : Phase → Option Stamp
  | .granted t => some t
  | .waiting _ => none
  | .confirming => none

/-- The hold reason of a phase as a byte, 0 when absent. -/
def Phase.reasonByte : Phase → Byte
  | .waiting r => r.code
  | .granted _ => 0
  | .confirming => 0

/-- Confirm states (Table 10-2). -/
def Conf.byte : Conf → Byte
  | .none => 0
  | .asked => 1
  | .confirmed => 2
  | .denied => 3

/-- A tote-list item as the transfer table read gives it. -/
def Item.bytes (i : Item) : List Byte :=
  be32 i.tote.id ++ optionBytes 2 (fun a => [levelByte a.1, a.2.byte]) i.slot ++ [i.conf.byte]

/-- A whole entry as the transfer table read gives it. -/
def Entry.bytes (h : Handle) (frozen : Bool) (e : Entry) : List Byte :=
  [handleByte h, e.party.station, e.kind.ask, e.phase.byte, markByte e.wait, e.tag] ++ be32 e.askStamp
    ++ optionBytes 4 be32 e.phase.grantStamp ++ [e.phase.reasonByte] ++ be32 e.timer
    ++ [markByte frozen, byte e.items.length] ++ e.items.flatMap Item.bytes

/-- The transfer table read (R187). -/
def State.readTransfers (s : State) (first : Byte) : Answer :=
  if 31 < first.toNat then (some .badCount, [])
  else match s.entries.find? (fun x => first.toNat ≤ x.1.val) with
    | none => (none, s.handleSet)
    | some (h, e) => (none, s.handleSet ++ e.bytes h (s.mode = .halt))

/-! ### Faults (R182) -/

/-- A party as a byte, 0 when absent. -/
def partyByte : Option Party → Byte
  | none => 0
  | some p => p.station

/-- A fault record as the fault read gives it. -/
def faultBytes : Option FaultRec → List Byte
  | none => List.replicate 12 0
  | some f => [1, f.count, partyByte f.firstParty] ++ be32 f.firstStamp ++ [partyByte f.lastParty] ++ be32 f.lastStamp

/-- The set of the 42 latches (Table 10-2). -/
def State.latchSet (s : State) : List Byte := markSet 6 ((List.finRange 42).map (fun i => s.faults.latches[i]))

/-- The fault read (R182). -/
def State.readFaults (s : State) (first : Byte) : Answer :=
  match classOf first with
  | none => (some .badCount, [])
  | some c => (none, [leadByte s.leadFault] ++ s.latchSet
      ++ ((FaultClass.all.drop c.idx.val).take 3).flatMap (fun k => faultBytes (s.faultRec k)))

/-! ### Presence (R154), statistics and time (R188), summary (R189) -/

/-- The three bytes of a level (Table 10-2). -/
def State.presenceBytes (s : State) (n : Level) : List Byte :=
  let r := s.shuttle n
  [byte (r.presence.byte.toNat + 16 * r.miss),
    byte ((s.bus.queue.filter (fun i => i.level = n)).length + 8 * r.box.length + (if r.mark then 32 else 0)),
    r.firmware]

/-- The presence read (R154). -/
def State.readPresence (s : State) (first last : Byte) : Answer :=
  match rangeOf 10 first last with
  | .inl r => (some r, [])
  | .inr ns => (none, [s.bus.probeCount, markByte s.bus.probeCycle] ++ ns.flatMap s.presenceBytes)

/-- The parties of a statistics read: up to 7 stations from the first, not beyond 42 (R188). -/
def statParties (first : Byte) : List PartyNo :=
  (List.finRange 42).filter (fun i => first.toNat ≤ i.val + 1 && i.val + 1 < first.toNat + 7)

/-- The three values of a party (Table 10-2). -/
def Stat.bytes (t : Stat) : List Byte := be16 t.completed ++ be16 t.last ++ be16 t.largest

/-- The statistics read (R188). -/
def State.readStats (s : State) (first : Byte) : Answer :=
  match partyOf first with
  | none => (some .badCount, [])
  | some _ => (none, first :: (statParties first).flatMap (fun i => (s.stats[i]).bytes))

/-- The largest act durations of the stations given set to 0 (R53, R188). -/
def State.clearLargest (s : State) (first : Byte) : State :=
  { s with stats := vmap s.stats (fun i t => if (statParties first).contains i then { t with largest := 0 } else t) }

/-- The statistics read-and-clear (R188). -/
def State.readClearStats (s : State) (first : Byte) : State × Answer :=
  match partyOf first with
  | none => (s, some .badCount, [])
  | some _ => (s.clearLargest first, s.readStats first)

/-- The aisle time read (R188). -/
def State.readTime (s : State) : Answer := (none, be32 s.time ++ [s.timing.tick])

/-- The output bits of the status summary (Table 10-2). -/
def State.outputByte (s : State) : Byte :=
  byte ((if s.modeCtl.motion then 1 else 0) + (if s.notices.attention then 2 else 0) + (if s.modeCtl.stop then 4 else 0))

/-- The status summary (R189). -/
def State.readSummary (s : State) : Answer :=
  (none, [s.mode.byte, s.outputByte, leadByte s.leadFault, s.notices.pending.byte, s.notices.enabled.byte]
    ++ be16 s.lowSet
    ++ [s.modeCtl.resumeDefault.byte, Config.firmwareMajor, Config.firmwareMinor, s.store.unique,
      byte s.entries.length, byte s.openVisits, byte s.store.upstream.length, byte s.requests.length]
    ++ be32 s.time)

end Sys2Proof.Machine
end

