-- ==== Sys2Proof/Machine/Requests.lean ====
section
/-! DEFINITION. The management unit: the execution of a request and its ANSWER (R133, R184), the management input queue
and the freed places of the upstream queue (R130, R132, R133). -/

namespace Sys2Proof.Machine

/-- A write's state and result, with data when it is taken (R185). -/
def answered (p : State × Option Reason) (data : List Byte) : State × Answer :=
  (p.1, p.2, if p.2.isNone then data else [])

/-- The effect, result and data of a request (R184, Table 10-2). The data of a MODE-SET is found when it has ended. A
BAD-COUNT of the form has empty data whatever the function, the model's choice (log 52). -/
def State.execReq (s : State) : Req → State × Answer
  | .unknown _ => (s, some .void, [])
  | .badForm _ => (s, some .badCount, [])
  | .slotMap m => answered (s.writeMap m) [1]
  | .routeRow i w => ((s.writeRow i w).1, (s.writeRow i w).2, [2, i])
  | .timing t => answered (s.writeTiming t) [3]
  | .disposition c d => answered (s.writeDisposition c d) [4, c, d]
  | .priority l => answered (s.writePriority l) [5]
  | .address g v m => answered (s.writeAddress g v m) [6]
  | .enables e => answered (s.writeEnables e) [7]
  | .resumeDefault b => answered (s.writeResumeDefault b) [8]
  | .tableRead t i => (s, s.readTable t i)
  | .modeSet t r => ((s.modeSet t r).1, (s.modeSet t r).2, [])
  | .append i l => s.append i l
  | .cut i l => s.cut i l
  | .unbar i t => answered (s.unbar i t) []
  | .confirm h t => s.decideRequest false h t
  | .deny h t => s.decideRequest true h t
  | .slotSet l c t r => s.slotSet l c t r
  | .levelService l o => s.levelService l o
  | .liftService x true => answered (s.liftServiceOn x) []
  | .liftService x false => (s.liftServiceOff x, none, [])
  | .clearFault c => s.clearFault c
  | .clearLead => s.clearLead
  | .clearParty p => s.clearParty p
  | .clearNotice f => s.clearNotice f
  | .slotRead l c => (s, s.readSlot l c)
  | .levelRange a b => (s, s.readRange a b)
  | .streamRead i p => (s, s.readStream i p)
  | .carriageRead x => (s, s.readCarriage x)
  | .callRead x p => (s, s.readCalls x p)
  | .transferRead h => (s, s.readTransfers h)
  | .faultRead c => (s, s.readFaults c)
  | .presenceRead a b => (s, s.readPresence a b)
  | .statsRead p => (s, s.readStats p)
  | .statsClear p => s.readClearStats p
  | .timeRead => (s, s.readTime)
  | .summary => (s, s.readSummary)

/-- The ANSWER data; a MODE-SET gives the mode after the request (8.2). -/
def State.answerData (s : State) (q : Req) (d : List Byte) : List Byte :=
  match q with
  | .modeSet _ _ => [s.mode.byte]
  | _ => d

/-- The ANSWER to a request (R135, R184). -/
def State.answerTel (s : State) (q : ReqItem) (a : Answer) : Tel :=
  s.toStore kAnswer q.tag (.answer q.req.code a.1 (s.answerData q.req a.2))

/-- The request at the head is executed, its ANSWER admitted and its place freed, as one step (R133, R184, log 18). -/
def State.execHead (s : State) (q : ReqItem) : State :=
  let p := State.execReq { s with work := { s.work with reserved := q.answer } } q.req
  let t := p.1.finish
  let t := { t with requests := t.requests.drop 1, work := { t.work with reserved := false } }
  if q.answer then t.pushUpstream (t.answerTel q p.2) else t

/-- Requests are executed from the head while the head may be (R133). -/
def State.serveRequests : Nat → State → State
  | 0, s => s
  | k + 1, s => match s.requests with
    | [] => s
    | q :: _ => if !q.answer || s.placeFree then State.serveRequests k (s.execHead q) else s

/-- A REQUEST enters the management input queue, or is discarded when all places are in use (R133). -/
def State.enqueue (s : State) (q : ReqItem) : State :=
  if s.requests.length < Config.requestPlaces then
    State.serveRequests Config.requestPlaces { s with requests := s.requests ++ [q] }
  else (s.handFlag .overrun).raise .queueOverrun none

/-- A freed place goes to the NOTICE, the oldest unsent CONFIRM-ASK, the head REQUEST, or the oldest NOT-FORWARDED that
waits (R130). -/
def State.givePlace (s : State) : State :=
  match s.store.noticeWait with
  | some t => State.pushUpstream { s with store := { s.store with noticeWait := none } } t
  | none => match s.unsentAsks with
    | t :: ts => State.pushUpstream { s with unsentAsks := ts } t
    | [] =>
      let s := s.serveRequests Config.requestPlaces
      match s.store.nfWait with
      | [] => s
      | t :: ts =>
        if s.placeFree then State.pushUpstream { s with store := { s.store with nfWait := ts } } t else s

/-- The END of a burst, made now (R132). -/
def State.endTel (s : State) (tag : Byte) : Tel := s.toStore kEnd tag (.endCount (byte s.store.upstream.length))

/-- The burst goes on with the telegrams left to send, or with the END (R132). A telegram admitted during the burst may be
sent in it, the model's choice (log 40). The transmitter counts as sending from here on, through the wait before the
first telegram and the gaps, the model's choice (log 47). -/
def State.burst (s : State) (left : Nat) (tag : Byte) : State :=
  if left = 0 ∨ s.store.upstream.isEmpty = true then
    { s with store := { s.store with tx := .ending (s.endTel tag) } }
  else { s with store := { s.store with tx := .burst left tag } }

/-- The own-tag count of the store line after a telegram has been sent: a NOTICE raises it (R135). -/
def countTag (t : Tel) (c : Byte) : Byte := if t.isNotice then c + 1 else c

/-- The last character of the head telegram of a burst has been sent (R129, R130, R132). -/
def State.upstreamSent (s : State) : State :=
  match s.store.tx, s.store.upstream with
  | .burst left tag, t :: ts =>
    let s := { s with store := { s.store with upstream := ts, ownTag := countTag t s.store.ownTag } }
    s.givePlace.burst (left - 1) tag
  | _, _ => s

end Sys2Proof.Machine
end

