-- ==== Sys2Proof/Machine/Links.lean ====
section
/-! DEFINITION. The link interface: reception on the four ports (R118, R120, log 3), address match and judging (R121 to
R125), forwarding (R126, R129), the lift link transmitter (R128), and handing telegrams on to their blocks. -/

namespace Sys2Proof.Machine

/-! ### Toward the blocks -/

/-- A telegram to the controller whose kind and body have been read (Table 6-1). -/
inductive PartyTel where
  | idle
  | state (b : StateBody)
  | placeAsk (wait count : Byte) (b : PlaceBody)
  | fetchAsk (wait count : Byte)
  | report (k : Kind) (handle : Byte) (ids : List ToteId)
  | quit (handle : Byte)
  | visitOpen (level p f : Byte)
  | visitClose
  | nextCall
  | load (totes : List ToteRec)
  | unload (ids : List ToteId)
deriving DecidableEq, Repr

/-- The kinds a party may send to the controller (Table 6-1). -/
def takenFrom (p : Party) (k : Byte) : Bool :=
  [kIdle, kState, kPlaceAsk, kFetchAsk, kPlaced, kFetched, kQuit].contains k ||
    match p with
    | .shuttle _ => false
    | .lift _ => [kVisitOpen, kVisitClose, kNextCall, kLoad, kUnload].contains k

/-- An empty body. -/
def emptyBody (t : PartyTel) (b : List Byte) : Option PartyTel := if b.isEmpty then some t else none

/-- The body of a kind a party may send, none when its length does not fit (R120, step 8; Table 6-5). -/
def partyTelOf (p : Party) (k : Byte) (b : List Byte) : Option PartyTel :=
  if k = kIdle then emptyBody .idle b
  else if k = kState then (stateBodyOf b).map .state
  else if k = kPlaceAsk then (placeBodyOf p b).map (fun x => .placeAsk x.1 x.2.1 x.2.2)
  else if k = kFetchAsk then (match b with
    | [w, n] => some (.fetchAsk w n)
    | _ => none)
  else if k = kPlaced then (reportBodyOf b).map (fun x => .report .place x.1 x.2)
  else if k = kFetched then (reportBodyOf b).map (fun x => .report .fetch x.1 x.2)
  else if k = kQuit then (match b with
    | [h] => some (.quit h)
    | _ => none)
  else if k = kVisitOpen then (match b with
    | [l, q, f] => some (.visitOpen l q f)
    | _ => none)
  else if k = kVisitClose then emptyBody .visitClose b
  else if k = kNextCall then emptyBody .nextCall b
  else if k = kLoad then (loadBodyOf b).map .load
  else if k = kUnload then (unloadBodyOf b).map .unload
  else none

/-- A lift's telegram to the lift coordinator (R121). -/
def State.toCoordinator (s : State) (x : Lift) (tag : Byte) : PartyTel → State
  | .state b => s.takeLiftState x b
  | .visitOpen l p f => s.openVisit x tag l p f
  | .visitClose => s.closeVisit x tag
  | .nextCall => s.answerCall x tag
  | .load t => s.takeLoad x tag t
  | .unload i => s.takeUnload x tag i
  | .idle => s
  | .placeAsk _ _ _ => s
  | .fetchAsk _ _ => s
  | .report _ _ _ => s
  | .quit _ => s

/-- A telegram taken to the controller is handed to its block (R121, R142). -/
def State.handOn (s : State) (p : Party) (tag : Byte) (t : PartyTel) : State :=
  match t with
  | .idle => s
  | .placeAsk w n b => s.takePlaceAsk p tag w n b
  | .fetchAsk w n => s.takeFetchAsk p tag w n
  | .report k h ids => s.takeReport p k tag h ids
  | .quit h => s.takeQuit p tag h
  | .state b => match p with
    | .shuttle n => s.takeShuttleState n b
    | .lift x => s.takeLiftState x b
  | .visitOpen _ _ _ | .visitClose | .nextCall | .load _ | .unload _ => match p with
    | .shuttle _ => s
    | .lift x => s.toCoordinator x tag t

/-- A machine report goes upward, or is answered NOT-FORWARDED FULL (R129). -/
def State.forwardReport (s : State) (p : Party) (t : Tel) : State :=
  if s.upstreamUsed < Config.reportPlaces then s.pushUpstream t
  else s.sendParty p
    (s.toParty p kNotForwarded t.tag (.notForwarded .full t.dstAisle t.dstStation t.kind t.tag)) none

/-- The destination of a machine telegram is allowed (R125). -/
def State.machineDst (s : State) (f : Frame) : Bool :=
  f.dstStation = 0 && (f.dstAisle = s.store.unique || f.dstAisle = 0)

/-- The source of a machine telegram is allowed; the scheduler has compared a shuttle's station (R125). -/
def State.machineSrc (s : State) (p : Party) (f : Frame) : Bool :=
  f.srcAisle = s.store.unique && match p with
    | .shuttle _ => true
    | .lift x => f.srcStation = x.station

/-- Steps 5 to 8 of R120 for a sound telegram of a party, and what is done with one that passes. -/
def State.judgeMachine (s : State) (p : Party) (f : Frame) : State :=
  if !knownKind f.kind then s.raise .linkForm (some p)
  else if !(s.machineSrc p f && s.machineDst f) then s.raise .route (some p)
  else if f.dstAisle = 0 ∧ isReport f.kind = true then s.forwardReport p f.tel
  else if f.dstAisle = s.store.unique ∧ takenFrom p f.kind = true then
    match partyTelOf p f.kind f.body with
    | some t => s.handOn p f.tag t
    | none => s.raise .linkForm (some p)
  else s.raise .linkForm (some p)

/-! ### The store line -/

/-- The kinds of match of stage 1 (R122). -/
inductive AisleMatch where
  | nothing | unique | group | masked
deriving DecidableEq, Repr

/-- Stage 1: the destination aisle byte against the three entries, in order (R122). -/
def StoreLine.aisleMatch (l : StoreLine) (a : Byte) : AisleMatch :=
  if a = 0 then .nothing
  else if a = l.unique then .unique
  else if l.group ≠ 0 ∧ a = l.group then .group
  else if l.mask ≠ 0 ∧ a &&& l.mask = l.maskValue &&& l.mask then .masked
  else .nothing

/-- The telegrams in the level downstream queue for a level. -/
def State.levelWaiting (s : State) (n : Level) : Nat := (s.bus.queue.filter (fun i => i.level = n)).length

/-- Why a store order is not admitted, if it is not (R126). -/
def State.orderRefusal (s : State) (p : Party) : Option Reason :=
  match p with
  | .shuttle n => match (s.shuttle n).presence with
    | .unmapped => some .unmapped
    | .absent => some .absent
    | .service => some .service
    | .returning => some .notReady
    | .online =>
      if s.bus.queue.length < Config.levelQueuePlaces ∧ s.levelWaiting n < Config.levelQueueShare then none else some .full
  | .lift x => match (s.lift x).presence with
    | .returning => some .notReady
    | .service => some .service
    | .online =>
      if ((s.link x).down.filter (fun i => !i.own)).length < Config.liftForwardPlaces
        ∧ (s.link x).down.length < Config.liftQueuePlaces then none else some .full

/-- A store order joins the downstream queue of its machine (R126). -/
def State.admitOrder (s : State) (p : Party) (t : Tel) : State :=
  match p with
  | .shuttle n => { s with bus := { s.bus with queue := s.bus.queue ++ [{ level := n, tel := t, begun := false }] } }
  | .lift x =>
    let k := s.link x
    s.setLink x { k with down := k.down ++ [{ tel := t, own := false, begun := false }] }

/-- A store order for a party: admitted, or answered NOT-FORWARDED (R126). -/
def State.takeOrder (s : State) (p : Party) (t : Tel) : State :=
  match s.orderRefusal p with
  | none => s.admitOrder p t
  | some r => s.sendNotForwarded r t

/-- A STORE-POLL taken by unique match: up to 8 telegrams, then END (R132). -/
def State.takePoll (s : State) (tag burst : Byte) : State := s.burst (min burst.toNat 8) tag

/-- A REQUEST by its match (R124, R133). -/
def State.takeRequest (s : State) (m : AisleMatch) (tag : Byte) (q : Req) : State :=
  match m with
  | .nothing => s
  | .unique => s.enqueue { answer := true, tag := tag, req := q }
  | .group => s.enqueue { answer := false, tag := tag, req := q }
  | .masked => s.enqueue { answer := false, tag := tag, req := q }

/-- A REQUEST body of 1 to 48 bytes is taken; another length is a LINK FORM (R120, step 8). -/
def State.takeRequestBody (s : State) (m : AisleMatch) (tag : Byte) (body : List Byte) : State :=
  match body with
  | [] => s.raise .linkForm none
  | c :: a => if body.length ≤ 48 then s.takeRequest m tag (requestOf c a) else s.raise .linkForm none

/-- Stage 2 for station 0 by unique match (R123). -/
def State.judgeController (s : State) (f : Frame) : State :=
  if f.kind = kStorePoll then
    match f.body with
    | [b] => s.takePoll f.tag b
    | _ => s.raise .linkForm none
  else if f.kind = kRequest then s.takeRequestBody .unique f.tag f.body
  else s.raise .linkForm none

/-- Steps 5 to 8 of R120 for a unique match (R123). ROUTE is raised last (R171), behind the QUEUE OVERRUN of a
NOT-FORWARDED that is lost, the model's choice (log 49). -/
def State.judgeUnique (s : State) (f : Frame) : State :=
  if !knownKind f.kind then s.raise .linkForm none
  else if f.dstStation = 0 then s.judgeController f
  else match partyOf f.dstStation with
    | none => (s.sendNotForwarded .unmapped f.tel).raise .route none
    | some p => if isReport f.kind && f.body.length ≤ 48 then s.takeOrder p f.tel else s.raise .linkForm none

/-- A group or masked match takes a REQUEST to station 0 and nothing else (R124, log 20). -/
def State.judgeShared (s : State) (m : AisleMatch) (f : Frame) : State :=
  if f.dstStation = 0 ∧ f.kind = kRequest then s.takeRequestBody m f.tag f.body else s

/-- Steps 4 to 8 of R120 on the store line (R122 to R124). -/
def State.judgeStore (s : State) (f : Frame) : State :=
  match s.store.aisleMatch f.dstAisle with
  | .nothing => s
  | .unique => s.judgeUnique f
  | .group => s.judgeShared .group f
  | .masked => s.judgeShared .masked f

/-! ### Reception -/

/-- The receiver of a port: that of the store line is held in HUNT while the controller sends there (R118), which the
model counts from the STORE-POLL on, by its choice (log 47); that of the level bus is in HUNT but for the answer of a
turn (R140). -/
def State.rx (s : State) (port : Port) : Rx :=
  match port with
  | .storeLine => if s.store.tx = .idle then s.store.rx else .hunt
  | .link x => (s.link x).rx
  | .levelBus => match s.bus.turn with
    | .awaiting _ => s.bus.rx
    | .idle => .hunt
    | .sending _ _ => .hunt

/-- Write the receiver of a port. -/
def State.setRx (s : State) (port : Port) (r : Rx) : State :=
  match port with
  | .storeLine => { s with store := { s.store with rx := r } }
  | .link x => s.setLink x { s.link x with rx := r }
  | .levelBus => { s with bus := { s.bus with rx := r } }

/-- The store line receiver is back in HUNT. -/
def State.storeHunt (s : State) : State := { s with store := { s.store with rx := .hunt } }

/-- The receiver of a lift link is back in HUNT. -/
def State.linkHunt (s : State) (x : Lift) : State := s.setLink x { s.link x with rx := .hunt }

/-- A sound telegram of a party reaches the controller whole by its port, as the answer of a turn or on the lift's link,
when the receiver there is READY for its byte 0 (R118). On the level bus a telegram of a shuttle other than the one
whose turn it is is a miss of that one (R141, log 3). -/
def State.onPort (s : State) (p : Party) (f : Frame) : State :=
  match p with
  | .lift x => if s.rx (.link x) = .ready then (s.linkHunt x).judgeMachine p f else s
  | .shuttle n => match s.bus.turn with
    | .awaiting m =>
      if s.bus.rx = .ready then
        if n = m then (s.endTurn.goodAnswer n).judgeMachine p f else s.endTurn.miss m
      else s
    | .idle => s
    | .sending _ _ => s

/-- What comes of a turn's characters: no answer ended, a failure that counts as a miss with its fault, or a telegram
whose source station is compared first (R141). -/
def State.turnReception (s : State) (n : Level) (r : Reception) : State :=
  match r with
  | .nothing => s
  | .failed c => (s.endTurn.raise c (some (.shuttle n))).miss n
  | .sound f =>
    if f.srcStation = levelByte n then (s.endTurn.goodAnswer n).judgeMachine (.shuttle n) f else s.endTurn.miss n

/-- What comes of the characters on a lift link (R120). -/
def State.linkReception (s : State) (x : Lift) (r : Reception) : State :=
  match r with
  | .nothing => s
  | .failed c => (s.linkHunt x).raise c (some (.lift x))
  | .sound f => (s.linkHunt x).judgeMachine (.lift x) f

/-- What comes of the characters on the store line (R120). -/
def State.storeReception (s : State) (r : Reception) : State :=
  match r with
  | .nothing => s
  | .failed c => s.storeHunt.raise c none
  | .sound f => s.storeHunt.judgeStore f

/-- What comes of the characters on a port (R120). -/
def State.reception (s : State) (port : Port) (r : Reception) : State :=
  match port with
  | .storeLine => s.storeReception r
  | .link x => s.linkReception x r
  | .levelBus => match s.bus.turn with
    | .awaiting n => s.turnReception n r
    | .idle => s
    | .sending _ _ => s

/-- A telegram of a party whose body is over 48 bytes, so that its length byte cannot be 6 to 54: reception ends at it as
step 2 of R120 says, on the level bus as a miss of the level whose turn it is (R118, R141, log 3). -/
def State.overlong (s : State) (p : Party) : State :=
  if s.rx p.port = .ready then s.reception p.port (.failed .linkForm) else s

/-- A telegram of a party to the controller, its kind and body given by the command; `length` is that of its body, and
`fits` says that the body can be that of its kind (R120, step 8). -/
def State.telegram (s : State) (p : Party) (tag : Byte) (length : Nat) (fits : Bool) (t : PartyTel) : State :=
  let take (s : State) : State := if fits then s.handOn p tag t else s.raise .linkForm (some p)
  if bodyFits length then
    match p with
    | .lift x => if s.rx (.link x) = .ready then take (s.linkHunt x) else s
    | .shuttle n => match s.bus.turn with
      | .awaiting m =>
        if s.bus.rx = .ready then
          if n = m then take (s.endTurn.goodAnswer n) else s.endTurn.miss m
        else s
      | .idle => s
      | .sending _ _ => s
  else s.overlong p

/-- Characters arrive on a port: its receiver takes them, and a telegram that ends among them is judged (R118, R120). -/
def State.arrive (s : State) (port : Port) (cs : List Character) : State :=
  (s.setRx port ((s.rx port).take cs).1).reception port ((s.rx port).take cs).2

/-- The telegram that is being received on a port is ended as truncated, by a gap or at the completion limit of a turn;
with none being received nothing happens (R118, R140, log 2). -/
def State.truncate (s : State) (port : Port) : State :=
  match s.rx port with
  | .hunt => s
  | .ready => s
  | .receiving _ => s.reception port (.failed .linkCheck)

/-- A receiver after 3 character times of silence. A telegram that is being received has been ended by a gap before
that (R118, log 3). -/
def Rx.silent (r : Rx) : Rx :=
  match r with
  | .hunt => .ready
  | .ready => .ready
  | .receiving held => .receiving held

/-- The line has been idle for 3 character times: the receiver goes to READY. On the store line an END that was being
sent has ended by then (R118, R132, log 15); before the END nothing changes, in the wait before the first telegram of the
answer neither, by the model's choice (log 47). -/
def State.ready (s : State) (port : Port) : State :=
  match port with
  | .storeLine => match s.store.tx with
    | .burst _ _ => s
    | .ending _ => { s with store := { s.store with tx := .idle, rx := .ready } }
    | .idle => { s with store := { s.store with rx := s.store.rx.silent } }
  | .link x => s.setLink x { s.link x with rx := (s.link x).rx.silent }
  | .levelBus => s

/-- A telegram of the store line given by its fields, when the receiver is READY for its byte 0 (R118). -/
def State.onStoreLine (s : State) (f : Frame) : State :=
  if s.rx .storeLine = .ready then
    if f.body.length ≤ 48 then s.storeHunt.judgeStore f else s.storeHunt.raise .linkForm none
  else s

/-- A REQUEST of the store line given by its function and arguments (log 5). `fits` says its body is at most 48 bytes. -/
def State.onRequest (s : State) (h : StoreHdr) (fits : Bool) (q : Req) : State :=
  if s.rx .storeLine = .ready then
    if fits then s.storeHunt.takeRequest (s.store.aisleMatch h.aisle) h.tag q else s.storeHunt.raise .linkForm none
  else s

/-! ### The lift link transmitter (R128, R164, log 17) -/

/-- The first place that a test picks is marked begun. -/
def beginItem (f : DownItem → Bool) : List DownItem → List DownItem
  | [] => []
  | i :: is => if f i then { i with begun := true } :: is else i :: beginItem f is

/-- The downstream queue when the transmitter begins its next telegram: the oldest own one, else the oldest forwarded
one (R128). -/
def beginDown (l : List DownItem) : List DownItem :=
  if l.any (fun i => i.begun) then l
  else if l.any (fun i => i.own) then beginItem (fun i => i.own) l
  else beginItem (fun _ => true) l

/-- The first character of the next telegram goes out on a lift link (R164). -/
def State.beginFrame (s : State) (x : Lift) : State :=
  s.setLink x { s.link x with down := beginDown (s.link x).down }

/-- The last character of a telegram has been sent on a lift link: its place is freed (R128); a STATE-ASK raises the
own-tag count (R135). -/
def State.liftSent (s : State) (x : Lift) : State :=
  let k := s.link x
  match k.down.find? (fun i => i.begun) with
  | none => s
  | some i => s.setLink x { k with
      down := k.down.filter (fun i => !i.begun)
      ownTag := if i.tel.kind = kStateAsk then k.ownTag + 1 else k.ownTag }

end Sys2Proof.Machine
end

