-- ==== Sys2Proof/Machine/Pins.lean ====
section
/-! DEFINITION. Meanings of FULL_RESET, TICK and the stop input; of what comes on a port without a telegram; of the
telegrams of the store line; and of the transmitters (store line, level bus, lift links). -/

namespace Sys2Proof.Machine

open Host (Outcome)

/-- A command that ends in a next state, its changes passed on and its faults raised. -/
def done (s : State) : Outcome State Fault Refusal := .next s.finish

/-! ### Reset, time, stop input -/

/-- FULL_RESET (R170): every block at its reset values, the switches and the stop input as they are read; a stop input
found asserted is an assertion at that moment (R163). Commands that wait are the world's, not the controller's (log 33). -/
def execFullReset (switches : Byte) (stop : Bool) (s : State) : Outcome State Fault Refusal :=
  let t := { State.resetWith switches stop with pending := s.pending }
  done (if stop then t.raise .stopInput none else t)

/-- TICK (R23, R24). -/
def execTick (s : State) : Outcome State Fault Refusal := .next s.tick

/-- STOP_INPUT_ASSERTED (R163): a change to asserted raises STOP INPUT. -/
def execStopInputAsserted (s : State) : Outcome State Fault Refusal :=
  if s.modeCtl.stop then .next s else done ((s.setStop true).raise .stopInput none)

/-- STOP_INPUT_RELEASED (R163): nothing else changes by itself. -/
def execStopInputReleased (s : State) : Outcome State Fault Refusal := .next (s.setStop false)

/-! ### Reception -/

/-- RECEIVER_READY (R118). -/
def execReceiverReady (port : Port) (s : State) : Outcome State Fault Refusal := .next (s.ready port)

/-- TELEGRAM_TRUNCATED (R118, R120): LINK CHECK, and on the level bus a miss (R141). -/
def execTelegramTruncated (port : Port) (s : State) : Outcome State Fault Refusal := done (s.truncate port)

/-- DISCARDED_TELEGRAM (R117, R118, R120): the characters are received, and the telegram they end is judged. -/
def execDiscardedTelegram (port : Port) (first : Character) (rest : List Character) (s : State) :
    Outcome State Fault Refusal :=
  done (s.arrive port (first :: rest))

/-! ### Store line -/

/-- STORE_ORDER (R126). -/
def execStoreOrder (h : StoreHdr) (station kind : Byte) (body : List Byte) (s : State) : Outcome State Fault Refusal :=
  done (s.onStoreLine ⟨h.aisle, station, h.srcAisle, h.srcStation, kind, h.tag, body⟩)

/-- STORE_POLL (R132). -/
def execStorePoll (h : StoreHdr) (burst : Byte) (s : State) : Outcome State Fault Refusal :=
  done (s.onStoreLine ⟨h.aisle, 0, h.srcAisle, h.srcStation, kStorePoll, h.tag, [burst]⟩)

/-- REQUEST (R133). -/
def execRequest (h : StoreHdr) (body : List Byte) (s : State) : Outcome State Fault Refusal :=
  done (s.onStoreLine ⟨h.aisle, 0, h.srcAisle, h.srcStation, kRequest, h.tag, body⟩)

/-- UPSTREAM_TELEGRAM_SENT (R129, R130, R132). -/
def execUpstreamTelegramSent (s : State) : Outcome State Fault Refusal := done s.upstreamSent

/-! ### Level bus turns -/

/-- TURN_START (R137 to R139). -/
def execTurnStart (s : State) : Outcome State Fault Refusal := .next s.startTurn

/-- TURN_FRAME_SENT (R139, R140). -/
def execTurnFrameSent (s : State) : Outcome State Fault Refusal := .next s.frameSent

/-- TURN_ANSWER (R141, R142). -/
def execTurnAnswer (chars : List Character) (s : State) : Outcome State Fault Refusal := done (s.arrive .levelBus chars)

/-- TURN_START_LIMIT (R140): no character has arrived, so no answer, a miss. -/
def execTurnStartLimit (s : State) : Outcome State Fault Refusal :=
  match s.bus.turn with
  | .awaiting n => if s.bus.rx = .ready then done (s.endTurn.miss n) else .next s
  | .idle => .next s
  | .sending _ _ => .next s

/-- TURN_COMPLETION_LIMIT (R140, R141): an answer that has begun is judged as truncated. -/
def execTurnCompletionLimit (s : State) : Outcome State Fault Refusal := done (s.truncate .levelBus)

/-! ### Lift links -/

/-- LIFT_FRAME_BEGUN (R164, R128). -/
def execLiftFrameBegun (x : Lift) (s : State) : Outcome State Fault Refusal := .next (s.beginFrame x)

/-- LIFT_TELEGRAM_SENT (R128). -/
def execLiftTelegramSent (x : Lift) (s : State) : Outcome State Fault Refusal := .next (s.liftSent x)

end Sys2Proof.Machine
end

