-- ==== Sys2Proof/Machine/Parties.lean ====
section
/-! DEFINITION. Meanings of the telegrams of parties and of the timer expiries. -/

namespace Sys2Proof.Machine

open Host (Outcome)

/-- MACHINE_REPORT (R129): a telegram upward, aisle 0, station 0. -/
def execMachineReport (p : Party) (tag kind : Byte) (body : List Byte) (s : State) : Outcome State Fault Refusal :=
  done (if bodyFits body.length then s.onPort p ⟨0, 0, s.store.unique, p.station, kind, tag, body⟩ else s.overlong p)

/-- IDLE (R121): taken and discarded. -/
def execIdle (p : Party) (tag : Byte) (s : State) : Outcome State Fault Refusal := done (s.telegram p tag 0 true .idle)

/-- PLACE_ASK (R28). -/
def execPlaceAsk (p : Party) (tag wait count : Byte) (body : PlaceBody) (s : State) : Outcome State Fault Refusal :=
  done (s.telegram p tag body.length (body.fits p count) (.placeAsk wait count body))

/-- FETCH_ASK (R28). -/
def execFetchAsk (p : Party) (tag wait count : Byte) (s : State) : Outcome State Fault Refusal :=
  done (s.telegram p tag 2 true (.fetchAsk wait count))

/-- PLACED (R40, R41). -/
def execPlaced (p : Party) (tag handle : Byte) (ids : List ToteId) (s : State) : Outcome State Fault Refusal :=
  done (s.telegram p tag (2 + 4 * ids.length) true (.report .place handle ids))

/-- FETCHED (R40, R42). -/
def execFetched (p : Party) (tag handle : Byte) (ids : List ToteId) (s : State) : Outcome State Fault Refusal :=
  done (s.telegram p tag (2 + 4 * ids.length) true (.report .fetch handle ids))

/-- QUIT (R44). -/
def execQuit (p : Party) (tag handle : Byte) (s : State) : Outcome State Fault Refusal :=
  done (s.telegram p tag 1 true (.quit handle))

/-- STATE from a lift (R57 to R59). -/
def execState (x : Lift) (tag : Byte) (body : StateBody) (s : State) : Outcome State Fault Refusal :=
  done (s.telegram (.lift x) tag body.length body.fits (.state body))

/-- STATE from a shuttle (R148, R149). -/
def execShuttleState (n : Level) (tag : Byte) (body : StateBody) (s : State) : Outcome State Fault Refusal :=
  done (s.telegram (.shuttle n) tag body.length body.fits (.state body))

/-- VISIT_OPEN (R67, R68). -/
def execVisitOpen (x : Lift) (tag level p f : Byte) (s : State) : Outcome State Fault Refusal :=
  done (s.telegram (.lift x) tag 3 true (.visitOpen level p f))

/-- VISIT_CLOSE (R71). -/
def execVisitClose (x : Lift) (tag : Byte) (s : State) : Outcome State Fault Refusal :=
  done (s.telegram (.lift x) tag 0 true .visitClose)

/-- NEXT_CALL (R76). -/
def execNextCall (x : Lift) (tag : Byte) (s : State) : Outcome State Fault Refusal :=
  done (s.telegram (.lift x) tag 0 true .nextCall)

/-- LOAD (R63, R64). -/
def execLoad (x : Lift) (tag : Byte) (totes : List ToteRec) (s : State) : Outcome State Fault Refusal :=
  done (s.telegram (.lift x) tag (1 + 6 * totes.length) true (.load totes))

/-- UNLOAD (R65, R66). -/
def execUnload (x : Lift) (tag : Byte) (ids : List ToteId) (s : State) : Outcome State Fault Refusal :=
  done (s.telegram (.lift x) tag (1 + 4 * ids.length) true (.unload ids))

/-! ### Expiries. A timer stands at 0 until its expiry is taken; in HALT it is not (log 9). -/

/-- ACT_TIMER_EXPIRY (R45). -/
def execActTimerExpiry (h : Handle) (s : State) : Outcome State Fault Refusal := done (s.actExpiry h)

/-- HOLD_TIMER_EXPIRY (R51). -/
def execHoldTimerExpiry (h : Handle) (s : State) : Outcome State Fault Refusal := done (s.holdExpiry h)

/-- CONFIRM_TIMER_EXPIRY (R109). -/
def execConfirmTimerExpiry (h : Handle) (s : State) : Outcome State Fault Refusal := done (s.confirmExpiry h)

/-- VISIT_TIMER_EXPIRY (R72). -/
def execVisitTimerExpiry (x : Lift) (s : State) : Outcome State Fault Refusal := done (s.visitExpiry x)

/-- STATE_ASK_INTERVAL (R56). -/
def execStateAskInterval (x : Lift) (s : State) : Outcome State Fault Refusal := .next (s.askIntervalOut x)

end Sys2Proof.Machine
end

