-- ==== Sys2Proof/Machine/Functions.lean ====
section
/-! DEFINITION. Meanings of the management functions: each is the REQUEST that carries it (log 5). The bytes of each are
its function code and arguments (Table 10-2). -/

namespace Sys2Proof.Machine

open Host (Outcome)

/-- A REQUEST with this function reaches the store line (R133, R184). -/
def requested (h : StoreHdr) (q : Req) (s : State) : Outcome State Fault Refusal := done (s.onRequest h true q)

/-! ### Tables -/

/-- SLOT_MAP_WRITE (R13): 40 bytes, else the arguments do not fit (R184). -/
def execSlotMapWrite (h : StoreHdr) (map : List Byte) (s : State) : Outcome State Fault Refusal :=
  done (s.onRequest h (bodyFits (2 + map.length)) (if map.length = 40 then .slotMap map else .badForm 0x01))

/-- ROUTE_TABLE_WRITE (R80, R81). -/
def execRouteTableWrite (h : StoreHdr) (stream : Byte) (row : RowBytes) (s : State) : Outcome State Fault Refusal :=
  requested h (.routeRow stream row) s

/-- TIMING_TABLE_WRITE (R186). -/
def execTimingTableWrite (h : StoreHdr) (t : Timing) (s : State) : Outcome State Fault Refusal :=
  requested h (.timing t) s

/-- DISPOSITION_TABLE_WRITE (R174). -/
def execDispositionTableWrite (h : StoreHdr) (cls disposition : Byte) (s : State) : Outcome State Fault Refusal :=
  requested h (.disposition cls disposition) s

/-- PRIORITY_LIST_WRITE (R179). -/
def execPriorityListWrite (h : StoreHdr) (classes : List Byte) (s : State) : Outcome State Fault Refusal :=
  done (s.onRequest h (bodyFits (3 + classes.length)) (.priority classes))

/-- ADDRESS_ENTRIES_WRITE (R186). -/
def execAddressEntriesWrite (h : StoreHdr) (group value mask : Byte) (s : State) : Outcome State Fault Refusal :=
  requested h (.address group value mask) s

/-- NOTICE_ENABLES_WRITE (R190). -/
def execNoticeEnablesWrite (h : StoreHdr) (set : Byte) (s : State) : Outcome State Fault Refusal :=
  requested h (.enables set) s

/-- RESUME_DEFAULT_WRITE (R166, R185). -/
def execResumeDefaultWrite (h : StoreHdr) (value : Byte) (s : State) : Outcome State Fault Refusal :=
  requested h (.resumeDefault value) s

/-- TABLE_READ (R185). -/
def execTableRead (h : StoreHdr) (table stream : Byte) (s : State) : Outcome State Fault Refusal :=
  requested h (.tableRead table stream) s

/-! ### MODE-SET: each row is the MODE-SET that leads to its step, judged by the mode it finds (R158, log 5) -/

/-- ENTRY_INTO_RUN (R159). -/
def execEntryIntoRun (h : StoreHdr) (resume : Byte) (s : State) : Outcome State Fault Refusal :=
  requested h (.modeSet 1 resume) s

/-- MODE_SET_CONFIG (R160). -/
def execModeSetConfig (h : StoreHdr) (resume : Byte) (s : State) : Outcome State Fault Refusal :=
  requested h (.modeSet 0 resume) s

/-- ENTRY_INTO_DRAIN (R161). -/
def execEntryIntoDrain (h : StoreHdr) (resume : Byte) (s : State) : Outcome State Fault Refusal :=
  requested h (.modeSet 2 resume) s

/-- RETURN_TO_RUN (R162). -/
def execReturnToRun (h : StoreHdr) (resume : Byte) (s : State) : Outcome State Fault Refusal :=
  requested h (.modeSet 1 resume) s

/-- ENTRY_INTO_HALT (R164). -/
def execEntryIntoHalt (h : StoreHdr) (resume : Byte) (s : State) : Outcome State Fault Refusal :=
  requested h (.modeSet 3 resume) s

/-- RESUME_REISSUE (R166). -/
def execResumeReissue (h : StoreHdr) (s : State) : Outcome State Fault Refusal := requested h (.modeSet 1 1) s

/-- RESUME_REVOKE (R167). -/
def execResumeRevoke (h : StoreHdr) (s : State) : Outcome State Fault Refusal := requested h (.modeSet 1 2) s

/-- CLEANUP_INTO_CONFIG (R168). -/
def execCleanupIntoConfig (h : StoreHdr) (resume : Byte) (s : State) : Outcome State Fault Refusal :=
  requested h (.modeSet 0 resume) s

/-! ### Streams and confirmations -/

/-- STREAM_APPEND (R83). -/
def execStreamAppend (h : StoreHdr) (stream : Byte) (ids : List ToteId) (s : State) : Outcome State Fault Refusal :=
  done (s.onRequest h (bodyFits (3 + 4 * ids.length)) (.append stream ids))

/-- STREAM_CUT (R84). -/
def execStreamCut (h : StoreHdr) (stream : Byte) (ids : List ToteId) (s : State) : Outcome State Fault Refusal :=
  done (s.onRequest h (bodyFits (3 + 4 * ids.length)) (.cut stream ids))

/-- UNBAR (R115). -/
def execUnbar (h : StoreHdr) (stream : Byte) (id : ToteId) (s : State) : Outcome State Fault Refusal :=
  requested h (.unbar stream id) s

/-- CONFIRM (R108). -/
def execConfirm (h : StoreHdr) (handle : Byte) (id : ToteId) (s : State) : Outcome State Fault Refusal :=
  requested h (.confirm handle id) s

/-- DENY (R108). -/
def execDeny (h : StoreHdr) (handle : Byte) (id : ToteId) (s : State) : Outcome State Fault Refusal :=
  requested h (.deny handle id) s

/-! ### Slots and service -/

/-- SLOT_SET (R15, R16). -/
def execSlotSet (h : StoreHdr) (level code target : Byte) (r : ToteRec) (s : State) : Outcome State Fault Refusal :=
  requested h (.slotSet level code target r) s

/-- LEVEL_SERVICE_ON (R151). -/
def execLevelServiceOn (h : StoreHdr) (level : Byte) (s : State) : Outcome State Fault Refusal :=
  requested h (.levelService level true) s

/-- LEVEL_SERVICE_OFF (R152). -/
def execLevelServiceOff (h : StoreHdr) (level : Byte) (s : State) : Outcome State Fault Refusal :=
  requested h (.levelService level false) s

/-- LIFT_SERVICE_ON (R61). -/
def execLiftServiceOn (h : StoreHdr) (x : Lift) (s : State) : Outcome State Fault Refusal :=
  requested h (.liftService x true) s

/-- LIFT_SERVICE_OFF (R61). -/
def execLiftServiceOff (h : StoreHdr) (x : Lift) (s : State) : Outcome State Fault Refusal :=
  requested h (.liftService x false) s

/-! ### Faults and notices -/

/-- CLEAR_FAULT (R180). -/
def execClearFault (h : StoreHdr) (cls : Byte) (s : State) : Outcome State Fault Refusal :=
  requested h (.clearFault cls) s

/-- CLEAR_LEAD (R181). -/
def execClearLead (h : StoreHdr) (s : State) : Outcome State Fault Refusal := requested h .clearLead s

/-- CLEAR_PARTY (R178). -/
def execClearParty (h : StoreHdr) (station : Byte) (s : State) : Outcome State Fault Refusal :=
  requested h (.clearParty station) s

/-- CLEAR_NOTICE (R191). -/
def execClearNotice (h : StoreHdr) (flags : Byte) (s : State) : Outcome State Fault Refusal :=
  requested h (.clearNotice flags) s

/-! ### Reads -/

/-- SLOT_READ (R21). -/
def execSlotRead (h : StoreHdr) (level code : Byte) (s : State) : Outcome State Fault Refusal :=
  requested h (.slotRead level code) s

/-- LEVEL_RANGE_READ (R21). -/
def execLevelRangeRead (h : StoreHdr) (first last : Byte) (s : State) : Outcome State Fault Refusal :=
  requested h (.levelRange first last) s

/-- STREAM_READ (R103). -/
def execStreamRead (h : StoreHdr) (stream pos : Byte) (s : State) : Outcome State Fault Refusal :=
  requested h (.streamRead stream pos) s

/-- CARRIAGE_AND_VISIT_READ (R77). -/
def execCarriageAndVisitRead (h : StoreHdr) (x : Lift) (s : State) : Outcome State Fault Refusal :=
  requested h (.carriageRead x) s

/-- CALL_QUEUE_READ (R77). -/
def execCallQueueRead (h : StoreHdr) (x : Lift) (pos : Byte) (s : State) : Outcome State Fault Refusal :=
  requested h (.callRead x pos) s

/-- TRANSFER_TABLE_READ (R187). -/
def execTransferTableRead (h : StoreHdr) (first : Byte) (s : State) : Outcome State Fault Refusal :=
  requested h (.transferRead first) s

/-- FAULT_READ (R182). -/
def execFaultRead (h : StoreHdr) (first : Byte) (s : State) : Outcome State Fault Refusal :=
  requested h (.faultRead first) s

/-- PRESENCE_READ (R154). -/
def execPresenceRead (h : StoreHdr) (first last : Byte) (s : State) : Outcome State Fault Refusal :=
  requested h (.presenceRead first last) s

/-- STATISTICS_READ (R188). -/
def execStatisticsRead (h : StoreHdr) (first : Byte) (s : State) : Outcome State Fault Refusal :=
  requested h (.statsRead first) s

/-- STATISTICS_READ_AND_CLEAR (R188). -/
def execStatisticsReadAndClear (h : StoreHdr) (first : Byte) (s : State) : Outcome State Fault Refusal :=
  requested h (.statsClear first) s

/-- AISLE_TIME_READ (R188). -/
def execAisleTimeRead (h : StoreHdr) (s : State) : Outcome State Fault Refusal := requested h .timeRead s

/-- STATUS_SUMMARY (R189). -/
def execStatusSummary (h : StoreHdr) (s : State) : Outcome State Fault Refusal := requested h .summary s

end Sys2Proof.Machine
end

