-- ==== Sys2Proof/Machine/Dispatch.lean ====
section
/-! DEFINITION. The meaning of every command: one arm per constructor of `Instr`. -/

namespace Sys2Proof.Machine

/-- The effect of a command on everything but the queue. -/
def exec (i : Instr) (s : State) : Host.Outcome State Fault Refusal :=
  match i with
  | .fullReset switches stop => Sys2Proof.Machine.execFullReset switches stop s
  | .tick => Sys2Proof.Machine.execTick s
  | .stopInputAsserted => Sys2Proof.Machine.execStopInputAsserted s
  | .stopInputReleased => Sys2Proof.Machine.execStopInputReleased s
  | .telegramTruncated port => Sys2Proof.Machine.execTelegramTruncated port s
  | .discardedTelegram port first rest => Sys2Proof.Machine.execDiscardedTelegram port first rest s
  | .storeOrder h station kind body => Sys2Proof.Machine.execStoreOrder h station kind body s
  | .machineReport p tag kind body => Sys2Proof.Machine.execMachineReport p tag kind body s
  | .storePoll h burst => Sys2Proof.Machine.execStorePoll h burst s
  | .request h body => Sys2Proof.Machine.execRequest h body s
  | .idle p tag => Sys2Proof.Machine.execIdle p tag s
  | .placeAsk p tag wait count body => Sys2Proof.Machine.execPlaceAsk p tag wait count body s
  | .fetchAsk p tag wait count => Sys2Proof.Machine.execFetchAsk p tag wait count s
  | .placed p tag handle ids => Sys2Proof.Machine.execPlaced p tag handle ids s
  | .fetched p tag handle ids => Sys2Proof.Machine.execFetched p tag handle ids s
  | .quit p tag handle => Sys2Proof.Machine.execQuit p tag handle s
  | .state x tag body => Sys2Proof.Machine.execState x tag body s
  | .shuttleState n tag body => Sys2Proof.Machine.execShuttleState n tag body s
  | .visitOpen x tag level p f => Sys2Proof.Machine.execVisitOpen x tag level p f s
  | .visitClose x tag => Sys2Proof.Machine.execVisitClose x tag s
  | .nextCall x tag => Sys2Proof.Machine.execNextCall x tag s
  | .load x tag totes => Sys2Proof.Machine.execLoad x tag totes s
  | .unload x tag ids => Sys2Proof.Machine.execUnload x tag ids s
  | .turnStart => Sys2Proof.Machine.execTurnStart s
  | .turnFrameSent => Sys2Proof.Machine.execTurnFrameSent s
  | .turnAnswer chars => Sys2Proof.Machine.execTurnAnswer chars s
  | .turnStartLimit => Sys2Proof.Machine.execTurnStartLimit s
  | .turnCompletionLimit => Sys2Proof.Machine.execTurnCompletionLimit s
  | .liftTelegramSent x => Sys2Proof.Machine.execLiftTelegramSent x s
  | .upstreamTelegramSent => Sys2Proof.Machine.execUpstreamTelegramSent s
  | .actTimerExpiry h => Sys2Proof.Machine.execActTimerExpiry h s
  | .holdTimerExpiry h => Sys2Proof.Machine.execHoldTimerExpiry h s
  | .confirmTimerExpiry h => Sys2Proof.Machine.execConfirmTimerExpiry h s
  | .visitTimerExpiry x => Sys2Proof.Machine.execVisitTimerExpiry x s
  | .stateAskInterval x => Sys2Proof.Machine.execStateAskInterval x s
  | .slotMapWrite h map => Sys2Proof.Machine.execSlotMapWrite h map s
  | .routeTableWrite h stream row => Sys2Proof.Machine.execRouteTableWrite h stream row s
  | .timingTableWrite h t => Sys2Proof.Machine.execTimingTableWrite h t s
  | .dispositionTableWrite h cls disposition => Sys2Proof.Machine.execDispositionTableWrite h cls disposition s
  | .priorityListWrite h classes => Sys2Proof.Machine.execPriorityListWrite h classes s
  | .addressEntriesWrite h group value mask => Sys2Proof.Machine.execAddressEntriesWrite h group value mask s
  | .noticeEnablesWrite h set => Sys2Proof.Machine.execNoticeEnablesWrite h set s
  | .resumeDefaultWrite h value => Sys2Proof.Machine.execResumeDefaultWrite h value s
  | .tableRead h table stream => Sys2Proof.Machine.execTableRead h table stream s
  | .entryIntoRun h resume => Sys2Proof.Machine.execEntryIntoRun h resume s
  | .modeSetConfig h resume => Sys2Proof.Machine.execModeSetConfig h resume s
  | .entryIntoDrain h resume => Sys2Proof.Machine.execEntryIntoDrain h resume s
  | .returnToRun h resume => Sys2Proof.Machine.execReturnToRun h resume s
  | .entryIntoHalt h resume => Sys2Proof.Machine.execEntryIntoHalt h resume s
  | .resumeReissue h => Sys2Proof.Machine.execResumeReissue h s
  | .resumeRevoke h => Sys2Proof.Machine.execResumeRevoke h s
  | .cleanupIntoConfig h resume => Sys2Proof.Machine.execCleanupIntoConfig h resume s
  | .streamAppend h stream ids => Sys2Proof.Machine.execStreamAppend h stream ids s
  | .streamCut h stream ids => Sys2Proof.Machine.execStreamCut h stream ids s
  | .unbar h stream id => Sys2Proof.Machine.execUnbar h stream id s
  | .confirm h handle id => Sys2Proof.Machine.execConfirm h handle id s
  | .deny h handle id => Sys2Proof.Machine.execDeny h handle id s
  | .slotSet h level code target r => Sys2Proof.Machine.execSlotSet h level code target r s
  | .levelServiceOn h level => Sys2Proof.Machine.execLevelServiceOn h level s
  | .levelServiceOff h level => Sys2Proof.Machine.execLevelServiceOff h level s
  | .liftServiceOn h x => Sys2Proof.Machine.execLiftServiceOn h x s
  | .liftServiceOff h x => Sys2Proof.Machine.execLiftServiceOff h x s
  | .clearFault h cls => Sys2Proof.Machine.execClearFault h cls s
  | .clearLead h => Sys2Proof.Machine.execClearLead h s
  | .clearParty h station => Sys2Proof.Machine.execClearParty h station s
  | .clearNotice h flags => Sys2Proof.Machine.execClearNotice h flags s
  | .slotRead h level code => Sys2Proof.Machine.execSlotRead h level code s
  | .levelRangeRead h first last => Sys2Proof.Machine.execLevelRangeRead h first last s
  | .streamRead h stream pos => Sys2Proof.Machine.execStreamRead h stream pos s
  | .carriageAndVisitRead h x => Sys2Proof.Machine.execCarriageAndVisitRead h x s
  | .callQueueRead h x pos => Sys2Proof.Machine.execCallQueueRead h x pos s
  | .transferTableRead h first => Sys2Proof.Machine.execTransferTableRead h first s
  | .faultRead h first => Sys2Proof.Machine.execFaultRead h first s
  | .presenceRead h first last => Sys2Proof.Machine.execPresenceRead h first last s
  | .statisticsRead h first => Sys2Proof.Machine.execStatisticsRead h first s
  | .statisticsReadAndClear h first => Sys2Proof.Machine.execStatisticsReadAndClear h first s
  | .aisleTimeRead h => Sys2Proof.Machine.execAisleTimeRead h s
  | .statusSummary h => Sys2Proof.Machine.execStatusSummary h s
  | .receiverReady port => Sys2Proof.Machine.execReceiverReady port s
  | .liftFrameBegun x => Sys2Proof.Machine.execLiftFrameBegun x s

end Sys2Proof.Machine
end

