-- ==== Sys2Proof/Safety.lean ====
section
/-! DEFINITION. What the statements are made of: the states in which a command reaches the controller, the state a request
leaves, and the properties that every step keeps. -/

namespace Sys2Proof.Machine

/-! ### Properties every step keeps -/

/-- Nothing is left over from an earlier step (log 7). -/
abbrev State.Rests (s : State) : Prop := s.work = Work.done

/-- The two outputs follow the mode and the flags (R157, R192). -/
abbrev OutputsFollow (s : State) : Prop :=
  s.modeCtl.motion = s.mode.permits ∧ s.notices.attention = (s.notices.pending.both s.notices.enabled).any

/-- Classes 9 and 12 have disposition HALT (R174). -/
abbrev FixedAtHalt (s : State) : Prop := s.disposition .ungrantedAct = .halt ∧ s.disposition .stopInput = .halt

/-- A party has at most one entry (R25). -/
abbrev OneEntryEach (s : State) : Prop :=
  ∀ h k : Handle, ∀ e ∈ s.entry h, ∀ f ∈ s.entry k, e.party = f.party → h = k

/-- In CONFIG the transfer table is empty and no visit is open (R25, R160, R162, R168). -/
abbrev ConfigEmpty (s : State) : Prop :=
  s.mode = .config → (∀ h, s.entry h = none) ∧ ∀ x, (s.lift x).visit = none

/-- The telegrams that wait for a level in the level downstream queue. -/
def State.waitingFor (s : State) (n : Level) : List LevelItem := s.bus.queue.filter (fun i => i.level = n)

/-- No queue holds more than its places, nor more than the share of one level or of the store controller allows (R39,
R107, R127, R128, R129, R130, R133). -/
abbrev WithinPlaces (s : State) : Prop :=
  s.upstreamUsed ≤ 64 ∧ s.store.nfWait.length ≤ 16 ∧ s.requests.length ≤ 4 ∧ s.unsentAsks.length ≤ 4
    ∧ s.bus.queue.length ≤ 32 ∧ (∀ n, (s.waitingFor n).length ≤ 4) ∧ (∀ n, (s.shuttle n).box.length ≤ 2)
    ∧ ∀ x, (s.link x).down.length ≤ 8 ∧ ((s.link x).down.filter (fun i => !i.own)).length ≤ 6

/-- The entry is a lift's in CONFIRMING (R106). -/
def Entry.confirmsLift (e : Entry) : Bool :=
  match e.phase, e.party with
  | .confirming, .lift _ => true
  | .confirming, .shuttle _ => false
  | .waiting _, _ => false
  | .granted _, _ => false

/-- The unsent CONFIRM-ASKs are about totes of CONFIRMING entries of lifts, at most one for each, and such an entry has
at most two totes (R62, R106, R107). -/
abbrev AsksOwned (s : State) : Prop :=
  (∀ h, (s.unsentAsks.filter (fun t => t.asksAbout h)).length ≤ (match s.entry h with
      | some e => if e.confirmsLift then e.items.length else 0
      | none => 0))
    ∧ (∀ t ∈ s.unsentAsks, ∃ h : Handle, t.asksAbout h = true)
    ∧ ∀ h, ∀ e ∈ s.entry h, e.confirmsLift = true → e.items.length ≤ 2

/-- The store line receiver is in HUNT while the controller sends there; the level bus receiver is out of HUNT exactly
while an answer is awaited; and a receiver in RECEIVING holds the first bytes of a telegram that has not ended (R118,
R140). -/
abbrev ReceiversFollow (s : State) : Prop :=
  (s.store.tx ≠ .idle → s.store.rx = .hunt)
    ∧ (s.bus.rx ≠ .hunt ↔ ∃ n, s.bus.turn = .awaiting n)
    ∧ ∀ port held, s.rx port = .receiving held → held ≠ [] ∧ judgeBytes held = none

/-- Between turns some level is given the next turn, which is above the position and which the present cycle includes; or
no level is ONLINE, RETURNING or ABSENT and no cycle is under way. A turn is one of a cycle. Outside a cycle the position
is before level 1, and the mark of a probe cycle is clear (R137, R138). -/
abbrev SchedulerFollows (s : State) : Prop :=
  (s.bus.turn ≠ .idle → s.bus.cycle = true ∧ s.bus.next = none)
    ∧ (∀ n, s.bus.next = some n → s.bus.cycle = true ∧ (s.shuttle n).presence.included s.bus.probeCycle = true
      ∧ ∀ m, s.bus.pos = some m → m < n)
    ∧ (s.bus.turn = .idle → s.bus.next = none → s.bus.cycle = false
      ∧ ∀ n, (s.shuttle n).presence.included true = false)
    ∧ (s.bus.cycle = false → s.bus.pos = none ∧ s.bus.probeCycle = false)

/-- A claim stands only while the entry that owns it is GRANTED, is of its kind, and lists its slot and its tote
(R8, R9). -/
abbrev ClaimsOwned (s : State) : Prop :=
  ∀ n c, ∀ k ∈ (s.slot n c).claim, ∃ e ∈ s.entry k.handle,
    e.phase.isGranted = true ∧ e.kind = k.kind ∧ ∃ i ∈ e.items, i.slot = some (n, c) ∧ i.tote.id = k.toteId

/-! ### The management tables -/

/-- The management tables 2 to 8 of a state. -/
structure Tables where
  rows : StreamNo → Row
  timing : Timing
  dispositions : Vector Disposition 12
  priority : List FaultClass
  unique : Byte
  group : Byte
  maskValue : Byte
  mask : Byte
  enabled : Flags
  resumeDefault : ResumeMode

/-- The management tables 2 to 8 of a state (Table 10-3). -/
def State.tables (s : State) : Tables where
  rows := fun i => (s.stream i).row
  timing := s.timing
  dispositions := s.faults.dispositions
  priority := s.faults.priority
  unique := s.store.unique
  group := s.store.group
  maskValue := s.store.maskValue
  mask := s.store.mask
  enabled := s.notices.enabled
  resumeDefault := s.modeCtl.resumeDefault

/-- Commands that bring no management request to the controller, free no place a waiting request may be waiting for, and
do not reset it. -/
def bringsNoRequest : Instr → Bool
  | .tick | .stopInputAsserted | .stopInputReleased | .telegramTruncated _ | .storePoll _ _ => true
  | .discardedTelegram port _ _ => port ≠ .storeLine
  | .storeOrder _ station _ _ => station ≠ 0
  | .machineReport _ _ _ _ | .idle _ _ | .placeAsk _ _ _ _ _ | .fetchAsk _ _ _ _ | .placed _ _ _ _
  | .fetched _ _ _ _ | .quit _ _ _ | .state _ _ _ | .shuttleState _ _ _ | .visitOpen _ _ _ _ _ | .visitClose _ _
  | .nextCall _ _ | .load _ _ _ | .unload _ _ _ => true
  | .turnStart | .turnFrameSent | .turnAnswer _ | .turnStartLimit | .turnCompletionLimit => true
  | .liftTelegramSent _ | .liftFrameBegun _ | .receiverReady _ => true
  | .actTimerExpiry _ | .holdTimerExpiry _ | .confirmTimerExpiry _ | .visitTimerExpiry _ | .stateAskInterval _ => true
  | _ => false

/-! ### How requests reach the controller -/

/-- A destination aisle byte is taken by unique match, or by group or masked match (R122). -/
def StoreLine.Matches (l : StoreLine) (a : Byte) (unique : Bool) : Prop :=
  a ≠ 0 ∧ (if unique then a = l.unique
    else a ≠ l.unique ∧ ((l.group ≠ 0 ∧ a = l.group) ∨ (l.mask ≠ 0 ∧ a &&& l.mask = l.maskValue &&& l.mask)))

/-- A request with this header is taken and executed at once: the receiver is READY, the address matches, no
request waits, and the upstream queue has a place for an ANSWER (R118, R122, R133). -/
structure Takes (s : State) (h : StoreHdr) (answer : Bool) : Prop where
  rests : s.work = Work.done
  receiver : s.store.rx = .ready
  transmitter : s.store.tx = .idle
  address : s.store.Matches h.aisle answer
  queue : s.requests = []
  place : answer = true → s.store.upstream.length < 64

/-- The state in which a request is executed: it is at the head of the management input queue, and the place of its ANSWER
is kept (R133). -/
def State.executing (s : State) (tag : Byte) (answer : Bool) (q : Req) : State :=
  { s with
    requests := [{ answer := answer, tag := tag, req := q }]
    work := { s.work with reserved := answer } }

/-- The state after a request whose effect has been made: its place is freed, and its ANSWER, if there is one, stands at
the tail of the upstream queue (R133, R135, R184). -/
def State.executed (s : State) (tag : Byte) (answer : Bool) (code : Byte) (r : Option Reason) (data : List Byte) :
    State :=
  let store := if answer then
      { s.store with upstream := s.store.upstream ++ [
        { dstAisle := 0, dstStation := 0, srcAisle := s.store.unique, srcStation := 0, kind := 0x53, tag := tag,
          body := .answer code r data }] }
    else s.store
  { s with store := store, requests := [], work := { s.work with reserved := false } }

/-- The store line receiver is READY for a telegram, and nothing is left over from an earlier step (R118). -/
structure Listens (s : State) : Prop where
  rests : s.work = Work.done
  receiver : s.store.rx = .ready
  transmitter : s.store.tx = .idle

/-- A store order for this party is not admitted, and why (R126). -/
def State.NotAdmitted (s : State) (p : Party) (r : Reason) : Prop :=
  match p with
  | .shuttle n =>
    ((s.shuttle n).presence = .unmapped ∧ r = .unmapped) ∨ ((s.shuttle n).presence = .absent ∧ r = .absent)
      ∨ ((s.shuttle n).presence = .service ∧ r = .service) ∨ ((s.shuttle n).presence = .returning ∧ r = .notReady)
      ∨ ((s.shuttle n).presence = .online ∧ (32 ≤ s.bus.queue.length ∨ 4 ≤ (s.waitingFor n).length) ∧ r = .full)
  | .lift x =>
    ((s.lift x).presence = .returning ∧ r = .notReady) ∨ ((s.lift x).presence = .service ∧ r = .service)
      ∨ ((s.lift x).presence = .online
        ∧ (6 ≤ ((s.link x).down.filter (fun i => !i.own)).length ∨ 8 ≤ (s.link x).down.length) ∧ r = .full)

/-- A telegram of the controller to the store controller (R135). -/
def State.upward (s : State) (kind tag : Byte) (b : Body) : Tel := ⟨0, 0, s.store.unique, 0, kind, tag, b⟩

/-- A telegram of the controller to a party (R135). -/
def State.toward (s : State) (p : Party) (kind tag : Byte) (b : Body) : Tel :=
  ⟨s.store.unique, p.station, s.store.unique, 0, kind, tag, b⟩

/-! ### How telegrams of parties reach the controller -/

/-- A telegram of a party is received: a lift's on its link, whose receiver is READY; a shuttle's as the answer of its
level's turn, no character of which has come (R118, R140). -/
structure Hears (s : State) (p : Party) : Prop where
  rests : s.work = Work.done
  port : match p with
    | .lift x => (s.link x).rx = .ready
    | .shuttle n => s.bus.turn = .awaiting n ∧ s.bus.rx = .ready

/-- The state after a turn of the level bus has ended, its outcome still to be dealt with: the bus is idle, its receiver in
HUNT, and the scheduler is to look for the next level (R137, R140). -/
def State.turnEnded (s : State) : State :=
  { s with bus := { s.bus with turn := .idle, rx := .hunt, next := none }, work := { s.work with look := true } }

/-- The state after a telegram of a party has been received: the receiver is back in HUNT; the turn has ended with
a good answer, which sets the miss count to 0 and makes an ABSENT level RETURNING (R118, R143, R146). -/
def State.heard (s : State) (p : Party) : State :=
  match p with
  | .lift x => s.setLink x { s.link x with rx := .hunt }
  | .shuttle n =>
    let r := s.shuttle n
    s.turnEnded.setShuttle n { r with
      miss := 0
      presence := if r.presence = .absent then .returning else r.presence }

/-- The party has no entry (R25). -/
def State.Entryless (s : State) (p : Party) : Prop := ∀ h, ∀ e ∈ s.entry h, e.party ≠ p

/-- An ask of a party, the entry it would make, and what checks 5 to 8 find of it on the state in which it is judged
(R25, R28, R30 to R32). -/
def AskOf (u : State) (p : Party) (tag wait count : Byte) (a : Instr) (e : Entry) (bad : Option Reason) : Prop :=
  match p with
  | .shuttle n =>
    (∃ r, a = .placeAsk p tag wait count (.record r)
        ∧ e = newEntry u p .place tag wait count [{ tote := r, slot := none, conf := .none }]
        ∧ bad = u.shuttlePlaceFailure n count r)
      ∨ (a = .fetchAsk p tag wait count ∧ e = newEntry u p .fetch tag wait count [] ∧ bad = u.fetchFailure p count)
  | .lift x =>
    (∃ l : List ToteId, a = .placeAsk p tag wait count (.ids l) ∧ l.length = count.toNat ∧ 2 + 4 * l.length ≤ 48
        ∧ e = newEntry u p .place tag wait count (u.namedItems x l) ∧ bad = u.liftPlaceFailure x count l)
      ∨ (a = .fetchAsk p tag wait count ∧ e = newEntry u p .fetch tag wait count [] ∧ bad = u.fetchFailure p count)

/-- The presence of a party is ONLINE (R55, R147). -/
def State.Online (s : State) (p : Party) : Prop :=
  match p with
  | .shuttle n => (s.shuttle n).presence = .online
  | .lift x => (s.lift x).presence = .online

end Sys2Proof.Machine
end

