-- ==== Sys2Proof/Certificates/Slice0/Obligations.lean ====
section
/-! DEFINITION. The statements about the AT-40, one `def Obligations.<Name> : Prop` each, in groups: steps and frames,
invariants, reset and pins, reception, the store line, the lift links and the level bus, asks and acts, the operations of
the blocks, the management functions, the reads. -/

open Sys2Proof Sys2Proof.Machine

/-! ### Steps and frames -/

/-- A step executes the command at the front of the queue on the state with the queue's rest; on an empty queue it idles
(log 1). -/
def Obligations.StepTakesTheFrontCommand : Prop :=
  (∀ (c : Instr) (rest : List Instr) (s : State), s.pending = c :: rest → step s = exec c (s.withPending rest))
    ∧ ∀ s : State, s.pending = [] → step s = .next s

/-- No command faults or is refused by the model, in any state: one without an occasion changes nothing (log 2). None, a
full reset included, changes the queue of waiting commands (log 33). The aisle time advances by one at a tick, goes to 0
at a full reset, and is changed by nothing else (R23, R170). The tables 2 to 8 change by requests and by a full reset
alone: by no telegram of a party, no turn, no expiry, no tick, no stop input, no order and no poll (R170, R185). -/
def Obligations.EveryCommandAnswersWithinItsFrame : Prop :=
  (∀ (c : Instr) (s : State), ∃ t, exec c s = .next t ∧ t.pending = s.pending)
  ∧ (∀ (c : Instr) (s t : State), exec c s = .next t →
      (c = .tick → t.time = s.time + 1)
        ∧ (∀ w b, c = .fullReset w b → t.time = 0)
        ∧ (c ≠ .tick → (∀ w b, c ≠ .fullReset w b) → t.time = s.time))
  ∧ (∀ (c : Instr) (s t : State), bringsNoRequest c = true → exec c s = .next t →
      t.tables = s.tables)

/-! ### Invariants -/

/-- Every step keeps both outputs at what the mode and the flags give (R157, R192), classes 9 and 12 at disposition HALT
(R174), the receivers in the states that the transmitter, the turn and the bytes they hold allow (R118, R140), and the
level bus scheduler, between turns, with the level that is given the next turn, which the present cycle includes, or,
while no level is polled, outside a cycle (R137, R138); and it leaves nothing to do for a later one (log 7). -/
def Obligations.OutputsFixedClassesAndReceiversKept : Prop :=
  ∀ s t : State, s.Rests → step s = .next t →
    t.Rests ∧ (OutputsFollow s → OutputsFollow t) ∧ (FixedAtHalt s → FixedAtHalt t)
      ∧ (ReceiversFollow s → ReceiversFollow t)
      ∧ (SchedulerFollows s → SchedulerFollows t)

/-- Every step keeps every party at one entry at most (R25). -/
def Obligations.OneEntryEachKept : Prop :=
  ∀ s t : State, OneEntryEach s → s.Rests → step s = .next t → OneEntryEach t

/-- Every step that finds or leaves the aisle in CONFIG leaves it without an entry and without a visit (R25, R162). -/
def Obligations.ConfigStaysEmpty : Prop :=
  ∀ s t : State, ConfigEmpty s → s.Rests → step s = .next t → ConfigEmpty t

/-- Every step keeps every queue within its places, with at most 4 orders for one level, 6 forwarded telegrams for one
lift and 4 unsent CONFIRM-ASKs; and the unsent CONFIRM-ASKs with CONFIRMING entries of lifts, of at most two totes each,
that they are about (R39, R106, R107, R126 to R130, R133). -/
def Obligations.PlacesAreKept : Prop :=
  ∀ s t : State, WithinPlaces s → AsksOwned s → OneEntryEach s → s.Rests → step s = .next t →
    WithinPlaces t ∧ AsksOwned t

/-- Every step keeps every claim with a GRANTED entry that owns it (R8, R9, R10, R52). -/
def Obligations.ClaimsStayOwned : Prop :=
  ∀ s t : State, ClaimsOwned s → s.Rests → step s = .next t → ClaimsOwned t

/-- The state after reset has all these properties. -/
def Obligations.ResetHasTheInvariants : Prop :=
  State.reset.Rests ∧ OutputsFollow State.reset ∧ FixedAtHalt State.reset ∧ ReceiversFollow State.reset
    ∧ SchedulerFollows State.reset
    ∧ OneEntryEach State.reset ∧ ConfigEmpty State.reset ∧ WithinPlaces State.reset ∧ AsksOwned State.reset
    ∧ ClaimsOwned State.reset

/-! ### Reset, time, stop input -/

/-- What a full reset leaves, block by block (R22, R24, R54, R78, R104, R116, R136, R155, R170, R174, R179, R183). The
reset state is that of a full reset that reads switches 1 and a stop input not asserted, the model's choice, as is that
the STATE-ASK of each lift stands in its queue (log 4). -/
def Obligations.ResetValues : Prop :=
  let s := State.reset
  (∀ n c, s.slot n c = .off)
    ∧ (∀ h, s.entry h = none) ∧ (∀ p, s.lastExpiredOf p = none) ∧ s.time = 0
    ∧ (∀ p : PartyNo, s.stats[p] = ⟨0, 0, 0⟩)
    ∧ s.timing = ⟨1, 3000, 1500, 2500, 1200, 20000, 8000, 4000, 6000, 3500, 3, 8⟩
    ∧ (∀ x, (s.lift x).presence = .returning ∧ (s.lift x).carriage = [] ∧ (s.lift x).firmware = none
        ∧ (s.lift x).visit = none ∧ (s.lift x).calls = [] ∧ (s.lift x).askTimer = some 500
        ∧ s.link x = ⟨.hunt, 0, [⟨⟨1, x.station, 1, 0, 0x12, 0, .nothing⟩, true, false⟩]⟩)
    ∧ (∀ i, (s.stream i).row = ⟨decide (i = 0), .a, none, 1, .refuse, false, .deny, 0⟩ ∧ (s.stream i).list = []
        ∧ (s.stream i).active = .a ∧ (s.stream i).switchPending = false ∧ (s.stream i).lowMarker = false
        ∧ (s.stream i).released = 0 ∧ (s.stream i).delivered = 0)
    ∧ s.unsentAsks = []
    ∧ (∀ n, s.shuttle n = ⟨.unmapped, 0, false, 0, []⟩)
    ∧ s.bus = ⟨none, none, 0, false, false, .idle, .hunt, [], 0⟩
    ∧ s.store.rx = .hunt ∧ s.store.tx = .idle ∧ s.store.upstream = [] ∧ s.store.noticeWait = none
    ∧ s.store.nfWait = [] ∧ s.store.unique = 1 ∧ s.store.group = 0
    ∧ s.store.maskValue = 0 ∧ s.store.mask = 0 ∧ s.store.ownTag = 0
    ∧ s.requests = []
    ∧ s.mode = .config ∧ s.modeCtl.motion = false ∧ s.modeCtl.resumeDefault = .reissue ∧ s.modeCtl.stop = false
    ∧ (∀ c, s.faultRec c = none) ∧ (∀ p, s.latch p = false)
    ∧ FaultClass.all.map s.disposition
      = [.note, .note, .note, .note, .note, .fence, .fence, .note, .halt, .fence, .halt, .halt]
    ∧ s.faults.priority.map FaultClass.byte = [12, 9, 11, 7, 10, 6, 5, 8, 4, 3, 2, 1] ∧ s.leadFault = none
    ∧ s.notices.pending = Flags.all false ∧ s.notices.enabled = Flags.all true ∧ s.notices.attention = false
    ∧ s.work = Work.done ∧ s.pending = []

/-- A full reset leaves the reset values with the switches read, from any state: the unique aisle number is the setting,
or 0 for one above 63 (R122, R136), and the STATE-ASK to each lift, with that number, stands in its link's queue (R78,
log 4). A stop input found asserted is raised at once, while the aisle is in CONFIG, with no party and stamp 0, and the
NOTICE of the FAULT flag stands in the upstream queue (R163, R170, R183, R190). The queue of waiting commands is kept
(log 33). -/
def Obligations.FullResetRestores : Prop :=
  (∀ (switches : Byte) (stop : Bool),
    let r := State.resetWith switches stop
    let aisle : Byte := if switches.toNat ≤ 63 then switches else 0
    r.store.unique = aisle ∧ r.modeCtl.stop = stop
      ∧ (∀ x, r.link x = ⟨.hunt, 0, [⟨⟨aisle, x.station, aisle, 0, 0x12, 0, .nothing⟩, true, false⟩]⟩)
      ∧ r = { State.reset with
        store := { State.reset.store with unique := r.store.unique }
        links := r.links
        modeCtl := { State.reset.modeCtl with stop := stop } })
  ∧ ∀ (switches : Byte) (s : State),
    exec (.fullReset switches false) s = .next { State.resetWith switches false with pending := s.pending }
      ∧ ∃ t, exec (.fullReset switches true) s = .next t ∧ t.mode = .config ∧ t.modeCtl.motion = false
        ∧ t.modeCtl.stop = true ∧ t.faultRec .stopInput = some ⟨1, none, 0, none, 0⟩
        ∧ t.leadFault = some .stopInput
        ∧ t.notices.pending = { Flags.all false with fault := true } ∧ t.notices.attention = true
        ∧ t.store.upstream.map (fun m => (m.kind, m.tag, m.body)) = [(kNotice, 0, .notice 1 0 12 0)]
        ∧ t.slots = State.reset.slots ∧ t.table = State.reset.table ∧ t.streams = State.reset.streams
        ∧ t.coord = State.reset.coord ∧ t.shuttles = State.reset.shuttles

/-- A tick adds one to the aisle time; every running timer goes down by one, but in HALT the act, hold, confirm and
visit timers stop and keep their remaining time; the STATE-ASK interval runs in every mode; nothing else changes (R23,
R24, R56). A timer stands at 0 until its expiry is taken (log 9). The stop input: a change to asserted raises STOP INPUT
with no party, which is recorded and, its disposition being HALT, halts the aisle from RUN or DRAIN and changes no mode
in CONFIG or HALT; an input that is asserted already, and a release, change nothing else by themselves (R163, R175). -/
def Obligations.TicksAndStopInput : Prop :=
  (∀ s : State, ∃ t, exec .tick s = .next t ∧ t.time = s.time + 1
      ∧ (∀ h, t.entry h = if s.mode = .halt then s.entry h
          else (s.entry h).map (fun e => { e with timer := if e.timer = 0 then 0 else e.timer - 1 }))
      ∧ (∀ x, t.lift x = { s.lift x with
          askTimer := (s.lift x).askTimer.map (fun k => if k = 0 then 0 else k - 1)
          visit := if s.mode = .halt then (s.lift x).visit
            else (s.lift x).visit.map (fun v => { v with timer := if v.timer = 0 then 0 else v.timer - 1 }) })
      ∧ t = { s with time := t.time, table := t.table, coord := t.coord })
  ∧ (∀ s : State,
      (s.Rests → s.modeCtl.stop = false → s.disposition .stopInput = .halt →
        exec .stopInputAsserted s = .next
          (State.enterHalt (State.recordFault { s with modeCtl := { s.modeCtl with stop := true } } ⟨.stopInput, none⟩)))
      ∧ (s.modeCtl.stop = true → exec .stopInputAsserted s = .next s)
      ∧ exec .stopInputReleased s = .next { s with modeCtl := { s.modeCtl with stop := false } })

/-! ### Reception -/

/-- Stage 1 of the store line: the destination aisle byte against the three entries in order (R122). -/
def Obligations.AddressMatch : Prop :=
  ∀ (l : StoreLine) (a : Byte),
    (a = 0 → l.aisleMatch a = .nothing)
      ∧ (a ≠ 0 → a = l.unique → l.aisleMatch a = .unique)
      ∧ (a ≠ 0 → a ≠ l.unique → l.group ≠ 0 → a = l.group → l.aisleMatch a = .group)
      ∧ (a ≠ 0 → a ≠ l.unique → (l.group = 0 ∨ a ≠ l.group) → l.mask ≠ 0 → a &&& l.mask = l.maskValue &&& l.mask →
          l.aisleMatch a = .masked)
      ∧ (a ≠ 0 → a ≠ l.unique → (l.group = 0 ∨ a ≠ l.group) → (l.mask = 0 ∨ a &&& l.mask ≠ l.maskValue &&& l.mask) →
          l.aisleMatch a = .nothing)

/-- Characters, telegrams and receivers. A received character fails when the ones among its data bits and parity bit are
odd in number, or its stop bit is not a one; the controller sends every byte as a character that does not fail (R117).
The check of a telegram that the controller makes is 65535 minus the sum of its bytes, high byte first, and a receiver
in READY takes its characters as that telegram, its fields unchanged (R118, R119, R120 steps 1 to 3). The bytes of a
telegram and of its body (Tables 6-2 and 6-5), with the reason codes of Table 6-6. A receiver in HUNT discards
characters; in READY the next is byte 0, in RECEIVING it is appended, and the telegram ends with a failed character or a
failed check (LINK CHECK), a length byte outside 6 to 54 (LINK FORM), or whole, after which the receiver is in HUNT
(R118, R120). After 3 character times of silence a receiver is READY; on the store line an END that was being sent has
ended by then, and a burst holds the receiver in HUNT, by the model's choice from the STORE-POLL on (log 47); a telegram
that is being received has been ended by a gap before that; the level bus receiver follows its turns (R118, R132, R140;
log 3, log 15). -/
def Obligations.CharactersAndReceivers : Prop :=
  (∀ c : Character, c.bits.length = 10 ∧ (∀ i, i < 8 → c.bits[i]? = some (c.data.getLsbD i))
    ∧ (c.fails = true ↔ (c.bits.take 9).count true % 2 = 1 ∨ c.stop = false))
  ∧ (∀ t : Tel, t.body.bytes.length ≤ 48 →
      t.bytes = t.front ++ [(65535 - byteSum t.front).extractLsb' 8 8, (65535 - byteSum t.front).extractLsb' 0 8]
        ∧ t.characters.map (fun c => c.data) = t.bytes ∧ (∀ c ∈ t.characters, c.fails = false)
        ∧ Rx.ready.take t.characters
          = (.hunt, .sound ⟨t.dstAisle, t.dstStation, t.srcAisle, t.srcStation, t.kind, t.tag, t.body.bytes⟩))
  ∧ (∀ t : Tel, t.front = [BitVec.ofNat 8 (t.body.bytes.length + 6), t.dstAisle, t.dstStation, t.srcAisle, t.srcStation,
      t.kind, t.tag] ++ t.body.bytes)
  ∧ (∀ bs : List Byte, byteSum bs = BitVec.ofNat 16 (bs.map (fun b => b.toNat)).sum)
  ∧ (∀ b : Body, b.bytes = match b with
      | .nothing => []
      | .go h k items => [h, k, BitVec.ofNat 8 items.length] ++ items.flatMap (fun i =>
          [BitVec.ofNat 8 (i.1.val + 1), i.2.1.byte] ++ be32 i.2.2)
      | .hold h r => [h, r.code]
      | .refuse k r h => [k, r.code, h]
      | .visit l p f => [l, p, f]
      | .notForwarded r a st k t => [r.code, a, st, k, t]
      | .endCount n => [n]
      | .answer c none data => [c, 0] ++ data
      | .answer c (some r) data => [c, r.code] ++ data
      | .notice f low lead m => [f] ++ be16 low ++ [lead, m]
      | .confirmAsk h id st x l => [h] ++ be32 id ++ [st, x, l]
      | .raw l => l)
  ∧ [Reason.config, .halted, .draining, .partyFault, .service, .notReady, .tableFull, .busy, .duplicate, .badTote, .badSlot,
      .badCount, .noRoute, .stray, .full, .empty, .notEligible, .reserve, .confirm, .route].map Reason.code
    = [1, 2, 3, 4, 5, 6, 7, 8, 9, 10, 11, 12, 13, 14, 15, 16, 17, 18, 19, 20]
  ∧ [Reason.denied, .timeout, .revoked, .late, .noGrant, .noVisit, .inVisit, .order, .absent, .unmapped, .poolFull,
      .listFull, .readOnly, .void].map Reason.code
    = [22, 23, 24, 25, 26, 27, 28, 29, 30, 31, 32, 33, 34, 35]
  ∧ (∀ cs : List Character, Rx.hunt.take cs = (.hunt, .nothing))
  ∧ (∀ (rx : Rx) (held : List Byte), (rx = .ready ∧ held = []) ∨ (rx = .receiving held ∧ held ≠ []) →
      rx.take [] = (rx, .nothing)
      ∧ ∀ (c : Character) (cs : List Character),
        (c.fails = true → rx.take (c :: cs) = (.hunt, .failed .linkCheck))
        ∧ (c.fails = false → ∀ (l : Byte) (rest : List Byte), held ++ [c.data] = l :: rest →
          ((l.toNat < 6 ∨ 54 < l.toNat) → rx.take (c :: cs) = (.hunt, .failed .linkForm))
          ∧ (6 ≤ l.toNat → l.toNat ≤ 54 →
            (rest.length + 1 < l.toNat + 3 → rx.take (c :: cs) = (Rx.receiving (l :: rest)).take cs)
            ∧ (rest.length + 1 = l.toNat + 3 → ∀ (front : List Byte) (hi lo : Byte), l :: rest = front ++ [hi, lo] →
              (byteSum front + (hi ++ lo) ≠ (65535 : BitVec 16) → rx.take (c :: cs) = (.hunt, .failed .linkCheck))
              ∧ (byteSum front + (hi ++ lo) = (65535 : BitVec 16) →
                ∀ (da ds sa ss k t : Byte) (body : List Byte), front = [l, da, ds, sa, ss, k, t] ++ body →
                rx.take (c :: cs) = (.hunt, .sound ⟨da, ds, sa, ss, k, t, body⟩))))))
  ∧ ∀ s : State,
    (s.store.tx = .idle → (∀ held, s.store.rx ≠ .receiving held) →
      exec (.receiverReady .storeLine) s = .next { s with store := { s.store with rx := .ready } })
    ∧ (∀ held, s.store.tx = .idle → s.store.rx = .receiving held → exec (.receiverReady .storeLine) s = .next s)
    ∧ (∀ m, s.store.tx = .ending m →
        exec (.receiverReady .storeLine) s = .next { s with store := { s.store with tx := .idle, rx := .ready } })
    ∧ (∀ k m, s.store.tx = .burst k m → exec (.receiverReady .storeLine) s = .next s)
    ∧ (∀ x, (∀ held, (s.link x).rx ≠ .receiving held) →
        exec (.receiverReady (.link x)) s = .next (s.setLink x { s.link x with rx := .ready }))
    ∧ (∀ x held, (s.link x).rx = .receiving held → exec (.receiverReady (.link x)) s = .next s)
    ∧ exec (.receiverReady .levelBus) s = .next s

/-- A telegram that fails steps 1 to 3, whether its characters show it or a gap ends it, raises its class: with no party
on the store line, against the lift on its link, against the shuttle whose turn it is on the level bus, where it is a
miss too and ends the turn; the receiver is back in HUNT (R118, R120, R141). Characters that end no telegram change the
receiver alone; characters in HUNT, and outside a turn's answer, change nothing. A gap, and on the level bus the
completion limit of a turn, that finds a telegram being received ends it as truncated, LINK CHECK, and where none is
being received changes nothing (R118, R140, R141; log 2). A telegram whose body cannot be that of its kind is a LINK
FORM fault, against its party or, on the store line, with no party (R120, step 8, Table 6-5); one whose body is over 48
bytes ends at its length byte as LINK FORM, for a shuttle as a miss (R120, step 2; R141; log 3). -/
def Obligations.FailedReceptionRaises : Prop :=
  (∀ (s : State) (first : Character) (rest : List Character), s.Rests →
      let cs := first :: rest
      (s.store.tx = .idle →
        (∀ c, s.store.rx.take cs = (.hunt, .failed c) → exec (.discardedTelegram .storeLine first rest) s
          = .next (State.raise { s with store := { s.store with rx := .hunt } } c none).finish)
        ∧ (∀ r, s.store.rx.take cs = (r, .nothing) → exec (.discardedTelegram .storeLine first rest) s
          = .next { s with store := { s.store with rx := r } }))
      ∧ (s.store.tx ≠ .idle → s.store.rx = .hunt → exec (.discardedTelegram .storeLine first rest) s = .next s)
      ∧ (∀ x,
        (∀ c, (s.link x).rx.take cs = (.hunt, .failed c) → exec (.discardedTelegram (.link x) first rest) s
          = .next ((s.setLink x { s.link x with rx := .hunt }).raise c (some (.lift x))).finish)
        ∧ (∀ r, (s.link x).rx.take cs = (r, .nothing) → exec (.discardedTelegram (.link x) first rest) s
          = .next (s.setLink x { s.link x with rx := r })))
      ∧ (∀ n, s.bus.turn = .awaiting n →
        (∀ c, s.bus.rx.take cs = (.hunt, .failed c) → exec (.discardedTelegram .levelBus first rest) s
            = .next ((s.turnEnded.raise c (some (.shuttle n))).miss n).finish)
          ∧ (∀ r, s.bus.rx.take cs = (r, .nothing) → exec (.discardedTelegram .levelBus first rest) s
            = .next { s with bus := { s.bus with rx := r } }))
      ∧ ((∀ n, s.bus.turn ≠ .awaiting n) → s.bus.rx = .hunt →
        exec (.discardedTelegram .levelBus first rest) s = .next s)
      ∧ exec (.turnAnswer cs) s = exec (.discardedTelegram .levelBus first rest) s)
  ∧ (∀ s : State, s.Rests →
      (s.store.tx = .idle → ∀ held, s.store.rx = .receiving held → exec (.telegramTruncated .storeLine) s
        = .next (State.raise { s with store := { s.store with rx := .hunt } } .linkCheck none).finish)
      ∧ ((s.store.tx = .idle → ∀ held, s.store.rx ≠ .receiving held) →
        exec (.telegramTruncated .storeLine) s = .next s)
      ∧ (∀ x held, (s.link x).rx = .receiving held → exec (.telegramTruncated (.link x)) s
        = .next ((s.setLink x { s.link x with rx := .hunt }).raise .linkCheck (some (.lift x))).finish)
      ∧ (∀ x, (∀ held, (s.link x).rx ≠ .receiving held) → exec (.telegramTruncated (.link x)) s = .next s)
      ∧ (∀ n held, s.bus.turn = .awaiting n → s.bus.rx = .receiving held →
        let t := ((s.turnEnded.raise .linkCheck (some (.shuttle n))).miss n).finish
        exec (.telegramTruncated .levelBus) s = .next t ∧ exec .turnCompletionLimit s = .next t)
      ∧ ((∀ n held, s.bus.turn = .awaiting n → s.bus.rx ≠ .receiving held) →
        exec (.telegramTruncated .levelBus) s = .next s ∧ exec .turnCompletionLimit s = .next s)
      ∧ (ReceiversFollow s → exec (.turnAnswer []) s = .next s))
  ∧ ((∀ (s : State) (p : Party) (tag a b : Byte), Hears s p →
      let failed : Host.Outcome State Fault Refusal := .next ((s.heard p).raise .linkForm (some p)).finish
      let overlong : Host.Outcome State Fault Refusal := match p with
        | .lift _ => failed
        | .shuttle n => .next ((s.turnEnded.raise .linkForm (some p)).miss n).finish
      (∀ r : ToteRec, (∃ x, p = .lift x) → exec (.placeAsk p tag a b (.record r)) s = failed)
      ∧ (∀ ids : List ToteId,
        (2 + 4 * ids.length ≤ 48 → ((∃ n, p = .shuttle n) ∨ ids.length ≠ b.toNat) →
          exec (.placeAsk p tag a b (.ids ids)) s = failed)
        ∧ (48 < 2 + 4 * ids.length → exec (.placeAsk p tag a b (.ids ids)) s = overlong
          ∧ exec (.placed p tag a ids) s = overlong ∧ exec (.fetched p tag a ids) s = overlong))
      ∧ (∀ body : List Byte, 48 < body.length → exec (.machineReport p tag a body) s = overlong)
      ∧ (∀ (x : Lift), p = .lift x →
        (∀ totes : List ToteRec, 48 < 1 + 6 * totes.length → exec (.load x tag totes) s = failed)
        ∧ (∀ ids : List ToteId, 48 < 1 + 4 * ids.length → exec (.unload x tag ids) s = failed)
        ∧ (∀ c : StateBody, c.fits = false → exec (.state x tag c) s = failed))
      ∧ (∀ (n : Level) (c : StateBody), p = .shuttle n →
        (c.fits = false → 4 + 6 * c.totes.length ≤ 48 → exec (.shuttleState n tag c) s = failed)
        ∧ (48 < 4 + 6 * c.totes.length → exec (.shuttleState n tag c) s = overlong)))
    ∧ ∀ (s : State) (h : StoreHdr) (a b : Byte), Listens s →
      let failed : Host.Outcome State Fault Refusal := .next (s.storeHunt.raise .linkForm none).finish
      (∀ body : List Byte, 48 < body.length → exec (.storeOrder h a b body) s = failed ∧ exec (.request h body) s = failed)
      ∧ (∀ l : List Byte, 46 < l.length → exec (.slotMapWrite h l) s = failed)
      ∧ (∀ l : List Byte, 45 < l.length → exec (.priorityListWrite h l) s = failed)
      ∧ (∀ ids : List ToteId, 11 < ids.length →
        exec (.streamAppend h a ids) s = failed ∧ exec (.streamCut h a ids) s = failed)
      ∧ (s.store.Matches h.aisle true → exec (.request h []) s = failed))

/-! ### The store line -/

/-- A store order by unique match for station 1 to 42: admitted at the tail of the machine's downstream queue, or
answered NOT-FORWARDED with the reason of R126; a station of 43 or above is a ROUTE fault and a NOT-FORWARDED UNMAPPED
(R123, R126, R134), the ROUTE raised behind the QUEUE OVERRUN of a NOT-FORWARDED that is lost, by the model's choice
(log 49); station 0 or a kind that is no order is a LINK FORM (R120). By group or masked match, or by none, it is
ignored (R122, R124). A NOT-FORWARDED to the store controller gives the reason and the destination, kind and tag of the
telegram not passed on, and carries its tag; it is admitted while fewer than 64 places of the upstream queue are in use,
else it joins the wait list of 16, else it is discarded and QUEUE OVERRUN is raised with no party (R129, R130, R134).
Steps 4 to 8 of a telegram that arrives on the line as its characters and passes steps 1 to 3: no match is no fault; by
unique match an unknown kind is a LINK FORM, then a station of 43 or above a ROUTE with its NOT-FORWARDED UNMAPPED, then
a LINK FORM for a kind that station 0, or a machine, does not take and for a STORE-POLL or REQUEST whose body does not
fit; by group or masked match a REQUEST to station 0 alone is taken, with an empty body a LINK FORM, and a frame of any
other kind ignored, an unknown one too, by the model's reading (log 20); and every telegram that passes does what its
command does (R120, R122, R123, R124). Stations 1 to 40 name shuttles, 41 and 42 the lifts. -/
def Obligations.StoreOrders : Prop :=
  (∀ (s : State) (h : StoreHdr) (station kind : Byte) (body : List Byte),
      Listens s → 0x60 ≤ kind.toNat → body.length ≤ 48 →
      let t : Tel := ⟨h.aisle, station, h.srcAisle, h.srcStation, kind, h.tag, .raw body⟩
      let u := s.storeHunt
      (s.store.Matches h.aisle true →
        (∀ n, partyOf station = some (.shuttle n) → (s.shuttle n).presence = .online → s.bus.queue.length < 32 →
          (s.waitingFor n).length < 4 →
          exec (.storeOrder h station kind body) s
            = .next { u with bus := { s.bus with queue := s.bus.queue ++ [⟨n, t, false⟩] } })
        ∧ (∀ x, partyOf station = some (.lift x) → (s.lift x).presence = .online →
          ((s.link x).down.filter (fun i => !i.own)).length < 6 → (s.link x).down.length < 8 →
          exec (.storeOrder h station kind body) s
            = .next (u.setLink x { s.link x with down := (s.link x).down ++ [⟨t, false, false⟩] }))
        ∧ (∀ p r, partyOf station = some p → s.NotAdmitted p r →
          exec (.storeOrder h station kind body) s = .next (u.sendNotForwarded r t).finish)
        ∧ (43 ≤ station.toNat →
          exec (.storeOrder h station kind body) s
            = .next ((u.sendNotForwarded .unmapped t).raise .route none).finish)
        ∧ (station = 0 → exec (.storeOrder h station kind body) s = .next (u.raise .linkForm none).finish)
        ∧ ∀ k : Byte, k.toNat < 0x60 → 1 ≤ station.toNat → station.toNat ≤ 42 →
          exec (.storeOrder h station k body) s = .next (u.raise .linkForm none).finish)
      ∧ (s.store.Matches h.aisle false → exec (.storeOrder h station kind body) s = .next u)
      ∧ (¬ s.store.Matches h.aisle true → ¬ s.store.Matches h.aisle false →
        exec (.storeOrder h station kind body) s = .next u))
  ∧ (∀ (s : State) (r : Reason) (t : Tel),
      let m := s.upward 0x40 t.tag (.notForwarded r t.dstAisle t.dstStation t.kind t.tag)
      (s.upstreamUsed < 64 →
        s.sendNotForwarded r t = { s with store := { s.store with upstream := s.store.upstream ++ [m] } })
      ∧ (64 ≤ s.upstreamUsed → s.store.nfWait.length < 16 →
        s.sendNotForwarded r t = { s with store := { s.store with nfWait := s.store.nfWait ++ [m] } })
      ∧ (64 ≤ s.upstreamUsed → 16 ≤ s.store.nfWait.length → s.sendNotForwarded r t = s.raise .queueOverrun none))
  ∧ (∀ (s : State) (first : Character) (rest : List Character) (f : Frame), s.Rests → s.store.tx = .idle →
      s.store.rx.take (first :: rest) = (.hunt, .sound f) →
      let o := exec (.discardedTelegram .storeLine first rest) s
      let u := s.storeHunt
      let ready : State := { s with store := { s.store with rx := .ready } }
      let h : StoreHdr := ⟨f.dstAisle, f.srcAisle, f.srcStation, f.tag⟩
      let linkForm : Prop := o = .next (u.raise .linkForm none).finish
      let report : Prop := 0x60 ≤ f.kind.toNat
      let known : Prop := report ∨ f.kind ∈ [0x10, 0x11, 0x12, 0x13, 0x20, 0x21, 0x22, 0x23, 0x24, 0x28, 0x29, 0x2A,
        0x30, 0x31, 0x32, 0x33, 0x34, 0x35, 0x36, 0x40, 0x50, 0x51, 0x52, 0x53, 0x54, 0x55]
      let request : Prop := (f.body = [] → linkForm) ∧ (f.body ≠ [] → o = exec (.request h f.body) ready)
      (s.store.Matches f.dstAisle true →
        (¬ known → linkForm)
        ∧ (f.dstStation = 0 →
          (f.kind = 0x50 → (∀ b, f.body = [b] → o = exec (.storePoll h b) ready) ∧ (f.body.length ≠ 1 → linkForm))
          ∧ (f.kind = 0x52 → request)
          ∧ (f.kind ≠ 0x50 → f.kind ≠ 0x52 → linkForm))
        ∧ (43 ≤ f.dstStation.toNat → known →
          o = .next ((u.sendNotForwarded .unmapped ⟨f.dstAisle, f.dstStation, f.srcAisle, f.srcStation, f.kind, f.tag,
            .raw f.body⟩).raise .route none).finish)
        ∧ (1 ≤ f.dstStation.toNat → f.dstStation.toNat ≤ 42 →
          (¬ report → linkForm) ∧ (report → o = exec (.storeOrder h f.dstStation f.kind f.body) ready)))
      ∧ (s.store.Matches f.dstAisle false →
        (f.dstStation = 0 → f.kind = 0x52 → request)
        ∧ ((f.dstStation ≠ 0 ∨ f.kind ≠ 0x52) → o = .next u))
      ∧ (¬ s.store.Matches f.dstAisle true → ¬ s.store.Matches f.dstAisle false → o = .next u))
  ∧ (∀ (b : Byte) (p : Party), partyOf b = some p ↔ b = p.station)
  ∧ (∀ n : Level, (Party.shuttle n).station = BitVec.ofNat 8 (n.val + 1))
  ∧ (Party.lift .a).station = 41 ∧ (Party.lift .b).station = 42 ∧ Lift.a.station = 41 ∧ Lift.b.station = 42
  ∧ (∀ p : Party, p.idx.val + 1 = p.station.toNat)
  ∧ (∀ s : State, s.storeHunt = { s with store := { s.store with rx := .hunt } })
  ∧ (∀ s : State, s.upstreamUsed = s.store.upstream.length + if s.work.reserved then 1 else 0)

/-- A STORE-POLL by unique match starts a burst of up to b telegrams, 8 at most, or, with b 0 or an empty queue, its END
at once, which gives the number of telegrams queued and the poll's tag; by group or masked match it is not answered
(R124, R132). When a telegram of a burst has been sent it leaves the upstream queue; a NOTICE raises the own-tag count.
The freed place goes to the waiting NOTICE, else to the oldest unsent CONFIRM-ASK, else, with no request waiting, to the
oldest NOT-FORWARDED of the wait list. The burst goes on, or ends with an END that counts what is queued then (R129,
R130, R132, R135). A freed place for which neither a NOTICE nor a CONFIRM-ASK waits goes to the head REQUEST: it is
executed, its ANSWER takes the place, and a NOT-FORWARDED only gets a place that is still free (R130, R133; log 6, log
18). Requests are served from the head while the head is one without an ANSWER or a place is free for its ANSWER, so
that one without an ANSWER is executed at once when it comes to the head (R133). A telegram admitted during the burst
may be sent in it (log 40), and the transmitter counts as sending from the STORE-POLL on (log 47), both by the model's
choice. -/
def Obligations.PollsAndFreedPlaces : Prop :=
  (∀ (s : State) (h : StoreHdr) (b : Byte), Listens s →
      (s.store.Matches h.aisle true → b ≠ 0 → s.store.upstream ≠ [] →
        exec (.storePoll h b) s
          = .next { s with store := { s.store with rx := .hunt, tx := .burst (min b.toNat 8) h.tag } })
      ∧ (s.store.Matches h.aisle true → (b = 0 ∨ s.store.upstream = []) →
        exec (.storePoll h b) s
          = .next { s with store := { s.store with
              rx := .hunt
              tx := .ending (s.upward 0x51 h.tag (.endCount (BitVec.ofNat 8 s.store.upstream.length))) } })
      ∧ (s.store.Matches h.aisle false → exec (.storePoll h b) s = .next { s with store := { s.store with rx := .hunt } }))
  ∧ (∀ (s : State) (left : Nat) (tag : Byte) (m : Tel) (ms : List Tel),
      s.Rests → s.store.tx = .burst left tag → s.store.upstream = m :: ms → ms.length < 64 →
      let goesOn (t : State) : State := { t with store := { t.store with
        tx := if left ≤ 1 ∨ t.store.upstream = [] then
            .ending (t.upward 0x51 tag (.endCount (BitVec.ofNat 8 t.store.upstream.length)))
          else .burst (left - 1) tag } }
      let u : State := { s with store := { s.store with
        upstream := ms
        ownTag := if m.kind = 0x54 then s.store.ownTag + 1 else s.store.ownTag } }
      (∀ w, s.store.noticeWait = some w →
        exec .upstreamTelegramSent s
          = .next (goesOn { u with store := { u.store with noticeWait := none, upstream := ms ++ [w] } }))
      ∧ (∀ w ws, s.store.noticeWait = none → s.unsentAsks = w :: ws →
        exec .upstreamTelegramSent s
          = .next (goesOn { u with store := { u.store with upstream := ms ++ [w] }, unsentAsks := ws }))
      ∧ (∀ w ws, s.store.noticeWait = none → s.unsentAsks = [] → s.requests = [] → s.store.nfWait = w :: ws →
        exec .upstreamTelegramSent s
          = .next (goesOn { u with store := { u.store with nfWait := ws, upstream := ms ++ [w] } }))
      ∧ (s.store.noticeWait = none → s.unsentAsks = [] → s.requests = [] → s.store.nfWait = [] →
        exec .upstreamTelegramSent s = .next (goesOn u))
      ∧ ∀ (q : ReqItem) (rest : List ReqItem), s.store.noticeWait = none → s.unsentAsks = [] → s.requests = q :: rest →
        q.answer = true →
        let p := State.execReq { u with work := { u.work with reserved := true } } q.req
        let t := p.1.finish.executed q.tag true q.req.code p.2.1 (p.1.finish.answerData q.req p.2.2)
        let served : State := { t with requests := rest }
        (rest = [] ∨ (64 ≤ t.store.upstream.length ∧ (rest.map (fun r => r.answer)).head? = some true)) →
        ((∀ w ws, t.store.nfWait = w :: ws → t.store.upstream.length < 64 →
            exec .upstreamTelegramSent s = .next (goesOn { served with store := { t.store with
              nfWait := ws
              upstream := t.store.upstream ++ [w] } }))
          ∧ ((t.store.nfWait = [] ∨ 64 ≤ t.store.upstream.length) →
            exec .upstreamTelegramSent s = .next (goesOn served))))
  ∧ (∀ (s : State) (left : Nat) (tag : Byte) (m : Tel) (ms : List Tel),
      s.Rests → s.store.tx = .burst left tag → s.store.upstream = m :: ms → ms.length < 64 →
      s.store.noticeWait = none → s.unsentAsks = [] →
      let goesOn (t : State) : State := { t with store := { t.store with
        tx := if left ≤ 1 ∨ t.store.upstream = [] then
            .ending (t.upward 0x51 tag (.endCount (BitVec.ofNat 8 t.store.upstream.length)))
          else .burst (left - 1) tag } }
      let t := State.serveRequests 4 { s with store := { s.store with
        upstream := ms
        ownTag := if m.kind = 0x54 then s.store.ownTag + 1 else s.store.ownTag } }
      (∀ w ws, t.store.nfWait = w :: ws → t.store.upstream.length < 64 →
        exec .upstreamTelegramSent s = .next (goesOn { t with store := { t.store with
          nfWait := ws
          upstream := t.store.upstream ++ [w] } }))
      ∧ ((t.store.nfWait = [] ∨ 64 ≤ t.store.upstream.length) →
        exec .upstreamTelegramSent s = .next (goesOn t)))
  ∧ (∀ s : State, s.serveRequests 0 = s)
  ∧ ∀ (s : State) (k : Nat),
    (s.requests = [] → s.serveRequests (k + 1) = s)
    ∧ ∀ (q : ReqItem) (rest : List ReqItem), s.requests = q :: rest →
      (q.answer = true → 64 ≤ s.upstreamUsed → s.serveRequests (k + 1) = s)
      ∧ ((q.answer = false ∨ s.upstreamUsed < 64) →
        let p := State.execReq { s with work := { s.work with reserved := q.answer } } q.req
        let t := p.1.finish.executed q.tag q.answer q.req.code p.2.1 (p.1.finish.answerData q.req p.2.2)
        s.serveRequests (k + 1) = State.serveRequests k { t with requests := rest })

/-- A REQUEST of a function and arguments is executed when it can be, with its ANSWER or without: its effect is made and
passed on, and its ANSWER names the function, carries the tag and stands at the tail of the upstream queue (R124, R133,
R135, R184). A code that Table 10-1 does not have is answered VOID, arguments that do not fit BAD-COUNT, both with empty
data, for the latter by the model's choice whatever the function (log 52), and neither changes anything else. A REQUEST
that cannot be executed yet waits: at the head with an ANSWER due and all 64 places of the upstream queue in use, or
behind such a one; with 4 requests waiting it is discarded, OVERRUN is handed on and QUEUE OVERRUN is raised with no
party (R130, R133). The codes that Table 10-1 has; the data of a MODE-SET is the mode it leaves, and of any other
request what its rule gives. -/
def Obligations.RequestsAreTaken : Prop :=
  (∀ (s : State) (h : StoreHdr) (answer : Bool) (c : Byte) (args : List Byte),
      Takes s h answer → args.length < 48 →
      let q := requestOf c args
      let x := s.storeHunt.executing h.tag answer q
      let p := x.execReq q
      (exec (.request h (c :: args)) s
        = .next (p.1.finish.executed h.tag answer q.code p.2.1 (p.1.finish.answerData q p.2.2)))
      ∧ (argumentsOf c args = none → exec (.request h (c :: args)) s = .next (x.executed h.tag answer c (some .void) []))
      ∧ (argumentsOf c args = some none →
        exec (.request h (c :: args)) s = .next (x.executed h.tag answer c (some .badCount) [])))
  ∧ (∀ (s : State) (h : StoreHdr) (answer : Bool) (c : Byte) (args : List Byte),
      Listens s → s.store.Matches h.aisle answer → args.length < 48 →
      (s.requests.length < 4 → 64 ≤ s.store.upstream.length →
        ((s.requests.map (fun r => r.answer)) ++ [answer]).head? = some true →
        exec (.request h (c :: args)) s
          = .next { s.storeHunt with requests := s.requests ++ [⟨answer, h.tag, requestOf c args⟩] })
      ∧ (4 ≤ s.requests.length →
        exec (.request h (c :: args)) s = .next ((s.storeHunt.handFlag .overrun).raise .queueOverrun none).finish))
  ∧ (∀ (s : State) (data : List Byte),
      (∀ m r, s.answerData (.modeSet m r) data = [s.mode.byte])
      ∧ ∀ q : Req, (∀ m r, q ≠ .modeSet m r) → s.answerData q data = data)
  ∧ ∀ (c : Byte) (args : List Byte),
    (argumentsOf c args = none ↔ c ∉ [0x01, 0x02, 0x10, 0x20, 0x21, 0x22, 0x23, 0x24, 0x30, 0x31, 0x32, 0x40, 0x41, 0x42,
      0x43, 0x50, 0x51, 0x52, 0x53, 0x54, 0x55, 0x56, 0x57, 0x58, 0x59, 0x5A, 0x5B])
    ∧ (argumentsOf c args = none → requestOf c args = .unknown c)
    ∧ (argumentsOf c args = some none → requestOf c args = .badForm c)
    ∧ ∀ q, argumentsOf c args = some (some q) → requestOf c args = q ∧ q.code = c

/-- The bytes of Table 10-1 and Table 10-2: the function code and the arguments that spell each request. A code and
arguments are read as a request only when they are the bytes that spell it (R184). Each command of a management function
is the REQUEST of these bytes, in every state (log 5). -/
def Obligations.RequestBytes : Prop :=
  (∀ m : List Byte, m.length = 40 → requestOf 0x01 (1 :: m) = .slotMap m)
    ∧ (∀ i ro pr al w st co df lo : Byte,
        requestOf 0x01 [2, i, ro, pr, al, w, st, co, df, lo] = .routeRow i ⟨ro, pr, al, w, st, co, df, lo⟩)
    ∧ (∀ t : Timing, requestOf 0x01 (3 :: timingBytes t) = .timing t)
    ∧ (∀ k d : Byte, requestOf 0x01 [4, k, d] = .disposition k d)
    ∧ (∀ (n : Byte) (l : List Byte), l.length = n.toNat → requestOf 0x01 (5 :: n :: l) = .priority l)
    ∧ (∀ g v m : Byte, requestOf 0x01 [6, g, v, m] = .address g v m)
    ∧ (∀ e : Byte, requestOf 0x01 [7, e] = .enables e) ∧ (∀ r : Byte, requestOf 0x01 [8, r] = .resumeDefault r)
    ∧ (∀ t : Byte, t ≠ 2 → requestOf 0x02 [t] = .tableRead t 0) ∧ (∀ i : Byte, requestOf 0x02 [2, i] = .tableRead 2 i)
    ∧ (∀ m r : Byte, requestOf 0x10 [m, r] = .modeSet m r)
    ∧ (∀ (i n : Byte) (l : List ToteId), l.length = n.toNat →
        requestOf 0x20 (i :: n :: l.flatMap be32) = .append i l ∧ requestOf 0x21 (i :: n :: l.flatMap be32) = .cut i l)
    ∧ (∀ (b : Byte) (id : ToteId), requestOf 0x22 (b :: be32 id) = .unbar b id
        ∧ requestOf 0x23 (b :: be32 id) = .confirm b id ∧ requestOf 0x24 (b :: be32 id) = .deny b id)
    ∧ (∀ (l c t : Byte) (r : ToteRec), requestOf 0x30 ([l, c, t] ++ toteBytes r) = .slotSet l c t r)
    ∧ (∀ l : Byte, requestOf 0x31 [l, 1] = .levelService l true ∧ requestOf 0x31 [l, 0] = .levelService l false)
    ∧ (∀ x : Lift, requestOf 0x32 [x.station, 1] = .liftService x true
        ∧ requestOf 0x32 [x.station, 0] = .liftService x false)
    ∧ (∀ c : Byte, requestOf 0x40 [c] = .clearFault c) ∧ requestOf 0x41 [] = .clearLead
    ∧ (∀ p : Byte, requestOf 0x42 [p] = .clearParty p) ∧ (∀ f : Byte, requestOf 0x43 [f] = .clearNotice f)
    ∧ (∀ a b : Byte, requestOf 0x50 [a, b] = .slotRead a b ∧ requestOf 0x51 [a, b] = .levelRange a b
        ∧ requestOf 0x52 [a, b] = .streamRead a b ∧ requestOf 0x57 [a, b] = .presenceRead a b)
    ∧ (∀ (x : Lift) (p : Byte), requestOf 0x53 [x.station] = .carriageRead x
        ∧ requestOf 0x54 [x.station, p] = .callRead x p)
    ∧ (∀ a : Byte, requestOf 0x55 [a] = .transferRead a ∧ requestOf 0x56 [a] = .faultRead a
        ∧ requestOf 0x58 [a] = .statsRead a ∧ requestOf 0x59 [a] = .statsClear a)
    ∧ requestOf 0x5A [] = .timeRead ∧ requestOf 0x5B [] = .summary
    ∧ (∀ w : BitVec 16, be16 w = [w.extractLsb' 8 8, w.extractLsb' 0 8])
    ∧ (∀ w : BitVec 32, be32 w = [w.extractLsb' 24 8, w.extractLsb' 16 8, w.extractLsb' 8 8, w.extractLsb' 0 8])
    ∧ (∀ r : ToteRec, toteBytes r = be32 r.id ++ [r.stream, r.dest])
    ∧ (∀ t : Timing, timingBytes t = [t.tick] ++ be16 t.shuttleBase ++ be16 t.shuttlePer ++ be16 t.liftBase
      ++ be16 t.liftPer ++ be16 t.holdShuttle ++ be16 t.holdLift ++ be16 t.confirmLimit ++ be16 t.visitBase
      ++ be16 t.visitPer ++ [t.missThreshold, t.probeInterval])
    ∧ (∀ (c : Byte) (a : List Byte), match requestOf c a with
      | .unknown k => k = c
      | .badForm k => k = c
      | .slotMap m => c = 0x01 ∧ m.length = 40 ∧ a = 1 :: m
      | .routeRow i w => c = 0x01
        ∧ a = [2, i, w.routed, w.primary, w.alternate, w.window, w.stray, w.confirm, w.dflt, w.lowMark]
      | .timing t => c = 0x01 ∧ a = 3 :: timingBytes t
      | .disposition k d => c = 0x01 ∧ a = [4, k, d]
      | .priority l => c = 0x01 ∧ l.length ≤ 255 ∧ a = [5, BitVec.ofNat 8 l.length] ++ l
      | .address g v m => c = 0x01 ∧ a = [6, g, v, m]
      | .enables e => c = 0x01 ∧ a = [7, e]
      | .resumeDefault r => c = 0x01 ∧ a = [8, r]
      | .tableRead t i => c = 0x02 ∧ ((t ≠ 2 ∧ i = 0 ∧ a = [t]) ∨ (t = 2 ∧ a = [t, i]))
      | .modeSet m r => c = 0x10 ∧ a = [m, r]
      | .append i l => c = 0x20 ∧ l.length ≤ 255 ∧ a = [i, BitVec.ofNat 8 l.length] ++ l.flatMap be32
      | .cut i l => c = 0x21 ∧ l.length ≤ 255 ∧ a = [i, BitVec.ofNat 8 l.length] ++ l.flatMap be32
      | .unbar i id => c = 0x22 ∧ a = i :: be32 id
      | .confirm k id => c = 0x23 ∧ a = k :: be32 id
      | .deny k id => c = 0x24 ∧ a = k :: be32 id
      | .slotSet l k t r => c = 0x30 ∧ a = [l, k, t] ++ toteBytes r
      | .levelService l o => c = 0x31 ∧ a = [l, if o then 1 else 0]
      | .liftService x o => c = 0x32 ∧ a = [x.station, if o then 1 else 0]
      | .clearFault k => c = 0x40 ∧ a = [k]
      | .clearLead => c = 0x41 ∧ a = []
      | .clearParty k => c = 0x42 ∧ a = [k]
      | .clearNotice k => c = 0x43 ∧ a = [k]
      | .slotRead l k => c = 0x50 ∧ a = [l, k]
      | .levelRange l k => c = 0x51 ∧ a = [l, k]
      | .streamRead i k => c = 0x52 ∧ a = [i, k]
      | .carriageRead x => c = 0x53 ∧ a = [x.station]
      | .callRead x k => c = 0x54 ∧ a = [x.station, k]
      | .transferRead k => c = 0x55 ∧ a = [k]
      | .faultRead k => c = 0x56 ∧ a = [k]
      | .presenceRead l k => c = 0x57 ∧ a = [l, k]
      | .statsRead k => c = 0x58 ∧ a = [k]
      | .statsClear k => c = 0x59 ∧ a = [k]
      | .timeRead => c = 0x5A ∧ a = []
      | .summary => c = 0x5B ∧ a = [])
    ∧ ∀ (s : State) (h : StoreHdr),
      let asked (body : List Byte) : Host.Outcome State Fault Refusal := exec (.request h body) s
      (∀ m : List Byte, m.length ≤ 46 → exec (.slotMapWrite h m) s = asked ([1, 1] ++ m))
      ∧ (∀ i ro pr al w st co df lo : Byte, exec (.routeTableWrite h i ⟨ro, pr, al, w, st, co, df, lo⟩) s
        = asked [1, 2, i, ro, pr, al, w, st, co, df, lo])
      ∧ (∀ t : Timing, exec (.timingTableWrite h t) s = asked ([1, 3] ++ timingBytes t))
      ∧ (∀ k d : Byte, exec (.dispositionTableWrite h k d) s = asked [1, 4, k, d])
      ∧ (∀ l : List Byte, l.length ≤ 45 →
        exec (.priorityListWrite h l) s = asked ([1, 5, BitVec.ofNat 8 l.length] ++ l))
      ∧ (∀ g v m : Byte, exec (.addressEntriesWrite h g v m) s = asked [1, 6, g, v, m])
      ∧ (∀ b : Byte, exec (.noticeEnablesWrite h b) s = asked [1, 7, b] ∧ exec (.resumeDefaultWrite h b) s = asked [1, 8, b])
      ∧ (∀ t i : Byte, t ≠ 2 → exec (.tableRead h t 0) s = asked [2, t] ∧ exec (.tableRead h 2 i) s = asked [2, 2, i])
      ∧ (∀ r : Byte, exec (.entryIntoRun h r) s = asked [0x10, 1, r] ∧ exec (.returnToRun h r) s = asked [0x10, 1, r]
        ∧ exec (.modeSetConfig h r) s = asked [0x10, 0, r] ∧ exec (.cleanupIntoConfig h r) s = asked [0x10, 0, r]
        ∧ exec (.entryIntoDrain h r) s = asked [0x10, 2, r] ∧ exec (.entryIntoHalt h r) s = asked [0x10, 3, r])
      ∧ exec (.resumeReissue h) s = asked [0x10, 1, 1] ∧ exec (.resumeRevoke h) s = asked [0x10, 1, 2]
      ∧ (∀ (i : Byte) (l : List ToteId), l.length ≤ 11 →
        exec (.streamAppend h i l) s = asked ([0x20, i, BitVec.ofNat 8 l.length] ++ l.flatMap be32)
        ∧ exec (.streamCut h i l) s = asked ([0x21, i, BitVec.ofNat 8 l.length] ++ l.flatMap be32))
      ∧ (∀ (b : Byte) (id : ToteId), exec (.unbar h b id) s = asked ([0x22, b] ++ be32 id)
        ∧ exec (.confirm h b id) s = asked ([0x23, b] ++ be32 id) ∧ exec (.deny h b id) s = asked ([0x24, b] ++ be32 id))
      ∧ (∀ (l c t : Byte) (r : ToteRec), exec (.slotSet h l c t r) s = asked ([0x30, l, c, t] ++ toteBytes r))
      ∧ (∀ l : Byte, exec (.levelServiceOn h l) s = asked [0x31, l, 1] ∧ exec (.levelServiceOff h l) s = asked [0x31, l, 0])
      ∧ (∀ x : Lift, exec (.liftServiceOn h x) s = asked [0x32, x.station, 1]
        ∧ exec (.liftServiceOff h x) s = asked [0x32, x.station, 0])
      ∧ (∀ b : Byte, exec (.clearFault h b) s = asked [0x40, b] ∧ exec (.clearParty h b) s = asked [0x42, b]
        ∧ exec (.clearNotice h b) s = asked [0x43, b])
      ∧ exec (.clearLead h) s = asked [0x41]
      ∧ (∀ a b : Byte, exec (.slotRead h a b) s = asked [0x50, a, b] ∧ exec (.levelRangeRead h a b) s = asked [0x51, a, b]
        ∧ exec (.streamRead h a b) s = asked [0x52, a, b] ∧ exec (.presenceRead h a b) s = asked [0x57, a, b])
      ∧ (∀ (x : Lift) (p : Byte), exec (.carriageAndVisitRead h x) s = asked [0x53, x.station]
        ∧ exec (.callQueueRead h x p) s = asked [0x54, x.station, p])
      ∧ (∀ a : Byte, exec (.transferTableRead h a) s = asked [0x55, a] ∧ exec (.faultRead h a) s = asked [0x56, a]
        ∧ exec (.statisticsRead h a) s = asked [0x58, a] ∧ exec (.statisticsReadAndClear h a) s = asked [0x59, a])
      ∧ exec (.aisleTimeRead h) s = asked [0x5A] ∧ exec (.statusSummary h) s = asked [0x5B]

/-! ### Telegrams of parties -/

/-- An IDLE is taken and changes nothing but its port, which on the level bus includes the look for the next turn
(R137); a report upward joins the upstream queue unchanged while fewer than 48 places are in use, else its sender is
answered NOT-FORWARDED FULL (R121, R129, R142). Where an answer goes: to a lift, as an own telegram at the tail of its
downstream queue while fewer than 8 places are in use, else it is discarded and QUEUE OVERRUN is raised against the lift
(R39, R128). To a shuttle, into the answer box of its level; in SERVICE and UNMAPPED it is discarded at once (R143). In
the box an answer about an entry takes the place of an unsent HOLD about the same entry, known by the handle alone by
the model's choice (log 46); else it stands behind the others, and when both places are in use the older answer is
discarded (R39; log 12). -/
def Obligations.IdleReportsAndAnswers : Prop :=
  (∀ (s : State) (p : Party) (tag kind : Byte) (body : List Byte), Hears s p →
      exec (.idle p tag) s = .next (s.heard p).finish
      ∧ (0x60 ≤ kind.toNat → body.length ≤ 48 →
        let t : Tel := ⟨0, 0, s.store.unique, p.station, kind, tag, .raw body⟩
        (s.store.upstream.length < 48 →
          exec (.machineReport p tag kind body) s
            = .next (State.finish { s.heard p with store := { s.store with upstream := s.store.upstream ++ [t] } }))
        ∧ (48 ≤ s.store.upstream.length →
          exec (.machineReport p tag kind body) s
            = .next ((s.heard p).sendParty p (s.toward p 0x40 tag (.notForwarded .full 0 0 kind tag)) none).finish)))
  ∧ ∀ (s : State) (m : Tel) (about : Option Handle),
    (∀ x, s.sendLift x m = s.sendParty (.lift x) m about)
    ∧ (∀ x,
      ((s.link x).down.length < 8 → s.sendParty (.lift x) m about
        = s.setLink x { s.link x with down := (s.link x).down ++ [⟨m, true, false⟩] })
      ∧ (8 ≤ (s.link x).down.length → s.sendParty (.lift x) m about = s.raise .queueOverrun (some (.lift x))))
    ∧ ∀ n,
      let r := s.shuttle n
      let put (box : List BoxItem) : Prop := s.sendParty (.shuttle n) m about = s.setShuttle n { r with box := box }
      let holds (i : BoxItem) : Prop := i.begun = false
        ∧ ∃ (h : Handle) (why : Reason), about = some h ∧ i.tel.body = .hold (BitVec.ofNat 8 h.val) why
      ((r.presence = .service ∨ r.presence = .unmapped) → s.sendParty (.shuttle n) m about = s)
      ∧ ((r.presence = .returning ∨ r.presence = .online ∨ r.presence = .absent) →
        (∀ before i after, r.box = before ++ i :: after → holds i → (∀ j ∈ before, ¬ holds j) →
          put (before ++ ⟨m, false⟩ :: after))
        ∧ ((∀ i ∈ r.box, ¬ holds i) → r.box.length < 2 → put (r.box ++ [⟨m, false⟩]))
        ∧ ((∀ i ∈ r.box, ¬ holds i) → 2 ≤ r.box.length → put (r.box.drop 1 ++ [⟨m, false⟩])))

/-- An ask is refused with the reason of the first check that fails, in the order of R28: mode, latch, presence, entry,
body, visit, census, routing, table space. A REFUSE carries the ask's tag and handle 255, a BUSY one the handle of the
entry; nothing else changes (R28, R29, R30, R177). What checks 5 to 8 find of an ask, as one chain of reasons in the
order of R30 to R32. The pair that a PLACE needs is the OUT pair of the active lift of the tote's stream, one slot of it
mapped (R30); the routing is NO-ROUTE for a stream that is not routed, STRAY for a stray of a stream with stray policy
REFUSE (R32). A tote record is valid with an ID that is not 0, a stream 0 to 16 and a destination 0 to 40, of which one
is 0 (R3). The entry of a party is the one that names it (R25), and a kind asked is named by the kind code of its ask.
The entry an ask would make: its party and kind, in WAITING, the wait flag set by any byte but 0, the tag, the aisle
time as ask stamp, the count byte as count wanted, and its items; its reason and timer are written when it is decided
(R25, R38). The items of a lift PLACE are the carriage records of the totes it names, in the order named (R25). -/
def Obligations.AsksAreRefusedInOrder : Prop :=
  (∀ (s : State) (p : Party) (tag wait count : Byte) (a : Instr) (e : Entry) (bad : Option Reason),
      Hears s p → AskOf (s.heard p) p tag wait count a e bad →
      let u := s.heard p
      let refused (r : Reason) (handle : Byte) : Host.Outcome State Fault Refusal :=
        .next (u.sendParty p (s.toward p 0x2A tag (.refuse e.kind.ask r handle)) none).finish
      (s.mode = .config → exec a s = refused .config 255)
      ∧ (s.mode = .halt → exec a s = refused .halted 255)
      ∧ (s.mode = .drain → exec a s = refused .draining 255)
      ∧ (s.mode = .run → s.latch p = true → exec a s = refused .partyFault 255)
      ∧ (s.mode = .run → s.latch p = false →
        (∀ n, p = .shuttle n → ((u.shuttle n).presence = .returning → exec a s = refused .notReady 255)
          ∧ ((u.shuttle n).presence = .service → exec a s = refused .service 255))
        ∧ (∀ x, p = .lift x → ((s.lift x).presence = .returning → exec a s = refused .notReady 255)
          ∧ ((s.lift x).presence = .service → exec a s = refused .service 255))
        ∧ (s.Online p →
          (∀ k f, s.entryOf p = some (k, f) → exec a s = refused .busy (BitVec.ofNat 8 k.val))
          ∧ (s.Entryless p → ∀ r, bad = some r → exec a s = refused r 255)
          ∧ (s.Entryless p → bad = none → (∀ k, s.entry k ≠ none) → exec a s = refused .tableFull 255))))
  ∧ (∀ (s : State),
      (∀ (n : Level) (count : Byte) (r : ToteRec), s.shuttlePlaceFailure n count r =
        if validTote r = false ∨ r.dest ≠ 0 then some .badTote
        else if count ≠ 1 then some .badCount
        else if s.noMappedPair n r = true then some .badSlot
        else if s.inCensus r.id none = true then some .duplicate
        else s.routingFailure r)
      ∧ (∀ (x : Lift) (count : Byte) (ids : List ToteId), s.liftPlaceFailure x count ids =
        if 0 ∈ ids ∨ ¬ ids.Nodup then some .badTote
        else if count ≠ 1 ∧ count ≠ 2 then some .badCount
        else match (s.lift x).visit with
          | none => some .noVisit
          | some v =>
            if ∃ id ∈ ids, ∀ r ∈ (s.lift x).carriage, ¬ (r.id = id ∧ r.dest = BitVec.ofNat 8 (v.level.val + 1)) then
              some .badTote
            else if v.p < count.toNat then some .badCount
            else none)
      ∧ (∀ (n : Level) (count : Byte), s.fetchFailure (.shuttle n) count = if count = 1 then none else some .badCount)
      ∧ (∀ (x : Lift) (count : Byte), s.fetchFailure (.lift x) count =
        if count ≠ 1 ∧ count ≠ 2 then some .badCount
        else match (s.lift x).visit with
          | none => some .noVisit
          | some v =>
            if v.f < count.toNat ∨ 2 ≤ (s.lift x).carriage.length then some .badCount
            else if ∀ c ∈ outPair x, (s.slot v.level c).mapped = false then some .badSlot
            else none))
  ∧ (∀ (s : State) (n : Level) (r : ToteRec) (i : StreamNo), r.stream.toNat = i.val →
      (s.noMappedPair n r = true ↔ ∀ c : SlotCode, c.outLift = some (s.stream i).active → s.slot n c = .off)
      ∧ s.routingFailure r =
        if (s.stream i).row.routed = false then some .noRoute
        else if s.isStray r = true ∧ (s.stream i).row.stray = .refuse then some .stray
        else none)
  ∧ (∀ r : ToteRec, validTote r = true ↔
      r.id ≠ 0 ∧ r.stream.toNat ≤ 16 ∧ r.dest.toNat ≤ 40 ∧ (r.stream = 0 ∨ r.dest = 0))
  ∧ (∀ (s : State) (p : Party),
      (s.entryOf p = none ↔ s.Entryless p)
      ∧ ∀ h e, s.entryOf p = some (h, e) ↔
        s.entry h = some e ∧ e.party = p ∧ ∀ k, k < h → ∀ f ∈ s.entry k, f.party ≠ p)
  ∧ Kind.place.ask = 0x20 ∧ Kind.fetch.ask = 0x21
  ∧ (∀ (s : State) (p : Party) (k : Kind) (tag wait count : Byte) (items : List Item),
      newEntry s p k tag wait count items
        = { party := p, kind := k, phase := .waiting .full, wait := decide (wait ≠ 0), tag := tag, askStamp := s.time,
            count := count.toNat, items := items, timer := 0 })
  ∧ ∀ (s : State) (x : Lift) (ids : List ToteId), (∀ id ∈ ids, ∃ r ∈ (s.lift x).carriage, r.id = id) →
      (s.namedItems x ids).map (fun i => i.tote.id) = ids
      ∧ ∀ i ∈ s.namedItems x ids, i.tote ∈ (s.lift x).carriage ∧ i.slot = none ∧ i.conf = .none

/-- An ask that passes checks 1 to 9 takes the lowest free handle and is decided at check 10: granted, handed to the
confirm unit, held, or, with its wait flag clear, refused with the same reason and no entry made. The last-expired
handle is cleared when an entry is made (R25, R27, R28, R36 to R38, R106). -/
def Obligations.AsksAreDecided : Prop :=
  ∀ (s : State) (p : Party) (tag wait count : Byte) (a : Instr) (e : Entry) (h : Handle),
    Hears s p → AskOf (s.heard p) p tag wait count a e none →
    s.mode = .run → s.latch p = false → s.Online p → s.Entryless p →
    s.entry h = none → (∀ k, k < h → s.entry k ≠ none) →
    let u := s.heard p
    let v := u.setLastExpired p none
    (∀ items, u.verdict e = .grant items → exec a s = .next (v.grant h e items).finish)
    ∧ (∀ items, u.verdict e = .confirm items → exec a s = .next (v.enterConfirming h e items).finish)
    ∧ (∀ r, u.verdict e = .wait r → wait ≠ 0 → exec a s = .next (v.hold h e r).finish)
    ∧ (∀ r, u.verdict e = .wait r → wait = 0 →
      exec a s = .next (u.sendParty p (s.toward p 0x2A tag (.refuse e.kind.ask r 255)) none).finish)

/-- Index, eligibility and stray (R89 to R91): a tote of stream 0 is always eligible; a tote of stream i from 1 to 16 is
eligible exactly when its ID stands in the release list of stream i at a position below the stream's window and the
entry there is not barred; it is a stray exactly when its ID stands nowhere in that list. -/
def Obligations.Eligibility : Prop :=
  ∀ (s : State) (r : ToteRec),
    (r.stream = 0 → s.eligible r = true ∧ s.isStray r = false)
    ∧ ∀ i : StreamNo, i ≠ 0 → r.stream.toNat = i.val →
      (s.eligible r = true ↔ ∃ k e, (s.stream i).list[k]? = some e ∧ e.id = r.id ∧ e.barred = false
        ∧ k < (s.stream i).row.window.toNat ∧ ∀ j f, j < k → (s.stream i).list[j]? = some f → f.id ≠ r.id)
      ∧ (s.isStray r = true ↔ ∀ e ∈ (s.stream i).list, e.id ≠ r.id)

/-- Custody of a stream at a lift: totes of the stream with destination 0 alone count, the model's reading for stream 0,
whose number inbound records carry too (R94; log 22). The wanted lift: from the alternate it is the primary only once
the primary is ONLINE (R96; log 10). The evaluation switches the active lift to the wanted one when there is no custody
at the lift left, marks the stream switch pending when there is, and clears the mark when the two are the same (R96,
R97, R98). -/
def Obligations.CustodyAndSwitches : Prop :=
  ∀ (s : State) (i : StreamNo),
    let of (r : ToteRec) : Prop := r.dest = 0 ∧ r.stream.toNat = i.val
    let old := s.stream i
    (∀ x, s.custody i x = true ↔
      (∃ n c t, c.outLift = some x ∧ (s.slot n c).content = some t ∧ of t.tote)
      ∨ (∃ h n, ∃ e ∈ s.entry h, e.party = .shuttle n ∧ e.kind = .place ∧ e.phase.isGranted = true
        ∧ ∃ j ∈ e.items, of j.tote ∧ ∃ l c, j.slot = some (l, c) ∧ c.outLift = some x)
      ∨ (∃ h, ∃ e ∈ s.entry h, e.party = .lift x ∧ e.kind = .fetch ∧ e.phase.isGranted = true
        ∧ ∃ j ∈ e.items, of j.tote ∧ ∃ before r after, old.list = before ++ r :: after ∧ r.id = j.tote.id
          ∧ r.pledged = true ∧ ∀ q ∈ before, q.id ≠ j.tote.id)
      ∨ ∃ r ∈ (s.lift x).carriage, of r)
    ∧ (∀ y, old.active = old.row.primary → old.row.alternate = some y →
      s.wanted i = if (s.lift old.row.primary).presence = .service then y else old.row.primary)
    ∧ (old.active = old.row.primary → old.row.alternate = none → s.wanted i = old.row.primary)
    ∧ (old.active ≠ old.row.primary →
      s.wanted i = if (s.lift old.row.primary).presence = .online then old.row.primary else old.active)
    ∧ (s.wanted i = old.active → old.switchPending = false → s.evalStream i = s)
    ∧ (s.wanted i = old.active → old.switchPending = true →
      s.evalStream i = (s.setStream i { old with switchPending := false }).wantReeval)
    ∧ (s.wanted i ≠ old.active → s.custody i old.active = true →
      s.evalStream i = s.setStream i { old with switchPending := true })
    ∧ (s.wanted i ≠ old.active → s.custody i old.active = false →
      s.evalStream i = (s.setStream i { old with active := s.wanted i, switchPending := false }).wantReeval)

/-- Check 10 makes the choice of the entry's party and kind, at the level of the party (R28). The choice for a shuttle:
its PLACE waits for a blocked switch-over with ROUTE, takes place 1 before place 2 of the active lift's pair, waits with
FULL when neither is OPEN, empty and unclaimed, and with RESERVE when the tote is not eligible and the other place holds
or awaits one that is not; its FETCH takes the older of the totes that stand OPEN and unclaimed in the IN pair, place 1
at a tie, or waits with EMPTY (R33, R34). The choice for a lift: its PLACE matches the named totes in order with the
free IN slots in place order, as far as they go, or waits with FULL; its FETCH takes, of the totes fetchable in its own
pair, the first in order of index, placement stamp and place, as many as wanted and as the carriage has places for; a
tote of a stream with confirm on sends them all to confirmation; with none fetchable it waits, with EMPTY when no OPEN
slot of the pair holds a tote, else with NOT-ELIGIBLE (R35, R36, R92). What RESERVE looks at: the content of the other
place, whatever its state, and a PLACE claim there, whose entry's tote it is. The order of candidates: the lower index
in the release list first, 255 for a tote of stream 0, then the older placement stamp, then the lower place. A tote is
confirmed when the row of its stream has confirm on (R105). -/
def Obligations.ChoicesOfSlots : Prop :=
  (∀ (s : State) (n : Level),
      (∀ (i : Item) (k : StreamNo), i.tote.stream.toNat = k.val →
        let x := (s.stream k).active
        let (one, two) := match x with
          | .a => (SlotCode.a1, SlotCode.a2)
          | .b => (SlotCode.b1, SlotCode.b2)
        let free (c : SlotCode) : Prop := s.slot n c = .opened none none
        ((s.stream k).switchPending = true → s.chooseShuttlePlace n i = .wait .route)
        ∧ ((s.stream k).switchPending = false →
          (¬ free one → ¬ free two → s.chooseShuttlePlace n i = .wait .full)
          ∧ (free one → (s.eligible i.tote = true ∨ s.blocksReserve n two = false) →
            s.chooseShuttlePlace n i = .grant [{ i with slot := some (n, one) }])
          ∧ (¬ free one → free two → (s.eligible i.tote = true ∨ s.blocksReserve n one = false) →
            s.chooseShuttlePlace n i = .grant [{ i with slot := some (n, two) }])
          ∧ (free one → s.eligible i.tote = false → s.blocksReserve n two = true →
            s.chooseShuttlePlace n i = .wait .reserve)
          ∧ (¬ free one → free two → s.eligible i.tote = false → s.blocksReserve n one = true →
            s.chooseShuttlePlace n i = .wait .reserve)))
      ∧ (let granted (c : SlotCode) (t : Content) : Verdict := .grant [⟨t.tote, some (n, c), .none⟩]
        ((s.slot n .in1).ready = none → (s.slot n .in2).ready = none → s.chooseShuttleFetch n = .wait .empty)
        ∧ (∀ t, (s.slot n .in1).ready = some t → (s.slot n .in2).ready = none → s.chooseShuttleFetch n = granted .in1 t)
        ∧ (∀ t, (s.slot n .in1).ready = none → (s.slot n .in2).ready = some t → s.chooseShuttleFetch n = granted .in2 t)
        ∧ (∀ t u, (s.slot n .in1).ready = some t → (s.slot n .in2).ready = some u →
          s.chooseShuttleFetch n
            = if (s.time - t.stamp).toNat < (s.time - u.stamp).toNat then granted .in2 u else granted .in1 t)))
  ∧ (∀ (s : State) (x : Lift) (n : Level),
      (∀ items : List Item,
        let slotted (i : Item) (c : SlotCode) : Item := { i with slot := some (n, c) }
        let free (c : SlotCode) : Prop := s.slot n c = .opened none none
        (¬ free .in1 → ¬ free .in2 → s.chooseLiftPlace n items = .wait .full)
        ∧ (∀ i is, items = i :: is → free .in1 → ¬ free .in2 → s.chooseLiftPlace n items = .grant [slotted i .in1])
        ∧ (∀ i is, items = i :: is → ¬ free .in1 → free .in2 → s.chooseLiftPlace n items = .grant [slotted i .in2])
        ∧ (∀ i, items = [i] → free .in1 → free .in2 → s.chooseLiftPlace n items = .grant [slotted i .in1])
        ∧ (∀ i j, items = [i, j] → free .in1 → free .in2 →
          s.chooseLiftPlace n items = .grant [slotted i .in1, slotted j .in2]))
      ∧ (∀ count : Nat, 1 ≤ count → (s.lift x).carriage.length < 2 →
        let room := min count (2 - (s.lift x).carriage.length)
        let chosen (l : List (SlotCode × Content)) : Verdict :=
          if l.any (fun c => s.needsConfirm c.2.tote) then
            .confirm (l.map (fun c => ⟨c.2.tote, none, if s.needsConfirm c.2.tote then .asked else .none⟩))
          else .grant (l.map (fun c => ⟨c.2.tote, some (n, c.1), .none⟩))
        (s.fetchables x n = [] → s.chooseLiftFetch x n count
          = .wait (if (outPair x).any (fun c => (s.slot n c).isOpen && (s.slot n c).content.isSome) then .notEligible
              else .empty))
        ∧ (∀ c, s.fetchables x n = [c] → s.chooseLiftFetch x n count = chosen [c])
        ∧ (∀ c d, s.fetchables x n = [c, d] →
          let (f, g) := if s.candidateBefore d c then (d, c) else (c, d)
          s.chooseLiftFetch x n count = chosen (if room = 1 then [f] else [f, g])))
      ∧ ∀ c t, (c, t) ∈ s.fetchables x n ↔
        c.outLift = some x ∧ s.slot n c = .opened (some t) none ∧ s.eligible t.tote = true
          ∧ ∀ h, ∀ e ∈ s.entry h, e.phase = .confirming → ∀ i ∈ e.items, i.tote.id ≠ t.tote.id)
  ∧ (∀ (s : State) (n : Level) (c : SlotCode), s.blocksReserve n c = true ↔
      (∃ t : Content, s.eligible t.tote = false ∧ ((∃ claim, s.slot n c = .opened (some t) claim)
        ∨ (∃ cause expired reported, s.slot n c = .doubt (some t) cause expired reported) ∨ s.slot n c = .fenced (some t)))
      ∨ ∃ content k e, s.slot n c = .opened content (some k) ∧ k.kind = .place ∧ s.entry k.handle = some e
        ∧ ∃ i ∈ e.items, i.tote.id = k.toteId ∧ s.eligible i.tote = false)
  ∧ (∀ (s : State) (a b : SlotCode × Content) (ka kb : Nat),
      let index (r : ToteRec) (k : Nat) : Prop := (r.stream = 0 ∧ k = 255) ∨ ∃ i : StreamNo, i ≠ 0
        ∧ r.stream.toNat = i.val ∧ (∃ e, (s.stream i).list[k]? = some e ∧ e.id = r.id)
        ∧ ∀ j f, j < k → (s.stream i).list[j]? = some f → f.id ≠ r.id
      let age (c : SlotCode × Content) : Nat := (s.time - c.2.stamp).toNat
      index a.2.tote ka → index b.2.tote kb → (s.candidateBefore a b = true ↔ ka < kb ∨ (ka = kb ∧
        (age b < age a ∨ (a.2.stamp = b.2.stamp ∧ a.1.byte.toNat < b.1.byte.toNat)))))
  ∧ (∀ (s : State) (r : ToteRec) (i : StreamNo), r.stream.toNat = i.val → s.needsConfirm r = (s.stream i).row.confirm)
  ∧ ∀ (s : State) (e : Entry),
    (∀ n i is, e.party = .shuttle n → e.kind = .place → e.items = i :: is → s.verdict e = s.chooseShuttlePlace n i)
    ∧ (∀ n, e.party = .shuttle n → e.kind = .fetch → s.verdict e = s.chooseShuttleFetch n)
    ∧ ∀ x v, e.party = .lift x → (s.lift x).visit = some v →
      (e.kind = .place → s.verdict e = s.chooseLiftPlace v.level e.items)
      ∧ (e.kind = .fetch → s.verdict e = s.chooseLiftFetch x v.level e.count)

/-- A grant, as one step (R8, R37): the entry is GRANTED with its items and the grant stamp, its act timer at the act
limit for the totes granted; each granted slot that was OPEN and unclaimed takes a claim of the entry's kind, handle and
tote; no other slot and no other entry changes, nor anything else but the streams and the port of the GO. The GO names
handle, kind, slots and totes. For a lift's FETCH the release entries of the granted totes of streams 1 to 16 are
pledged, and no stream changes otherwise (R37, R85). A hold (R38): the entry waits with the reason and its hold timer,
and the HOLD names handle and reason. An entry into CONFIRMING, as one step (R106, R107): the entry is CONFIRMING with
its items, each asked or none, and the confirm timer; a HOLD CONFIRM goes to the lift; and for each asked tote a
CONFIRM-ASK with the ask's tag, handle, tote, stream, lift and visit level is admitted at the tail of the upstream queue
while fewer than 64 places are in use, the others being kept unsent in the same order. -/
def Obligations.GrantsHoldsAndConfirmations : Prop :=
  ∀ (s : State) (h : Handle) (e : Entry) (items : List Item),
    let t := s.grant h e items
    let limit : Ticks := match e.party with
      | .shuttle _ => s.timing.shuttleBase.zeroExtend 32 + s.timing.shuttlePer.zeroExtend 32 * BitVec.ofNat 32 items.length
      | .lift _ => s.timing.liftBase.zeroExtend 32 + s.timing.liftPer.zeroExtend 32 * BitVec.ofNat 32 items.length
    t.entry h = some { e with phase := .granted s.time, items := items, timer := limit }
    ∧ (∀ k, k ≠ h → t.entry k = s.entry k)
    ∧ (∀ n c, (∀ i ∈ items, i.slot ≠ some (n, c)) → t.slot n c = s.slot n c)
    ∧ ((items.filterMap (fun i => i.slot)).Nodup → ∀ i ∈ items, ∀ n c content, i.slot = some (n, c) →
      s.slot n c = .opened content none → t.slot n c = .opened content (some ⟨e.kind, h, i.tote.id⟩))
    ∧ t.time = s.time ∧ t.lastExpired = s.lastExpired ∧ t.stats = s.stats ∧ t.coord = s.coord ∧ t.modeCtl = s.modeCtl
    ∧ t.faults = s.faults ∧ t.notices = s.notices ∧ t.store = s.store ∧ t.requests = s.requests
    ∧ (∃ u : State, t = (u.sendParty e.party (s.toward e.party 0x28 e.tag (.go (BitVec.ofNat 8 h.val) e.kind.ask
        (items.filterMap (fun i => i.slot.map (fun a => (a.1, a.2, i.tote.id)))))) (some h)).touch
      ∧ u = { s with table := u.table, slots := u.slots, streams := u.streams })
    ∧ (let lifted : Bool := match e.party, e.kind with
        | .lift _, .fetch => true
        | _, _ => false
      ∀ i : StreamNo, t.stream i = { s.stream i with list := (s.stream i).list.map (fun r =>
        if lifted = true ∧ i ≠ 0 ∧ ∃ j ∈ items, j.tote.id = r.id ∧ j.tote.stream.toNat = i.val then
          { r with pledged := true } else r) })
    ∧ (∀ r, s.hold h e r = (s.setEntry h (some { e with
        phase := .waiting r
        timer := match e.party with
          | .shuttle _ => s.timing.holdShuttle.zeroExtend 32
          | .lift _ => s.timing.holdLift.zeroExtend 32 })).sendParty e.party
      (s.toward e.party 0x29 e.tag (.hold (BitVec.ofNat 8 h.val) r)) (some h))
    ∧ (let u := (s.setEntry h (some { e with
          phase := .confirming, items := items, timer := s.timing.confirmLimit.zeroExtend 32 })).sendParty e.party
        (s.toward e.party 0x29 e.tag (.hold (BitVec.ofNat 8 h.val) .confirm)) (some h)
      let level : Byte := match e.party with
        | .shuttle _ => 0
        | .lift x => match (s.lift x).visit with
          | none => 0
          | some v => BitVec.ofNat 8 (v.level.val + 1)
      let asks := (items.filter (fun i => i.conf = .asked)).map (fun i => s.upward 0x55 e.tag
        (.confirmAsk (BitVec.ofNat 8 h.val) i.tote.id i.tote.stream e.party.station level))
      let room := 64 - s.upstreamUsed
      s.enterConfirming h e items = State.touch { u with
        store := { s.store with upstream := s.store.upstream ++ asks.take room }
        unsentAsks := s.unsentAsks ++ asks.drop room })

/-- A PLACED or FETCHED, judged in the order of R40: a lift that is not ONLINE, the count, the tote IDs, the count first
by the model's choice (log 38); then the party's own entry with the named handle decides, a completion when it is
GRANTED, of the reported kind, and every named tote is one of its granted totes, else an ungranted act; then the
last-expired handle, a late report; else an ungranted act (R40, R47, R48, R60). The REFUSE of either is about no entry,
so that an unsent HOLD stays beside it in the box, the model's choice (log 50). A QUIT removes the party's own entry
with the named handle, and is not answered; else it is refused LATE when the handle is the party's last-expired handle
and NO-GRANT otherwise, with no fault (R44, R60). A late report sets the reported tote of each slot in DOUBT whose
expired claim is the party's, carries the handle and has one of the totes reported, of every such slot by the model's
choice, and changes no slot otherwise (R11, R47; log 37). -/
def Obligations.ReportsAndQuitsAreJudged : Prop :=
  (∀ (s : State) (p : Party) (k : Kind) (tag handle : Byte) (ids : List ToteId), Hears s p → 2 + 4 * ids.length ≤ 48 →
      let a : Instr := match k with
        | .place => .placed p tag handle ids
        | .fetch => .fetched p tag handle ids
      let code : Byte := match k with
        | .place => 0x22
        | .fetch => 0x23
      let u := s.heard p
      let refused (r : Reason) (hd : Byte) : State :=
        u.sendParty p (s.toward p 0x2A tag (.refuse code r hd)) none
      let ungranted := (refused .noGrant handle).raise .ungrantedAct (some p)
      (∀ x, p = .lift x →
        ((s.lift x).presence = .returning → exec a s = .next (refused .notReady handle).finish)
        ∧ ((s.lift x).presence = .service → exec a s = .next (refused .service handle).finish))
      ∧ ((∀ x, p = .lift x → (s.lift x).presence = .online) →
        ((ids.length ≠ 1 ∧ ids.length ≠ 2) → exec a s = .next (refused .badCount 255).finish)
        ∧ ((ids.length = 1 ∨ ids.length = 2) →
          ((0 ∈ ids ∨ ¬ ids.Nodup) → exec a s = .next (refused .badTote 255).finish)
          ∧ (0 ∉ ids → ids.Nodup →
            (∀ h e, s.entryOf p = some (h, e) → handle = BitVec.ofNat 8 h.val →
              (∀ g, e.phase = .granted g → e.kind = k → (∀ id ∈ ids, ∃ i ∈ e.items, i.tote.id = id) →
                exec a s = .next (u.complete h e g ids).finish)
              ∧ ((e.phase.isGranted = false ∨ e.kind ≠ k ∨ ∃ id ∈ ids, ∀ i ∈ e.items, i.tote.id ≠ id) →
                exec a s = .next ungranted.finish))
            ∧ ((∀ h e, s.entryOf p = some (h, e) → handle ≠ BitVec.ofNat 8 h.val) →
              (∀ h, s.lastExpiredOf p = some h → handle = BitVec.ofNat 8 h.val →
                exec a s = .next (((refused .late handle).reportTotes p h ids).raise .lateReport (some p)).finish)
              ∧ ((∀ h, s.lastExpiredOf p = some h → handle ≠ BitVec.ofNat 8 h.val) →
                exec a s = .next ungranted.finish))))))
  ∧ (∀ (s : State) (p : Party) (tag handle : Byte), Hears s p →
      let u := s.heard p
      let refused (r : Reason) : Host.Outcome State Fault Refusal :=
        .next (u.sendParty p (s.toward p 0x2A tag (.refuse 0x24 r handle)) none).finish
      (∀ x, p = .lift x → ((s.lift x).presence = .returning → exec (.quit p tag handle) s = refused .notReady)
        ∧ ((s.lift x).presence = .service → exec (.quit p tag handle) s = refused .service))
      ∧ ((∀ x, p = .lift x → (s.lift x).presence = .online) →
        (∀ h e, s.entryOf p = some (h, e) → handle = BitVec.ofNat 8 h.val →
          exec (.quit p tag handle) s = .next (u.removeEntry h e).finish)
        ∧ ((∀ h e, s.entryOf p = some (h, e) → handle ≠ BitVec.ofNat 8 h.val) →
          (∀ h, s.lastExpiredOf p = some h → handle = BitVec.ofNat 8 h.val → exec (.quit p tag handle) s = refused .late)
          ∧ ((∀ h, s.lastExpiredOf p = some h → handle ≠ BitVec.ofNat 8 h.val) →
            exec (.quit p tag handle) s = refused .noGrant))))
  ∧ ∀ (s : State) (p : Party) (h : Handle) (ids : List ToteId),
    let t := s.reportTotes p h ids
    t = { s with slots := t.slots }
    ∧ ∀ n c, t.slot n c = match s.slot n c with
      | .doubt content .actTimeout (some k) r =>
        .doubt content .actTimeout (some k) (if k.party = p ∧ k.handle = h ∧ k.toteId ∈ ids then some k.toteId else r)
      | v => v

/-- What a completion does (R41, R42, R43, R53): each named tote is placed into its granted slot with the aisle time as
its placement stamp, or taken out of it, and the claims of the granted totes it does not name are removed with the
content unchanged; the entry goes, the party's statistics take the act duration, and no other entry and no other slot
changes. The carriage of a lift loses the placed totes, and takes the fetched ones behind the others in the order named.
A lift's FETCHED removes the release entries of the totes it names and counts them as released; the pledges of the
others end; a list that falls below its low mark sets the low marker and hands on STREAM-LOW (R85, R86, R88, R193). A
lift's visit has its planned count of the kind lowered by the totes named; it ends when both counts are 0, and in DRAIN
in any case; and in DRAIN, with no entry and no visit left, the aisle returns to CONFIG (R69, R162). Nothing else
changes; active lifts, hold queue and call queues are to be brought up to date (R20, R52). -/
def Obligations.Completions : Prop :=
  ∀ (s : State) (h : Handle) (e : Entry) (g : Stamp) (ids : List ToteId), s.entry h = some e →
    (e.items.filterMap (fun i => i.slot)).Nodup → (e.items.map (fun i => i.tote.id)).Nodup →
    let t := s.complete h e g ids
    t.entry h = none ∧ (∀ k, k ≠ h → t.entry k = s.entry k)
    ∧ (∀ i ∈ e.items, ∀ n c, i.slot = some (n, c) →
      (i.tote.id ∈ ids → t.slot n c = .opened (match e.kind with
        | .place => some ⟨i.tote, s.time⟩
        | .fetch => none) none)
      ∧ (i.tote.id ∉ ids → ∀ content kind id, s.slot n c = .opened content (some ⟨kind, h, id⟩) →
        t.slot n c = .opened content none))
    ∧ (∀ n c, (∀ i ∈ e.items, i.slot ≠ some (n, c)) → t.slot n c = s.slot n c)
    ∧ (let d : BitVec 16 := if 65535 < (s.time - g).toNat then 65535 else BitVec.ofNat 16 (s.time - g).toNat
      let old := s.stats[e.party.idx]
      t.stats = s.stats.set e.party.idx ⟨old.completed + 1, d, if old.largest.toNat < d.toNat then d else old.largest⟩)
    ∧ (∀ x, e.party = .lift x → e.kind = .place →
      (t.lift x).carriage = (s.lift x).carriage.filter (fun r => r.id ∉ ids ∨ ∀ i ∈ e.items, i.tote.id ≠ r.id))
    ∧ (∀ x, e.party = .lift x → e.kind = .fetch →
      (t.lift x).carriage = (s.lift x).carriage
        ++ ids.filterMap (fun id => (e.items.find? (fun i => i.tote.id = id)).map (fun i => i.tote)))
    ∧ (∀ n, e.party = .shuttle n → ∀ x, t.lift x = s.lift x)
    ∧ t = { s with
      table := t.table, slots := t.slots, stats := t.stats, streams := t.streams, coord := t.coord, links := t.links
      store := t.store, unsentAsks := t.unsentAsks, modeCtl := t.modeCtl, notices := t.notices, work := t.work }
    ∧ t.unsentAsks = s.unsentAsks.filter (fun m => !m.asksAbout h)
    ∧ t.work.touched = true ∧ t.work.reeval = true
    ∧ ((∀ y, e.party = .lift y → (s.link y).down.length < 8) →
      t.work = { s.work with touched := true, reeval := true })
    ∧ (∀ y, e.party ≠ .lift y → t.link y = s.link y)
    ∧ (let last : Prop := (∀ k, k ≠ h → s.entry k = none) ∧ ∀ y, e.party ≠ .lift y → (s.lift y).visit = none
      (s.mode = .drain → last → t.mode = .config ∧ t.modeCtl.motion = false)
      ∧ ((s.mode ≠ .drain ∨ ¬ last) → t.modeCtl = s.modeCtl))
    ∧ (e.phase.isGranted = true →
      let lifted : Bool := match e.party, e.kind with
        | .lift _, .fetch => true
        | _, _ => false
      let taken := ids.filterMap (fun id => e.items.find? (fun i => i.tote.id = id))
      let gone (i : StreamNo) : List Item := taken.filter (fun j => lifted && i ≠ 0 && j.tote.stream.toNat = i.val)
      let left (i : StreamNo) : List RelEntry := (s.stream i).list.filter (fun r => ∀ j ∈ gone i, j.tote.id ≠ r.id)
      let fell (i : StreamNo) : Bool :=
        (s.stream i).row.lowMark.toNat ≤ (s.stream i).list.length && (left i).length < (s.stream i).row.lowMark.toNat
      (∀ i, t.stream i = { s.stream i with
        list := (left i).map (fun r =>
          if lifted = true ∧ i ≠ 0 ∧ ∃ j ∈ e.items, j.tote.id = r.id ∧ j.tote.stream.toNat = i.val then
            { r with pledged := false } else r)
        lowMarker := (s.stream i).lowMarker || fell i
        released := (s.stream i).released + BitVec.ofNat 32 (gone i).length })
      ∧ (t.notices.pending.streamLow = true ↔ s.notices.pending.streamLow = true ∨ ∃ i, fell i = true)
      ∧ ((∀ i, fell i = false) → s.mode ≠ .drain → t.notices = s.notices ∧ t.store = s.store))
    ∧ ∀ x, e.party = .lift x →
      ((s.lift x).visit = none → (t.lift x).visit = none)
      ∧ ∀ v, (s.lift x).visit = some v →
        let w : Visit := { v with
          p := if e.kind = .place then v.p - ids.length else v.p
          f := if e.kind = .fetch then v.f - ids.length else v.f }
        ∃ u : State, (u.lift x).visit = some w ∧ u.lift x.other = s.lift x.other ∧ u.mode = s.mode ∧ u.links = s.links
          ∧ u.table = s.table.set h none
          ∧ t = if (w.p = 0 ∧ w.f = 0) ∨ s.mode = .drain then u.endVisit x none else u

/-- The removal of an entry, whatever ends it (R9, R52, R107, R162): the entry goes and no other changes; a claim it
owns on a slot of its items goes with the content kept, and no other slot changes; the pledges of a GRANTED lift FETCH
go; its unsent CONFIRM-ASKs, those that carry its handle, are discarded; active lifts, hold queue and call queues are to
be brought up to date; and in DRAIN, with no entry and no visit left, the aisle returns to CONFIG in the same step. A
refusal of an entry answers the party with kind, reason, handle and tag, then removes it (R51, R52). A revocation
refuses the entry REVOKED; a slot that a GRANTED one claims enters DOUBT with the cause before that, its content kept
(R10, R44, R166 to R168). -/
def Obligations.EntriesAreRemoved : Prop :=
  ∀ (s : State) (h : Handle) (e : Entry),
    (let t := s.removeEntry h e
      let lifted : Bool := match e.party, e.kind with
        | .lift _, .fetch => e.phase.isGranted
        | _, _ => false
      t.entry h = none ∧ (∀ k, k ≠ h → t.entry k = s.entry k)
      ∧ (∀ n c, t.slot n c = match s.slot n c with
        | .opened content (some k) => .opened content
            (if k.handle = h ∧ ∃ i ∈ e.items, i.slot = some (n, c) then none else some k)
        | v => v)
      ∧ (∀ i : StreamNo, t.stream i = { s.stream i with list := (s.stream i).list.map (fun r =>
        if lifted = true ∧ i ≠ 0 ∧ ∃ j ∈ e.items, j.tote.id = r.id ∧ j.tote.stream.toNat = i.val then
          { r with pledged := false } else r) })
      ∧ t.unsentAsks = s.unsentAsks.filter (fun m => !m.asksAbout h)
      ∧ t.work = { s.work with touched := true, reeval := true }
      ∧ (let u : State := { s with
            table := t.table, slots := t.slots, streams := t.streams, unsentAsks := t.unsentAsks, work := t.work }
        (s.mode = .drain → (∀ k, k ≠ h → s.entry k = none) → (∀ y, (s.lift y).visit = none) → t = u.setMode .config)
        ∧ ((s.mode ≠ .drain ∨ (∃ k, k ≠ h ∧ s.entry k ≠ none) ∨ ∃ y, (s.lift y).visit ≠ none) → t = u)))
    ∧ (∀ r, s.refuseEntry h e r = (s.sendParty e.party
        (s.toward e.party 0x2A e.tag (.refuse e.kind.ask r (BitVec.ofNat 8 h.val))) (some h)).removeEntry h e)
    ∧ ∀ (p : Party) (cause : DoubtCause) (items : List Item),
      let t := s.doubtClaims h p cause items
      t = { s with slots := t.slots }
      ∧ (∀ n c, t.slot n c = match s.slot n c with
        | .opened content (some k) =>
          if k.handle = h ∧ ∃ i ∈ items, i.slot = some (n, c) then
            .doubt content cause (if cause = .actTimeout then some ⟨p, h, k.kind, k.toteId⟩ else none) none
          else .opened content (some k)
        | v => v)
      ∧ (e.phase.isGranted = true →
        s.revokeEntry cause h e = (s.doubtClaims h e.party cause e.items).touch.refuseEntry h e .revoked)
      ∧ (e.phase.isGranted = false → s.revokeEntry cause h e = s.refuseEntry h e .revoked)
      ∧ (e.phase.isGranted = true ↔ ∃ g, e.phase = .granted g)
      ∧ ∀ m : Tel, m.asksAbout h = true ↔ ∃ id st x l, m.body = .confirmAsk (BitVec.ofNat 8 h.val) id st x l

/-- The hold queue holds the WAITING entries once each, in the order of their ask stamps, the older first, equal stamps
in the order of the parties' stations (R23, R49). A re-evaluation goes through it in RUN and does nothing in any other
mode, by the model's choice no refusal and no new hold reason either (R165; log 41). An entry that still waits is
evaluated again: a shuttle PLACE is refused and removed with BAD-SLOT when its pair is no longer mapped, and with the
reason of its routing, NO-ROUTE or STRAY; else check 10 decides, as a grant, an entry into CONFIRMING, or a new hold
reason without a new HOLD (R49, R50, R97). At the end of an event that changed a slot, list, carriage, entry or
presence, the active lifts of all streams are evaluated, the hold queue is re-evaluated if the event or a switch asks
for it, and the call queues are brought up to date, in this order (R75, R95; log 8), after the notices and telegrams
that the rule of the event makes, by the model's choice (log 45). -/
def Obligations.HoldQueueIsReevaluated : Prop :=
  (∀ s : State,
      (∀ h, h ∈ s.holdQueue ↔ ∃ e r, s.entry h = some e ∧ e.phase = .waiting r)
      ∧ s.holdQueue.Nodup
      ∧ s.holdQueue.Pairwise (fun h k => ∀ e f, s.entry h = some e → s.entry k = some f →
        (s.time - f.askStamp).toNat < (s.time - e.askStamp).toNat
          ∨ (e.askStamp = f.askStamp ∧ e.party.station.toNat ≤ f.party.station.toNat))
      ∧ (s.mode = .run → s.reevaluate = s.holdQueue.foldl (fun u h => u.reevalEntry h) s)
      ∧ (s.mode ≠ .run → s.reevaluate = s)
      ∧ (s.work.touched = false → s.settle = s)
      ∧ (s.work.touched = true →
        let u := (List.finRange 17).foldl (fun u i => u.evalStream i) s
        let v := if u.work.reeval then u.reevaluate else u
        s.settle = { v.updateCalls with work := { v.work with touched := false, reeval := false } })
      ∧ s.touch = { s with work := { s.work with touched := true } }
      ∧ s.wantReeval = { s with work := { s.work with touched := true, reeval := true } })
  ∧ ∀ (s : State) (h : Handle),
    ((∀ e r, s.entry h = some e → e.phase ≠ .waiting r) → s.reevalEntry h = s)
    ∧ ∀ e r, s.entry h = some e → e.phase = .waiting r →
      let decided : Prop :=
        (∀ items, s.verdict e = .grant items → s.reevalEntry h = s.grant h e items)
        ∧ (∀ items, s.verdict e = .confirm items → s.reevalEntry h = s.enterConfirming h e items)
        ∧ ∀ q, s.verdict e = .wait q → s.reevalEntry h = s.setEntry h (some { e with phase := .waiting q })
      (∀ n i is, e.party = .shuttle n → e.kind = .place → e.items = i :: is →
        (s.noMappedPair n i.tote = true → s.reevalEntry h = s.refuseEntry h e .badSlot)
        ∧ (s.noMappedPair n i.tote = false →
          (∀ q, s.routingFailure i.tote = some q → s.reevalEntry h = s.refuseEntry h e q)
          ∧ (s.routingFailure i.tote = none → decided)))
      ∧ (e.kind = .fetch → decided) ∧ (∀ x, e.party = .lift x → decided)

/-- The call queue of a lift, as it is brought up to date at the end of an event: a level stands in it once exactly
while the lift has a fetchable tote there; its key is the smallest index among those, the position in its stream's
release list or 255 for a tote of stream 0; its entry stamp is the one it had in the queue, or the aisle time when it
was not in it; and the order is key, then entry stamp with the older first, then level (R36, R74, R75; log 32). -/
def Obligations.CallQueuesAreKept : Prop :=
  ∀ (s : State),
    (∀ x : Lift,
      let q := s.newCalls x
      (∀ n, (∃ c ∈ q, c.level = n) ↔ s.fetchables x n ≠ [])
      ∧ (q.map (fun c => c.level)).Nodup
      ∧ (∀ c ∈ q, (∃ t ∈ s.fetchables x c.level, c.key.toNat = s.orderIndex t.2.tote)
        ∧ ∀ t ∈ s.fetchables x c.level, c.key.toNat ≤ s.orderIndex t.2.tote)
      ∧ (∀ c ∈ q,
        (∀ before d after, (s.lift x).calls = before ++ d :: after → d.level = c.level →
          (∀ b ∈ before, b.level ≠ c.level) → c.stamp = d.stamp)
        ∧ ((∀ d ∈ (s.lift x).calls, d.level ≠ c.level) → c.stamp = s.time))
      ∧ q.Pairwise (fun c d => c.key.toNat < d.key.toNat ∨ (c.key = d.key
        ∧ ((s.time - d.stamp).toNat < (s.time - c.stamp).toNat ∨ (c.stamp = d.stamp ∧ c.level < d.level)))))
    ∧ (∀ r : ToteRec, r.stream = 0 → s.orderIndex r = 255)
    ∧ (∀ (r : ToteRec) (i : StreamNo) (before : List RelEntry) (e : RelEntry) (after : List RelEntry), i ≠ 0 →
      r.stream.toNat = i.val → (s.stream i).list = before ++ e :: after → e.id = r.id → (∀ f ∈ before, f.id ≠ r.id) →
      s.orderIndex r = before.length)
    ∧ (∀ x, s.updateCalls.lift x = { s.lift x with calls := s.newCalls x })
    ∧ s.updateCalls = { s with coord := s.updateCalls.coord }

/-! ### Lifts -/

/-- A STATE from a lift: from a RETURNING lift it is adopted when it passes the four conditions of R57, with its
carriage as reported, its firmware byte kept, the lift ONLINE and the STATE-ASK interval stopped; from an ONLINE lift it
changes nothing when it reports the carriage record; else PARTY MISMATCH is raised; from a lift in SERVICE it is
discarded (R57, R58, R59). A STATE from a shuttle: with party kind 1 and the level's own station it makes a RETURNING
level ONLINE, with its firmware byte kept, and hands on SERVICE-READY when the level carries the service-return mark; of
an ONLINE level it changes the firmware byte alone; with another kind or station it sends the level into SERVICE, as the
statement about LEVEL-SERVICE says of an entry into SERVICE, and raises PARTY MISMATCH last; from a level in SERVICE it
is discarded (R148, R149). -/
def Obligations.StatesOfParties : Prop :=
  (∀ (s : State) (x : Lift) (tag : Byte) (b : StateBody), Hears s (.lift x) → b.fits = true →
      let u := s.heard (.lift x)
      let sound : Prop := b.kind = 2 ∧ b.station = x.station ∧ b.totes.length ≤ 2 ∧ (∀ r ∈ b.totes, validTote r = true)
        ∧ (b.totes.map (fun r => r.id)).Nodup
      let apart : Prop := ∀ r ∈ b.totes, s.inSlots r.id none = false ∧ s.inCarriage x.other r.id = false
        ∧ s.inPlaceEntries r.id = false
      let mismatch : Host.Outcome State Fault Refusal := .next (u.raise .partyMismatch (some (.lift x))).finish
      ((s.lift x).presence = .returning →
        (sound → apart → exec (.state x tag b) s
          = .next ((u.setLift x { s.lift x with
              presence := .online, askTimer := none, firmware := some b.firmware, carriage := b.totes }).touch).finish)
        ∧ (¬ (sound ∧ apart) → exec (.state x tag b) s = mismatch))
      ∧ ((s.lift x).presence = .online →
        (sound → b.totes = (s.lift x).carriage → exec (.state x tag b) s = .next u)
        ∧ (¬ (sound ∧ b.totes = (s.lift x).carriage) → exec (.state x tag b) s = mismatch))
      ∧ ((s.lift x).presence = .service → exec (.state x tag b) s = .next u))
  ∧ (∀ (s : State) (n : Level) (tag : Byte) (b : StateBody), Hears s (.shuttle n) → b.fits = true →
      let u := s.heard (.shuttle n)
      let r := u.shuttle n
      let own : Prop := b.kind = 1 ∧ b.station.toNat = n.val + 1
      (r.presence = .returning → own → r.mark = false → exec (.shuttleState n tag b) s
        = .next (u.setShuttle n { r with presence := .online, firmware := b.firmware }).finish)
      ∧ (r.presence = .returning → own → r.mark = true → exec (.shuttleState n tag b) s
        = .next ((u.setShuttle n { r with presence := .online, firmware := b.firmware, mark := false }).handFlag
          .serviceReady).finish)
      ∧ (r.presence = .online → own → exec (.shuttleState n tag b) s
        = .next (u.setShuttle n { r with firmware := b.firmware }).finish)
      ∧ ((r.presence = .returning ∨ r.presence = .online) → ¬ own → exec (.shuttleState n tag b) s
        = .next ((u.intoService n 0).raise .partyMismatch (some (.shuttle n))).finish)
      ∧ (r.presence = .service → exec (.shuttleState n tag b) s = .next u.finish))

/-- A VISIT-OPEN is refused with the reason of the first check of R67 that fails, or opens the visit with its level, p,
f and tag and the visit limit, and is answered GO with its tag, handle 255 and count 0 (R67, R68). A VISIT-CLOSE is
refused of a lift that is not ONLINE, with NO-VISIT when no visit is open, with BUSY when the lift has an entry; else
the visit ends with a VISIT-END that carries its tag. The end of a visit sends the level and the remaining counts, and
in DRAIN, with no entry and no other visit left, returns the aisle to CONFIG (R60, R70, R71, R162). -/
def Obligations.Visits : Prop :=
  (∀ (s : State) (x : Lift) (tag level p f : Byte), Hears s (.lift x) →
      let u := s.heard (.lift x)
      let a : Instr := .visitOpen x tag level p f
      let l := s.lift x
      let refused (r : Reason) : Host.Outcome State Fault Refusal :=
        .next (u.sendLift x (s.toward (.lift x) 0x2A tag (.refuse 0x30 r 255))).finish
      (l.presence = .returning → exec a s = refused .notReady)
      ∧ (l.presence = .service → exec a s = refused .service)
      ∧ (l.presence = .online →
        (l.visit ≠ none → exec a s = refused .inVisit)
        ∧ (l.visit = none →
          (s.mode = .config → exec a s = refused .config)
          ∧ (s.mode = .halt → exec a s = refused .halted)
          ∧ (s.mode = .drain → exec a s = refused .draining)
          ∧ (s.mode = .run →
            (s.latch (.lift x) = true → exec a s = refused .partyFault)
            ∧ (s.latch (.lift x) = false →
              (¬ s.Entryless (.lift x) → exec a s = refused .busy)
              ∧ (s.Entryless (.lift x) →
                ((∀ n : Level, level.toNat = n.val + 1 → s.levelMapped n = false) → exec a s = refused .unmapped)
                ∧ ∀ n : Level, level.toNat = n.val + 1 → s.levelMapped n = true →
                  let bound := (l.carriage.filter (fun r => r.dest = level)).length
                  ((bound < p.toNat ∨ 2 + p.toNat < f.toNat + l.carriage.length ∨ p.toNat + f.toNat = 0) →
                    exec a s = refused .badCount)
                  ∧ (p.toNat ≤ bound → f.toNat + l.carriage.length ≤ 2 + p.toNat → 1 ≤ p.toNat + f.toNat →
                    let limit : Ticks := s.timing.visitBase.zeroExtend 32
                      + s.timing.visitPer.zeroExtend 32 * BitVec.ofNat 32 (p.toNat + f.toNat)
                    exec a s = .next ((u.setLift x { l with visit := some ⟨n, p.toNat, f.toNat, limit, limit, tag⟩ }).sendLift
                      x (s.toward (.lift x) 0x28 tag (.go 255 0x30 []))).finish)))))))
  ∧ (∀ (s : State) (x : Lift) (tag : Byte),
      (Hears s (.lift x) →
        let u := s.heard (.lift x)
        let refused (r : Reason) : Host.Outcome State Fault Refusal :=
          .next (u.sendLift x (s.toward (.lift x) 0x2A tag (.refuse 0x31 r 255))).finish
        ((s.lift x).presence = .returning → exec (.visitClose x tag) s = refused .notReady)
        ∧ ((s.lift x).presence = .service → exec (.visitClose x tag) s = refused .service)
        ∧ ((s.lift x).presence = .online →
          ((s.lift x).visit = none → exec (.visitClose x tag) s = refused .noVisit)
          ∧ ((s.lift x).visit ≠ none → ¬ s.Entryless (.lift x) → exec (.visitClose x tag) s = refused .busy)
          ∧ ((s.lift x).visit ≠ none → s.Entryless (.lift x) →
            exec (.visitClose x tag) s = .next (u.endVisit x (some tag)).finish)))
      ∧ ∀ (v : Visit) (closeTag : Option Byte), (s.lift x).visit = some v →
        let u := s.sendLift x (s.toward (.lift x) 0x32 (closeTag.getD v.tag)
          (.visit (BitVec.ofNat 8 (v.level.val + 1)) (BitVec.ofNat 8 v.p) (BitVec.ofNat 8 v.f)))
        let w := u.setLift x { s.lift x with visit := none }
        (s.mode = .drain → (∀ k, s.entry k = none) → (s.lift x.other).visit = none →
          s.endVisit x closeTag = w.setMode .config)
        ∧ ((s.mode ≠ .drain ∨ (∃ k, s.entry k ≠ none) ∨ (s.lift x.other).visit ≠ none) → s.endVisit x closeTag = w))

/-- A NEXT-CALL is refused in the order of R76, or answered: CALL for the first carried inbound tote whose level has a
free IN slot, with p and f fitted; else CALL for the head of the call queue when the carriage has a place; else FULL
with two outbound totes on the carriage and EMPTY in every other case. Nothing else changes (R76). -/
def Obligations.NextCalls : Prop :=
  ∀ (s : State) (x : Lift) (tag : Byte), Hears s (.lift x) →
    let u := s.heard (.lift x)
    let a : Instr := .nextCall x tag
    let l := s.lift x
    let refused (r : Reason) : Host.Outcome State Fault Refusal :=
      .next (u.sendLift x (s.toward (.lift x) 0x2A tag (.refuse 0x33 r 255))).finish
    let called (n : Level) (p f : Nat) : Host.Outcome State Fault Refusal :=
      .next (u.sendLift x (s.toward (.lift x) 0x34 tag
        (.visit (BitVec.ofNat 8 (n.val + 1)) (BitVec.ofNat 8 p) (BitVec.ofNat 8 f)))).finish
    let hasFree (n : Level) : Prop := s.slot n .in1 = .opened none none ∨ s.slot n .in2 = .opened none none
    (∀ n, s.freeIn n = [SlotCode.in1, .in2].filter (fun c => decide (s.slot n c = .opened none none)))
    ∧ (l.presence = .returning → exec a s = refused .notReady)
    ∧ (l.presence = .service → exec a s = refused .service)
    ∧ (l.presence = .online → l.visit ≠ none → exec a s = refused .inVisit)
    ∧ (l.presence = .online → l.visit = none →
      (s.mode = .config → exec a s = refused .config)
      ∧ (s.mode = .halt → exec a s = refused .halted)
      ∧ (s.mode = .drain → exec a s = refused .draining)
      ∧ (s.mode = .run → s.latch (.lift x) = true → exec a s = refused .partyFault)
      ∧ (s.mode = .run → s.latch (.lift x) = false → ¬ s.Entryless (.lift x) → exec a s = refused .busy)
      ∧ (s.mode = .run → s.latch (.lift x) = false → s.Entryless (.lift x) →
        (∀ before r after n, l.carriage = before ++ r :: after → r.dest.toNat = n.val + 1 → hasFree n →
          (∀ q ∈ before, ∀ m : Level, q.dest.toNat = m.val + 1 → ¬ hasFree m) →
          let p := min (l.carriage.filter (fun q => q.dest = r.dest)).length (s.freeIn n).length
          exec a s = called n p (min (s.fetchables x n).length (2 - (l.carriage.length - p))))
        ∧ ((∀ q ∈ l.carriage, ∀ m : Level, q.dest.toNat = m.val + 1 → ¬ hasFree m) →
          (∀ c cs, l.calls = c :: cs → l.carriage.length < 2 →
            exec a s = called c.level 0 (min (2 - l.carriage.length) (s.fetchables x c.level).length))
          ∧ ((l.calls = [] ∨ 2 ≤ l.carriage.length) →
            exec a s = refused (if (l.carriage.filter (fun q => q.dest = 0)).length = 2 then .full else .empty)))))

/-- A LOAD that passes the checks of R63 appends its tote records to the carriage record; an UNLOAD that names the first
totes of the carriage record in order removes them and adds one to the delivered count of the stream of each outbound
one; an UNLOAD in another order is refused ORDER and raises ORDER against the lift (R63 to R66, R87). The refusals of
LOAD and UNLOAD, in the order of R63 and R65: presence, visit, entry, count, body, room, map, census; each names its
kind, carries the tag and handle 255, and raises nothing (R60, R63, R65). -/
def Obligations.LoadsAndUnloads : Prop :=
  (∀ (s : State) (x : Lift) (tag : Byte), Hears s (.lift x) → (s.lift x).presence = .online → (s.lift x).visit = none →
      s.Entryless (.lift x) →
      let u := s.heard (.lift x)
      let l := s.lift x
      (∀ totes : List ToteRec, (totes.length = 1 ∨ totes.length = 2) →
        (∀ r ∈ totes, validTote r = true ∧ r.dest ≠ 0) → (totes.map (fun r => r.id)).Nodup →
        l.carriage.length + totes.length ≤ 2 →
        (∀ r ∈ totes, ∃ n : Level, r.dest.toNat = n.val + 1 ∧ s.levelMapped n = true) →
        (∀ r ∈ totes, s.inCensus r.id none = false) →
        exec (.load x tag totes) s = .next ((u.setLift x { l with carriage := l.carriage ++ totes }).touch).finish)
      ∧ (∀ ids : List ToteId, (ids.length = 1 ∨ ids.length = 2) → 0 ∉ ids → ids.Nodup →
        (∀ front back, l.carriage = front ++ back → front.map (fun r => r.id) = ids →
          ∃ t : State, exec (.unload x tag ids) s = .next t.finish ∧ t.lift x = { l with carriage := back }
            ∧ (∀ i : StreamNo, t.stream i = { s.stream i with
                delivered := (s.stream i).delivered
                  + BitVec.ofNat 32 (front.filter (fun r => r.dest = 0 ∧ r.stream.toNat = i.val)).length })
            ∧ t = { u with coord := t.coord, streams := t.streams, work := { Work.done with touched := true } }
            ∧ t.lift x.other = s.lift x.other)
        ∧ ((l.carriage.take ids.length).map (fun r => r.id) ≠ ids →
          exec (.unload x tag ids) s
            = .next ((u.sendLift x (s.toward (.lift x) 0x2A tag (.refuse 0x36 .order 255))).raise .order
              (some (.lift x))).finish)))
  ∧ (∀ (s : State) (x : Lift) (tag : Byte) (totes : List ToteRec) (ids : List ToteId), Hears s (.lift x) →
      1 + 6 * totes.length ≤ 48 → 1 + 4 * ids.length ≤ 48 →
      let u := s.heard (.lift x)
      let refused (k : Byte) (r : Reason) : Host.Outcome State Fault Refusal :=
        .next (u.sendLift x (s.toward (.lift x) 0x2A tag (.refuse k r 255))).finish
      let gate : Option Reason := match (s.lift x).presence with
        | .returning => some .notReady
        | .service => some .service
        | .online => if (s.lift x).visit ≠ none then some .inVisit
          else if (s.entryOf (.lift x)).isSome then some .busy else none
      let load : Option Reason :=
        if totes.length ≠ 1 ∧ totes.length ≠ 2 then some .badCount
        else if (∃ r ∈ totes, validTote r = false ∨ r.dest = 0) ∨ ¬ (totes.map (fun r => r.id)).Nodup then some .badTote
        else if 2 < (s.lift x).carriage.length + totes.length then some .full
        else if ∃ r ∈ totes, ∀ n : Level, r.dest.toNat = n.val + 1 → s.levelMapped n = false then some .unmapped
        else if ∃ r ∈ totes, s.inCensus r.id none = true then some .duplicate
        else none
      let unload : Option Reason :=
        if ids.length ≠ 1 ∧ ids.length ≠ 2 then some .badCount
        else if 0 ∈ ids ∨ ¬ ids.Nodup then some .badTote
        else none
      (∀ r, gate.or load = some r → exec (.load x tag totes) s = refused 0x35 r)
      ∧ (∀ r, gate.or unload = some r → exec (.unload x tag ids) s = refused 0x36 r))

/-- The lift link transmitter takes one telegram at a time, the oldest own one before the oldest forwarded one; its
place is freed when its last character has gone out, and a STATE-ASK sent raises the link's own-tag count (R128, R135,
R164). -/
def Obligations.LiftTransmitter : Prop :=
  ∀ (s : State) (x : Lift),
    (∀ before i after, (∀ j ∈ (s.link x).down, j.begun = false) → (s.link x).down = before ++ i :: after →
      ((i.own = true ∧ ∀ j ∈ before, j.own = false) ∨ (before = [] ∧ ∀ j ∈ (s.link x).down, j.own = false)) →
      exec (.liftFrameBegun x) s
        = .next (s.setLink x { s.link x with down := before ++ { i with begun := true } :: after }))
    ∧ ((∃ j ∈ (s.link x).down, j.begun = true) ∨ (s.link x).down = [] → exec (.liftFrameBegun x) s = .next s)
    ∧ (∀ before i after, (s.link x).down = before ++ i :: after → i.begun = true →
      (∀ j ∈ before ++ after, j.begun = false) →
      exec (.liftTelegramSent x) s = .next (s.setLink x { s.link x with
        down := before ++ after
        ownTag := if i.tel.kind = 0x12 then (s.link x).ownTag + 1 else (s.link x).ownTag }))
    ∧ ((∀ j ∈ (s.link x).down, j.begun = false) → exec (.liftTelegramSent x) s = .next s)

/-! ### The level bus -/

/-- The order of turns. When a turn ends, its outcome dealt with, the scheduler looks for the lowest level above its
position that the present cycle includes, which is given the next turn; RETURNING and ONLINE levels are included in
every cycle, ABSENT ones in a probe cycle (R137). With none left the cycle ends in the same step, the position goes back
to before level 1, the count goes up, or to 0 after a probe cycle, and the next begins with its lowest level, a probe
cycle when the count is at or above the probe interval less one. A cycle that includes no level ends at once and counts,
so that with ABSENT levels alone the next turn is that of a probe cycle. With no level ONLINE, RETURNING or ABSENT no
cycle begins, and the first change of presence that makes one so begins a new cycle, compared with the count as it
stands (R138; log 11). The level found is kept while it is included, and looked for anew when it no longer is, the
model's choice (log 53); during a turn nothing is looked for. -/
def Obligations.CycleOrder : Prop :=
  ∀ (s : State), 1 ≤ s.timing.probeInterval.toNat →
    let present (n : Level) : Prop := (s.shuttle n).presence = .online ∨ (s.shuttle n).presence = .returning
    let absent (n : Level) : Prop := (s.shuttle n).presence = .absent
    let probing (c : Byte) : Bool := s.timing.probeInterval.toNat - 1 ≤ c.toNat
    let above (n : Level) : Prop := ∀ m, s.bus.pos = some m → m < n
    let included (n : Level) : Prop := present n ∨ (s.bus.probeCycle = true ∧ absent n)
    let ended : Prop := s.bus.cycle = false ∨ ∀ n, above n → ¬ included n
    let count : Byte := if s.bus.cycle then (if s.bus.probeCycle then 0 else s.bus.probeCount + 1) else s.bus.probeCount
    (∀ n, s.bus.cycle = true → above n → included n → (∀ k, above k → k < n → ¬ included k) →
      s.look = { s.bus with next := some n })
    ∧ (ended →
      (∀ n, (present n ∨ (probing count = true ∧ absent n)) →
        (∀ k, k < n → ¬ present k ∧ ¬ (probing count = true ∧ absent k)) →
        s.look = { s.bus with
          pos := none, next := some n, cycle := true, probeCycle := probing count, probeCount := count })
      ∧ (∀ n, probing count = false → (∀ k, ¬ present k) → absent n → (∀ k, k < n → ¬ absent k) →
        s.look = { s.bus with
          pos := none
          next := some n
          cycle := true
          probeCycle := true
          probeCount := BitVec.ofNat 8 (s.timing.probeInterval.toNat - 1) }))
    ∧ ((∀ n, ¬ present n ∧ ¬ absent n) →
      (s.bus.cycle = true →
        s.look = { s.bus with pos := none, next := none, cycle := false, probeCycle := false, probeCount := count })
      ∧ (s.bus.cycle = false → s.look = { s.bus with next := none }))
    ∧ (s.anyPolled = true ↔ ∃ n, present n ∨ absent n)
    ∧ (s.bus.turn ≠ .idle → s.schedule = s)
    ∧ (∀ n, s.bus.next = some n → included n → s.schedule = s)
    ∧ (s.bus.turn = .idle → (∀ n, s.bus.next = some n → ¬ included n) → s.schedule = { s with bus := s.look })
    ∧ s.finish.bus = (if s.work.look then s.schedule.bus else s.bus)
    ∧ (s.Rests → s.turnEnded.finish = { s with bus := s.turnEnded.look })
    ∧ (s.Rests → SchedulerFollows s → s.anyPolled = false → ∀ (t : State) (n : Level),
      t = s.setShuttle n { s.shuttle n with presence := .returning } → s.bus.turn = .idle →
      t.wantLook.finish = { t with bus := { s.bus with
        next := some n, cycle := true, probeCycle := probing s.bus.probeCount } })

/-- A turn sends one frame: the oldest telegram of the level's answer box; else, to a RETURNING level, a STATE-ASK; else
the oldest forwarded telegram for the level; else a POLL, the last two kinds of the controller's own with the level bus
own-tag count. The level that the scheduler has found becomes the position; with none found, or during a turn, no turn
is given (R137, R139, R135). When the frame of a turn has been sent the answer is awaited, the level bus receiver READY:
a POLL or STATE-ASK raises the own-tag count, and any other frame leaves the place it was sent from (R118, R135, R139,
R140). -/
def Obligations.TurnFrames : Prop :=
  (∀ (s : State),
      (s.bus.turn = .idle → s.bus.next = none → exec .turnStart s = .next s)
      ∧ (s.bus.turn ≠ .idle → exec .turnStart s = .next s)
      ∧ ∀ n : Level, s.bus.turn = .idle → s.bus.next = some n →
        let b := { s.bus with pos := some n, next := none }
        let r := s.shuttle n
        (∀ i is, r.box = i :: is → exec .turnStart s
          = .next (State.setShuttle { s with bus := { b with turn := .sending n i.tel } } n
              { r with box := { i with begun := true } :: is }))
        ∧ (r.box = [] → r.presence = .returning → exec .turnStart s
          = .next { s with bus := { b with turn := .sending n (s.toward (.shuttle n) 0x12 b.ownTag .nothing) } })
        ∧ (r.box = [] → r.presence ≠ .returning →
          (∀ before i after, b.queue = before ++ i :: after → i.level = n → (∀ j ∈ before, j.level ≠ n) →
            exec .turnStart s = .next { s with bus := { b with
              turn := .sending n i.tel
              queue := before ++ { i with begun := true } :: after } })
          ∧ ((∀ j ∈ b.queue, j.level ≠ n) → exec .turnStart s
            = .next { s with bus := { b with turn := .sending n (s.toward (.shuttle n) 0x10 b.ownTag .nothing) } })))
  ∧ (∀ (s : State),
      (∀ n t, s.bus.turn = .sending n t → (t.kind = 0x10 ∨ t.kind = 0x12) →
        exec .turnFrameSent s
          = .next { s with bus := { s.bus with turn := .awaiting n, rx := .ready, ownTag := s.bus.ownTag + 1 } })
      ∧ (∀ n t, s.bus.turn = .sending n t → t.kind ≠ 0x10 → t.kind ≠ 0x12 →
        exec .turnFrameSent s = .next (State.setShuttle { s with bus := { s.bus with
            turn := .awaiting n
            rx := .ready
            queue := s.bus.queue.filter (fun i => i.level ≠ n ∨ i.begun = false) } } n
          { s.shuttle n with box := (s.shuttle n).box.filter (fun i => i.begun = false) }))
      ∧ ((∀ n t, s.bus.turn ≠ .sending n t) → exec .turnFrameSent s = .next s))

/-- A telegram that comes whole as the answer of a turn: from another station it is a miss of the level whose turn it
is, with no fault; from its own it is good (R120, R141). A good answer, and a telegram that comes whole on a lift link,
is judged by steps 5 to 8: an unknown kind is a LINK FORM, then a source other than the port's party or a destination
other than the controller or the store controller a ROUTE, then a kind not taken there, or a body that does not fit, a
LINK FORM, each against the party and with nothing else changed. A report upward joins the upstream queue as it is while
fewer than 48 places are in use, else it is answered NOT-FORWARDED FULL; and every other telegram that passes is handed
to its block as if the party had sent it by its command (R120, R121, R125, R129, R142). The bodies that fit, kind by
kind (Table 6-5). A command of a party leaves what its telegram, handed to its block, leaves. -/
def Obligations.MachineTelegrams : Prop :=
  (∀ (s : State) (p : Party) (cs : List Character) (f : Frame), s.Rests →
      let w := s.heard p
      let judged (o : Host.Outcome State Fault Refusal) : Prop :=
        let failed (c : FaultClass) : Host.Outcome State Fault Refusal := .next (w.raise c (some p)).finish
        let own : Prop := f.srcAisle = s.store.unique ∧ f.srcStation = p.station
        let toController : Prop := f.dstStation = 0 ∧ f.dstAisle = s.store.unique
        let upward : Prop := f.dstStation = 0 ∧ f.dstAisle = 0
        let report : Prop := 0x60 ≤ f.kind.toNat
        let handover : Prop := f.kind ∈ [0x11, 0x13, 0x20, 0x21, 0x22, 0x23, 0x24]
          ∨ ((∃ x, p = .lift x) ∧ f.kind ∈ [0x30, 0x31, 0x33, 0x35, 0x36])
        let known : Prop := report ∨ f.kind ∈ [0x10, 0x11, 0x12, 0x13, 0x20, 0x21, 0x22, 0x23, 0x24, 0x28, 0x29, 0x2A,
          0x30, 0x31, 0x32, 0x33, 0x34, 0x35, 0x36, 0x40, 0x50, 0x51, 0x52, 0x53, 0x54, 0x55]
        (¬ known → o = failed .linkForm)
        ∧ (known → ¬ (own ∧ (toController ∨ upward)) → o = failed .route)
        ∧ (own → upward → report →
          (s.store.upstream.length < 48 → o = .next (State.finish { w with store := { s.store with
            upstream := s.store.upstream
              ++ [⟨f.dstAisle, f.dstStation, f.srcAisle, f.srcStation, f.kind, f.tag, .raw f.body⟩] } }))
          ∧ (48 ≤ s.store.upstream.length → o = .next (w.sendParty p
            (s.toward p 0x40 f.tag (.notForwarded .full 0 0 f.kind f.tag)) none).finish))
        ∧ (known → own → toController ∨ upward → ¬ (upward ∧ report) → ¬ (toController ∧ handover) →
          o = failed .linkForm)
        ∧ (own → toController → handover →
          (∀ t, partyTelOf p f.kind f.body = some t → o = .next (w.handOn p f.tag t).finish)
          ∧ (partyTelOf p f.kind f.body = none → o = failed .linkForm))
      (∀ n, p = .shuttle n → s.bus.turn = .awaiting n → s.bus.rx.take cs = (.hunt, .sound f) →
        (f.srcStation ≠ p.station → exec (.turnAnswer cs) s
          = .next (s.turnEnded.miss n).finish)
        ∧ (f.srcStation = p.station → judged (exec (.turnAnswer cs) s)))
      ∧ ∀ x first rest, p = .lift x → cs = first :: rest → (s.link x).rx.take cs = (.hunt, .sound f) →
        judged (exec (.discardedTelegram (.link x) first rest) s))
  ∧ (∀ (p : Party) (kind : Byte) (body : List Byte) (t : PartyTel), partyTelOf p kind body = some t ↔
    (let counted (ids : List ToteId) : List Byte := BitVec.ofNat 8 ids.length :: ids.flatMap be32
      let totes (l : List ToteRec) : List Byte := BitVec.ofNat 8 l.length :: l.flatMap toteBytes
      match t with
      | .idle => kind = 0x11 ∧ body = []
      | .state b => kind = 0x13 ∧ b.totes.length ≤ 255 ∧ (b.kind ≠ 2 → b.totes = [])
        ∧ body = [b.kind, b.station, b.firmware] ++ if b.kind = 2 then totes b.totes else []
      | .placeAsk w n (.record r) => kind = 0x20 ∧ (∃ m, p = .shuttle m) ∧ body = [w, n] ++ toteBytes r
      | .placeAsk w n (.ids l) => kind = 0x20 ∧ (∃ x, p = .lift x) ∧ l.length = n.toNat
        ∧ body = [w, n] ++ l.flatMap be32
      | .fetchAsk w n => kind = 0x21 ∧ body = [w, n]
      | .report k h ids => kind = (match k with
          | .place => 0x22
          | .fetch => 0x23) ∧ ids.length ≤ 255 ∧ body = h :: counted ids
      | .quit h => kind = 0x24 ∧ body = [h]
      | .visitOpen l q f => kind = 0x30 ∧ body = [l, q, f]
      | .visitClose => kind = 0x31 ∧ body = []
      | .nextCall => kind = 0x33 ∧ body = []
      | .load l => kind = 0x35 ∧ l.length ≤ 255 ∧ body = totes l
      | .unload ids => kind = 0x36 ∧ ids.length ≤ 255 ∧ body = counted ids))
  ∧ ∀ (s : State) (p : Party) (tag : Byte), Hears s p →
    let handed (t : PartyTel) : Host.Outcome State Fault Refusal := .next ((s.heard p).handOn p tag t).finish
    exec (.idle p tag) s = handed .idle
    ∧ (∀ w n r, (∃ m, p = .shuttle m) → exec (.placeAsk p tag w n (.record r)) s = handed (.placeAsk w n (.record r)))
    ∧ (∀ (w n : Byte) (l : List ToteId), (∃ x, p = .lift x) → l.length = n.toNat → 2 + 4 * l.length ≤ 48 →
      exec (.placeAsk p tag w n (.ids l)) s = handed (.placeAsk w n (.ids l)))
    ∧ (∀ w n, exec (.fetchAsk p tag w n) s = handed (.fetchAsk w n))
    ∧ (∀ (h : Byte) (ids : List ToteId), 2 + 4 * ids.length ≤ 48 →
      exec (.placed p tag h ids) s = handed (.report .place h ids)
      ∧ exec (.fetched p tag h ids) s = handed (.report .fetch h ids))
    ∧ (∀ h, exec (.quit p tag h) s = handed (.quit h))
    ∧ (∀ (n : Level) (b : StateBody), p = .shuttle n → b.fits = true → exec (.shuttleState n tag b) s = handed (.state b))
    ∧ (∀ x : Lift, p = .lift x →
      (∀ b : StateBody, b.fits = true → exec (.state x tag b) s = handed (.state b))
      ∧ (∀ l q f, exec (.visitOpen x tag l q f) s = handed (.visitOpen l q f))
      ∧ exec (.visitClose x tag) s = handed .visitClose
      ∧ exec (.nextCall x tag) s = handed .nextCall
      ∧ (∀ l : List ToteRec, 1 + 6 * l.length ≤ 48 → exec (.load x tag l) s = handed (.load l))
      ∧ (∀ ids : List ToteId, 1 + 4 * ids.length ≤ 48 → exec (.unload x tag ids) s = handed (.unload ids)))
    ∧ ∀ b : StateBody, b.fits = true ↔
      (b.kind = 2 ∧ 4 + 6 * b.totes.length ≤ 48) ∨ (b.kind ≠ 2 ∧ b.totes = [])

/-- A turn without an answer is a miss: the count of an ONLINE or RETURNING level goes up by one, to 15 at most, and at
the miss threshold the level goes ABSENT; a miss of any other level changes nothing, where the presence at the end of
the turn decides, by the model's choice (log 51). Going ABSENT removes a WAITING entry of the shuttle without an answer,
leaves a GRANTED one, answers the level's waiting orders NOT-FORWARDED ABSENT in the order they were admitted, empties
the answer box and raises POLL SILENCE (R140, R143, R145); the look for the next turn comes after it (R137, log 11).
Once the first character of an answer has come, and while no answer is awaited, the limit for its start ends nothing
(R140, log 2). -/
def Obligations.MissesAndAbsence : Prop :=
  (∀ (s : State) (n : Level), s.Rests → s.bus.turn = .awaiting n → s.bus.rx = .ready →
      let u := s.turnEnded
      let r := s.shuttle n
      let m := min 15 (r.miss + 1)
      ((r.presence = .online ∨ r.presence = .returning) → m < s.timing.missThreshold.toNat →
        exec .turnStartLimit s = .next (u.setShuttle n { r with miss := m }).finish)
      ∧ (r.presence ≠ .online → r.presence ≠ .returning → exec .turnStartLimit s = .next u.finish)
      ∧ ((r.presence = .online ∨ r.presence = .returning) → s.timing.missThreshold.toNat ≤ m →
        ∃ t : State, exec .turnStartLimit s = .next t.finish
          ∧ t.shuttle n = ⟨.absent, m, r.mark, r.firmware, []⟩
          ∧ (∀ k, k ≠ n → t.shuttle k = s.shuttle k)
          ∧ t.bus = { u.bus with queue := s.bus.queue.filter (fun i => i.level ≠ n) } ∧ t.work.look = true
          ∧ (∀ h e, s.entryOf (.shuttle n) = some (h, e) →
            (e.phase.isGranted = true → t.table = s.table) ∧ (e.phase.isGranted = false → t.entry h = none))
          ∧ (s.entryOf (.shuttle n) = none → t.table = s.table)
          ∧ (s.store.upstream.length + (s.waitingFor n).length ≤ 62 → s.store.noticeWait = none →
            (t.store.upstream.filter (fun x => x.kind = 0x40))
              = (s.store.upstream.filter (fun x => x.kind = 0x40)) ++ (s.waitingFor n).map (fun i =>
                s.upward 0x40 i.tel.tag (.notForwarded .absent i.tel.dstAisle i.tel.dstStation i.tel.kind i.tel.tag))
            ∧ t.work.raises = [⟨.pollSilence, some (.shuttle n)⟩])))
  ∧ (∀ s : State, ((∀ n, s.bus.turn ≠ .awaiting n) ∨ s.bus.rx ≠ .ready) → exec .turnStartLimit s = .next s)
  ∧ (∀ (s : State) (n : Level), s.Rests → s.bus.turn = .awaiting n → s.bus.rx = .ready →
      exec .turnStartLimit s = .next (s.turnEnded.miss n).finish)
  ∧ ∀ (s : State) (n : Level),
    let r := s.shuttle n
    let m := min 15 (r.miss + 1)
    let polled : Prop := r.presence = .online ∨ r.presence = .returning
    (polled → m < s.timing.missThreshold.toNat → s.miss n = s.setShuttle n { r with miss := m })
    ∧ (¬ polled → s.miss n = s)
    ∧ (polled → s.timing.missThreshold.toNat ≤ m →
      let u := s.setShuttle n { r with presence := .absent, miss := m, box := [] }
      let answered (w : State) : State := (s.waitingFor n).foldl (fun t i => t.sendNotForwarded .absent i.tel)
        { w with bus := { s.bus with queue := s.bus.queue.filter (fun i => i.level ≠ n) } }
      (∀ h e, s.entryOf (.shuttle n) = some (h, e) → e.phase.isGranted = false →
        s.miss n = (answered (u.removeEntry h e)).raise .pollSilence (some (.shuttle n)))
      ∧ ((∀ h e, s.entryOf (.shuttle n) = some (h, e) → e.phase.isGranted = true) →
        s.miss n = (answered u).raise .pollSilence (some (.shuttle n))))

/-! ### Expiries -/

/-- The act timer of a GRANTED entry that stands at 0 outside HALT: each slot it claims enters DOUBT with cause
ACT-TIMEOUT and the claim and party as expired claim, its content kept; DOUBT is handed on; the entry goes, its handle
becomes the party's last-expired handle, the pledges of a lift FETCH are removed, and ACT TIMEOUT is raised against the
party, last; no telegram is sent to the party, but for the VISIT-END of a visit that ends. The visit of the lift goes on
with its counts and its timer; in DRAIN it ends, with a VISIT-END if the lift's queue has a place, and with no entry and
no visit left the aisle returns to CONFIG (R70, R162). In HALT, at any other time and for any other entry nothing
happens (R10, R24, R27, R45, R52). -/
def Obligations.ActTimersExpire : Prop :=
  ∀ (s : State) (h : Handle), s.Rests →
    (∀ e, s.entry h = some e → e.phase.isGranted = true → e.timer = 0 → s.mode ≠ .halt →
      (e.items.filterMap (fun i => i.slot)).Nodup →
      ∃ t : State, exec (.actTimerExpiry h) s = .next t.finish
        ∧ t.entry h = none ∧ (∀ k, k ≠ h → t.entry k = s.entry k) ∧ t.lastExpiredOf e.party = some h
        ∧ (∀ i ∈ e.items, ∀ n c content kind id, i.slot = some (n, c) →
          s.slot n c = .opened content (some ⟨kind, h, id⟩) →
          t.slot n c = .doubt content .actTimeout (some ⟨e.party, h, kind, id⟩) none)
        ∧ (∀ n c, (∀ i ∈ e.items, i.slot ≠ some (n, c)) → t.slot n c = s.slot n c)
        ∧ t.notices.pending.doubt = true ∧ ⟨.actTimeout, some e.party⟩ ∈ t.work.raises
        ∧ (∀ p, p ≠ e.party → t.lastExpiredOf p = s.lastExpiredOf p) ∧ t.shuttles = s.shuttles
        ∧ (let lifted : Bool := match e.party, e.kind with
            | .lift _, .fetch => true
            | _, _ => false
          ∀ i : StreamNo, t.stream i = { s.stream i with list := (s.stream i).list.map (fun r =>
            if lifted = true ∧ i ≠ 0 ∧ ∃ j ∈ e.items, j.tote.id = r.id ∧ j.tote.stream.toNat = i.val then
              { r with pledged := false } else r) })
        ∧ t.unsentAsks = s.unsentAsks.filter (fun m => !m.asksAbout h)
        ∧ t.work = { Work.done with touched := true, reeval := true, raises := t.work.raises }
        ∧ t = { s with
          table := t.table, slots := t.slots, lastExpired := t.lastExpired, streams := t.streams, coord := t.coord
          links := t.links, store := t.store, unsentAsks := t.unsentAsks, modeCtl := t.modeCtl, notices := t.notices
          work := t.work }
        ∧ (let ends (y : Lift) : Prop := s.mode = .drain ∧ e.party = .lift y
          (∀ y, ends y → t.lift y = { s.lift y with visit := none })
          ∧ (∀ y, ¬ ends y → t.lift y = s.lift y)
          ∧ (∀ y v, ends y → (s.lift y).visit = some v → (s.link y).down.length < 8 →
            t.link y = { s.link y with down := (s.link y).down ++ [⟨s.toward (.lift y) 0x32 v.tag
              (.visit (BitVec.ofNat 8 (v.level.val + 1)) (BitVec.ofNat 8 v.p) (BitVec.ofNat 8 v.f)), true, false⟩] })
          ∧ (∀ y v, ends y → (s.lift y).visit = some v → 8 ≤ (s.link y).down.length → t.link y = s.link y
            ∧ t.work.raises = [⟨.queueOverrun, some (.lift y)⟩, ⟨.actTimeout, some e.party⟩])
          ∧ (∀ y, (¬ ends y ∨ (s.lift y).visit = none) → t.link y = s.link y)
          ∧ ((∀ y v, ends y → (s.lift y).visit = some v → (s.link y).down.length < 8) →
            t.work.raises = [⟨.actTimeout, some e.party⟩])
          ∧ (let last : Prop := (∀ k, k ≠ h → s.entry k = none) ∧ ∀ y, e.party ≠ .lift y → (s.lift y).visit = none
            let u := s.handFlag .doubt
            let w := u.setMode .config
            (s.mode = .drain → last → t.mode = .config ∧ t.modeCtl.motion = false ∧ t.modeCtl = w.modeCtl
              ∧ t.notices = w.notices ∧ t.store = w.store)
            ∧ ((s.mode ≠ .drain ∨ ¬ last) → t.modeCtl = s.modeCtl ∧ t.notices = u.notices ∧ t.store = u.store))))
    ∧ ((∀ e, s.entry h = some e → e.phase.isGranted = true → e.timer = 0 → s.mode = .halt) →
      exec (.actTimerExpiry h) s = .next s)

/-- The confirm timer of a CONFIRMING entry that stands at 0 outside HALT: each asked tote takes the confirm default of
its stream, GRANT confirmed and DENY denied with its release entry barred, and in RUN the entry is resolved, in another
mode it keeps its decided totes; nothing else changes by it, and otherwise nothing happens (R24, R109; log 9). The
stream is that of the record kept at the selection, the model's choice for a tote that a SLOT-SET has declared anew
since (log 39). -/
def Obligations.ConfirmTimersExpire : Prop :=
  ∀ (s : State) (h : Handle), s.Rests →
    (∀ e, s.entry h = some e → e.phase = .confirming → e.timer = 0 → s.mode ≠ .halt →
      let decided : Entry := { e with items := e.items.map (fun i => { i with conf :=
        if i.conf = .asked then (match s.confirmDefault i.tote with
          | .grant => .confirmed
          | .deny => .denied)
        else i.conf }) }
      ∃ u : State, exec (.confirmTimerExpiry h) s
          = .next (if s.mode = .run then u.resolve h decided else u).finish
        ∧ u.entry h = some decided ∧ (∀ k, k ≠ h → u.entry k = s.entry k)
        ∧ (∀ i : StreamNo, u.stream i = { s.stream i with list := (s.stream i).list.map (fun r =>
          if i ≠ 0 ∧ ∃ j ∈ e.items, j.conf = .asked ∧ j.tote.id = r.id ∧ j.tote.stream.toNat = i.val
              ∧ (s.stream i).row.dflt = .deny then { r with barred := true } else r) })
        ∧ u = { s with table := u.table, streams := u.streams, work := { Work.done with touched := true } })
    ∧ ((∀ e, s.entry h = some e → e.phase = .confirming → e.timer = 0 → s.mode = .halt) →
      exec (.confirmTimerExpiry h) s = .next s)
    ∧ ∀ (r : ToteRec) (i : StreamNo), r.stream.toNat = i.val → s.confirmDefault r = (s.stream i).row.dflt

/-- The hold timer of a WAITING entry that stands at 0 outside HALT: the entry is refused TIMEOUT with its handle and
tag, and removed; otherwise nothing happens (R24, R51, R52). A timer stands at 0 until its expiry is taken, which is not
in HALT (log 9). The visit timer of an open visit that stands at 0 outside HALT: the visit ends, the lift's WAITING or
CONFIRMING entry is refused TIMEOUT and removed while a GRANTED one stays, and last VISIT TIMEOUT is raised against the
lift; otherwise nothing happens (R24, R72). When the interval of a RETURNING lift has run out another STATE-ASK is sent,
with the own-tag count of the link, if its downstream queue has a place, and the next is due 500 ticks later in either
case, counted from when its event is taken (log 26); the STATE-ASK takes the own-tag count as it stands when it is made
(log 14). An interval that has not run out, or is stopped, does nothing (R56, R135). -/
def Obligations.OtherTimersExpire : Prop :=
  (∀ (s : State) (h : Handle), s.Rests →
      (∀ e r, s.entry h = some e → e.phase = .waiting r → e.timer = 0 → s.mode ≠ .halt →
        exec (.holdTimerExpiry h) s
          = .next ((s.sendParty e.party (s.toward e.party 0x2A e.tag (.refuse e.kind.ask .timeout (BitVec.ofNat 8 h.val)))
            (some h)).removeEntry h e).finish)
      ∧ ((∀ e r, s.entry h = some e → e.phase = .waiting r → e.timer = 0 → s.mode = .halt) →
        exec (.holdTimerExpiry h) s = .next s))
  ∧ (∀ (s : State) (x : Lift), s.Rests →
      (∀ v, (s.lift x).visit = some v → v.timer = 0 → s.mode ≠ .halt →
        let u := s.endVisit x none
        (∀ h e, s.entryOf (.lift x) = some (h, e) → e.phase.isGranted = false →
          exec (.visitTimerExpiry x) s = .next ((u.refuseEntry h e .timeout).raise .visitTimeout (some (.lift x))).finish)
        ∧ ((∀ h e, s.entryOf (.lift x) = some (h, e) → e.phase.isGranted = true) →
          exec (.visitTimerExpiry x) s = .next (u.raise .visitTimeout (some (.lift x))).finish))
      ∧ ((∀ v, (s.lift x).visit = some v → v.timer = 0 → s.mode = .halt) → exec (.visitTimerExpiry x) s = .next s))
  ∧ (∀ (s : State) (x : Lift),
      let u := s.setLift x { s.lift x with askTimer := some 500 }
      ((s.lift x).askTimer = some 0 → (s.link x).down.length < 8 →
        exec (.stateAskInterval x) s = .next (u.setLink x { s.link x with
          down := (s.link x).down ++ [⟨s.toward (.lift x) 0x12 (s.link x).ownTag .nothing, true, false⟩] }))
      ∧ ((s.lift x).askTimer = some 0 → 8 ≤ (s.link x).down.length → exec (.stateAskInterval x) s = .next u)
      ∧ ((s.lift x).askTimer ≠ some 0 → exec (.stateAskInterval x) s = .next s))

/-! ### Faults -/

/-- A raising that is made: the record of its class takes it, with the count held at 255 and the first party and stamp
kept while it is pending; a class that becomes pending hands on FAULT (R172, R173). Then its disposition: NOTE does
nothing more, FENCE sets the latch of the party it names, HALT makes RUN and DRAIN into HALT (R164, R175). No other
record changes. The raisings of an event are made in their order at its end, after the scheduler's look, if the event
calls for one (R137, log 11), and the changes it passed on, with nothing left to do then (R171, log 7). A latch that is
set: set already, nothing changes; else the party's latch alone is set, an entry WAITING or CONFIRMING, or GRANTED with
its GO unsent, is refused PARTY-FAULT and removed, its unsent GOs of grants are withdrawn, and any other GRANTED entry
stays (R176); the withdrawal comes before the REFUSE by the model's choice (log 44), and spares the GO that answers a
VISIT-OPEN, by the model's choice too (R177, log 48). A GO is unsent while a GO of a grant that names the handle, and
whose frame has not begun, stands in the box of the shuttle's level or the lift's downstream queue, also one of an
earlier entry with that handle, by the model's choice (log 46). The HALT's withdrawal takes every GO of a grant whose
frame has not begun, and no other telegram (R164). -/
def Obligations.RaisingsAndLatches : Prop :=
  (∀ (s : State) (c : FaultClass) (p : Option Party),
      let t := s.recordFault ⟨c, p⟩
      (s.faultRec c = none → t = (s.setFaultRec c (some ⟨1, p, s.time, p, s.time⟩)).handFlag .fault)
      ∧ (∀ f, s.faultRec c = some f → t = s.setFaultRec c (some
          ⟨if f.count = 255 then 255 else f.count + 1, f.firstParty, f.firstStamp, p, s.time⟩))
      ∧ (∀ d, d ≠ c → t.faultRec d = s.faultRec d)
      ∧ (let u := s.applyRaise ⟨c, p⟩
        (s.disposition c = .note → u = t)
        ∧ (s.disposition c = .fence → p = none → u = t)
        ∧ (∀ q, s.disposition c = .fence → p = some q → u = t.setLatch q)
        ∧ (s.disposition c = .halt → (s.mode = .config ∨ s.mode = .halt) → u = t)
        ∧ (s.disposition c = .halt → (s.mode = .run ∨ s.mode = .drain) → u = (t.setMode .halt).withdrawAllGos))
      ∧ (∀ (left : Nat) (later : List Raise), s.work.touched = false → s.work.raises = ⟨c, p⟩ :: later →
        s.finishWith (left + 1)
          = (State.applyRaise { s with work := { s.work with raises := later } } ⟨c, p⟩).finishWith left)
      ∧ (∀ left, s.finishWith left = s.settle.finishWith left)
      ∧ (∀ left, s.work.touched = false → s.work.raises = [] → s.finishWith left = s)
      ∧ s.finish = (let t := (if s.work.look then s.schedule else s).finishWith 256
        { t with work := { t.work with touched := false, reeval := false, look := false, raises := [] } })
      ∧ s.raise c p = { s with work := { s.work with raises := s.work.raises ++ [⟨c, p⟩] } }
      ∧ ((s.mode = .config ∨ s.mode = .halt) → s.enterHalt = s)
      ∧ ((s.mode = .run ∨ s.mode = .drain) → s.enterHalt = (s.setMode .halt).withdrawAllGos))
  ∧ (∀ (s : State) (p : Party),
      let goes (begun : Bool) (m : Tel) : Bool := begun || (match m.body with
        | .go _ asked _ => asked = 0x30
        | _ => true)
      (s.latch p = true → s.setLatch p = s)
      ∧ (s.latch p = false →
        let u := (s.setLatchBit p true).withdrawGos p
        (s.entryOf p = none → s.setLatch p = u)
        ∧ ∀ h e, s.entryOf p = some (h, e) →
          ((e.phase.isGranted = false ∨ s.goUnsent p h = true) → s.setLatch p = u.refuseEntry h e .partyFault)
          ∧ (e.phase.isGranted = true → s.goUnsent p h = false → s.setLatch p = u))
      ∧ (let unsent (h : Handle) (begun : Bool) (m : Tel) : Prop :=
          begun = false ∧ ∃ asked grants, m.body = .go (BitVec.ofNat 8 h.val) asked grants ∧ asked ≠ 0x30
        ∀ h, (∀ n, p = .shuttle n → (s.goUnsent p h = true ↔ ∃ i ∈ (s.shuttle n).box, unsent h i.begun i.tel))
          ∧ (∀ x, p = .lift x → (s.goUnsent p h = true ↔ ∃ i ∈ (s.link x).down, unsent h i.begun i.tel)))
      ∧ (∀ n, p = .shuttle n → s.withdrawGos p = s.setShuttle n { s.shuttle n with
          box := (s.shuttle n).box.filter (fun i => goes i.begun i.tel) })
      ∧ (∀ x, p = .lift x → s.withdrawGos p = s.setLink x { s.link x with
          down := (s.link x).down.filter (fun i => goes i.begun i.tel) })
      ∧ (let t := s.withdrawAllGos
        (∀ n, t.shuttle n = { s.shuttle n with box := (s.shuttle n).box.filter (fun i => goes i.begun i.tel) })
        ∧ (∀ x, t.link x = { s.link x with down := (s.link x).down.filter (fun i => goes i.begun i.tel) })
        ∧ t = { s with shuttles := t.shuttles, links := t.links }))

/-- A flag that is handed on becomes pending with the others as they were, the attention output follows, and a NOTICE is
made when the flag is enabled (R190, R192). A NOTICE made while one is queued in the upstream queue, or waits for a
place there, merges with it: that one takes the new body and keeps its tag; else it is admitted at the tail while fewer
than 64 places are in use, with the own-tag count of the store line; else it waits (R131, R135; log 14). Its body gives
the pending flags, the low markers of streams 1 to 16, the lead fault and the mode (R88, R179, R190). Sets of flags: the
flags of both, those of one without the other, whether there is any. A change of mode writes the mode and the motion
permit output as one step and hands on MODE (R156, R157). -/
def Obligations.NoticesAreMade : Prop :=
  (∀ (s : State) (f : Flag),
      let pending := s.notices.pending.put f
      let u : State := { s with notices := ⟨pending, s.notices.enabled, (pending.both s.notices.enabled).any⟩ }
      (∀ g, pending.get g = (decide (g = f) || s.notices.pending.get g))
      ∧ (s.notices.enabled.get f = true → s.handFlag f = u.makeNotice)
      ∧ (s.notices.enabled.get f = false → s.handFlag f = u))
  ∧ (∀ s : State,
      let body : Body := .notice s.notices.pending.byte s.lowSet (match s.leadFault with
        | none => 0
        | some k => k.byte) s.mode.byte
      let one : Prop := (∃ m ∈ s.store.upstream, m.kind = 0x54) ∨ s.store.noticeWait ≠ none
      let made := s.upward 0x54 s.store.ownTag body
      (one → s.makeNotice = { s with store := { s.store with
          upstream := s.store.upstream.map (fun m => if m.kind = 0x54 then { m with body := body } else m)
          noticeWait := s.store.noticeWait.map (fun m => { m with body := body }) } })
      ∧ (¬ one → s.upstreamUsed < 64 →
        s.makeNotice = { s with store := { s.store with upstream := s.store.upstream ++ [made] } })
      ∧ (¬ one → 64 ≤ s.upstreamUsed → s.makeNotice = { s with store := { s.store with noticeWait := some made } })
      ∧ (∀ k : StreamNo, k ≠ 0 → s.lowSet.getLsbD (k.val - 1) = (s.stream k).lowMarker)
      ∧ ∀ m, s.setMode m
        = State.handFlag { s with modeCtl := { s.modeCtl with mode := m, motion := decide (m = .run ∨ m = .drain) } } .mode)
  ∧ (∀ (f : Flags) (i : Nat),
      f.byte.getLsbD i = [f.fault, f.mode, f.streamLow, f.serviceReady, f.doubt, f.overrun].getD i false)
  ∧ (∀ (f g : Flags),
      ((f.both g).any = true ↔ ∃ k, f.get k = true ∧ g.get k = true)
      ∧ (∀ k, (f.both g).get k = (f.get k && g.get k) ∧ (f.minus g).get k = (f.get k && !g.get k))
      ∧ (f.any = true ↔ ∃ k, f.get k = true)
      ∧ [Flag.fault, .mode, .streamLow, .serviceReady, .doubt, .overrun].map f.get
        = [f.fault, f.mode, f.streamLow, f.serviceReady, f.doubt, f.overrun])
  ∧ [Mode.config, .run, .drain, .halt].map Mode.byte = [0, 1, 2, 3]

/-- The lead fault is the first class of the priority list that is pending (R179). CLEAR-FAULT and CLEAR-LEAD clear one
record and give the class and the count it held; STOP INPUT is not cleared while the input is asserted (R180, R181).
CLEAR-PARTY clears a latch, tells what it was, and a latch that was set is a change for the hold queue (R178).
CLEAR-NOTICE: with bit 6 or 7 BAD-COUNT; else each named flag is no longer pending, the attention output follows,
STREAM-LOW clears every low marker, and a NOTICE queued or waiting shows the flags, low markers, lead fault and mode as
they are then; the ANSWER gives the flags still pending (R88, R191, R192). -/
def Obligations.FaultAndNoticeClears : Prop :=
  (∀ (s : State) (h : StoreHdr) (answer : Bool), Takes s h answer →
      let x (q : Req) := s.storeHunt.executing h.tag answer q
      let held (k : FaultClass) : Byte := match s.faultRec k with
        | none => 0
        | some f => f.count
      let stopped (k : FaultClass) : Prop := k = .stopInput ∧ s.modeCtl.stop = true
      (∀ k, s.leadFault = some k ↔ ∃ before after, s.faults.priority = before ++ k :: after ∧ s.faultRec k ≠ none
        ∧ ∀ j ∈ before, s.faultRec j = none)
      ∧ (∀ c : Byte, (c = 0 ∨ 12 < c.toNat) →
        exec (.clearFault h c) s = .next ((x (.clearFault c)).executed h.tag answer 0x40 (some .badCount) []))
      ∧ (∀ (c : Byte) (k : FaultClass), c = k.byte →
        (stopped k → exec (.clearFault h c) s = .next ((x (.clearFault c)).executed h.tag answer 0x40 (some .busy) []))
        ∧ (¬ stopped k → exec (.clearFault h c) s
          = .next (((x (.clearFault c)).setFaultRec k none).executed h.tag answer 0x40 none [c, held k])))
      ∧ (s.leadFault = none → exec (.clearLead h) s = .next ((x .clearLead).executed h.tag answer 0x41 none [0, 0]))
      ∧ (∀ k, s.leadFault = some k →
        (stopped k → exec (.clearLead h) s = .next ((x .clearLead).executed h.tag answer 0x41 (some .busy) [k.byte, 0]))
        ∧ (¬ stopped k → exec (.clearLead h) s
          = .next (((x .clearLead).setFaultRec k none).executed h.tag answer 0x41 none [k.byte, held k])))
      ∧ ∀ b : Byte,
        ((b = 0 ∨ 42 < b.toNat) →
          exec (.clearParty h b) s = .next ((x (.clearParty b)).executed h.tag answer 0x42 (some .badCount) []))
        ∧ ∀ p : Party, b = p.station →
          (s.latch p = false → exec (.clearParty h b) s
            = .next ((x (.clearParty b)).executed h.tag answer 0x42 none [b, 0]))
          ∧ (s.latch p = true → exec (.clearParty h b) s = .next
            (((x (.clearParty b)).setLatchBit p false).wantReeval.finish.executed h.tag answer 0x42 none [b, 1])))
  ∧ (∀ (s : State) (h : StoreHdr) (answer : Bool) (b : Byte), Takes s h answer →
      let x := s.storeHunt.executing h.tag answer (.clearNotice b)
      (64 ≤ b.toNat → exec (.clearNotice h b) s = .next (x.executed h.tag answer 0x43 (some .badCount) []))
      ∧ (b.toNat < 64 →
        let left := s.notices.pending.minus (flagsOf b)
        ∃ t : State, exec (.clearNotice h b) s = .next (t.executed h.tag answer 0x43 none [left.byte])
          ∧ t.notices = ⟨left, s.notices.enabled, (left.both s.notices.enabled).any⟩
          ∧ (∀ i, t.stream i = { s.stream i with
            lowMarker := if b.getLsbD 2 then false else (s.stream i).lowMarker })
          ∧ (let low : BitVec 16 := if b.getLsbD 2 then 0 else s.lowSet
            let body : Body := .notice left.byte low (match s.leadFault with
              | none => 0
              | some k => k.byte) s.mode.byte
            t.store = { x.store with
              upstream := s.store.upstream.map (fun m => if m.kind = 0x54 then { m with body := body } else m)
              noticeWait := s.store.noticeWait.map (fun m => { m with body := body }) })
          ∧ t = { x with notices := t.notices, streams := t.streams, store := t.store }))

/-! ### Tables and modes -/

/-- A level is mapped while at least one of its slots is, and a slot while it is not OFF (R6, R14). A slot map write is
refused with CONFIG outside CONFIG, with BAD-SLOT when a level's byte names a code outside 1 to 6 or maps slots without
an IN slot, and then changes nothing; a write of another length is BAD-COUNT. A write that is taken makes every slot
OFF, or DOUBT with cause MAPPED and the content it had; a level that becomes mapped goes RETURNING, one that becomes
unmapped UNMAPPED with its box gone and its orders answered NOT-FORWARDED UNMAPPED, and any other keeps its presence;
the sequencer and the call queues are to be brought up to date, nothing else changes, and DOUBT is handed on when a slot
is mapped (R13, R150, R184, R185). The first levels that become RETURNING while none was polled begin a new cycle, whose
first turn goes to the lowest; a level that was to have the next turn keeps it unless it becomes unmapped (R138, R150;
log 11, log 53). The NOT-FORWARDEDs come before the NOTICE, the model's choice (log 42). -/
def Obligations.SlotMapWrites : Prop :=
  (∀ (s : State) (n : Level), s.levelMapped n = true ↔ ∃ c, s.slot n c ≠ .off)
  ∧ ∀ (s : State) (h : StoreHdr) (answer : Bool) (map : List Byte), Takes s h answer →
    let x (q : Req) := s.storeHunt.executing h.tag answer q
    let a := exec (.slotMapWrite h map) s
    let bad (b : Byte) : Prop := b.getLsbD 6 = true ∨ b.getLsbD 7 = true
      ∨ (b ≠ 0 ∧ b.getLsbD 0 = false ∧ b.getLsbD 1 = false)
    (map.length ≠ 40 → map.length ≤ 46 → a = .next ((x (.badForm 1)).executed h.tag answer 1 (some .badCount) []))
    ∧ (map.length = 40 → s.mode ≠ .config →
      a = .next ((x (.slotMap map)).executed h.tag answer 1 (some .config) []))
    ∧ (map.length = 40 → s.mode = .config → (∃ b ∈ map, bad b) →
      a = .next ((x (.slotMap map)).executed h.tag answer 1 (some .badSlot) []))
    ∧ (map.length = 40 → s.mode = .config → (∀ b ∈ map, ¬ bad b) →
      ∃ t : State, a = .next (t.finish.executed h.tag answer 1 none [1])
        ∧ (∀ n c, t.slot n c = if (map.getD n.val 0).getLsbD (c.byte.toNat - 1) then
            .doubt (s.slot n c).content .mapped none none else .off)
        ∧ (∀ n, t.shuttle n =
          if map.getD n.val 0 = 0 then
            (if s.levelMapped n then ⟨.unmapped, 0, false, 0, []⟩ else s.shuttle n)
          else (if s.levelMapped n then s.shuttle n
            else { s.shuttle n with presence := .returning, miss := 0, mark := false }))
        ∧ (let kept : Bus := { s.bus with queue := s.bus.queue.filter (fun i => map.getD i.level.val 0 ≠ 0) }
          let polled (n : Level) : Prop := (s.shuttle n).presence = .online ∨ (s.shuttle n).presence = .returning
            ∨ (s.shuttle n).presence = .absent
          let first (n : Level) : Prop := s.levelMapped n = false ∧ map.getD n.val 0 ≠ 0
          t.bus = kept
          ∧ (s.bus.turn ≠ .idle → t.finish.bus = kept)
          ∧ (SchedulerFollows s → s.bus.turn = .idle → (∀ n, s.bus.next = some n → map.getD n.val 0 ≠ 0) →
            (∃ n, polled n) → t.finish.bus = kept)
          ∧ (SchedulerFollows s → s.bus.turn = .idle → (∀ n, ¬ polled n) →
            (∀ n, first n → (∀ k, k < n → ¬ first k) → t.finish.bus = { kept with
              pos := none
              next := some n
              cycle := true
              probeCycle := decide (s.timing.probeInterval.toNat ≤ s.bus.probeCount.toNat + 1) })
            ∧ ((∀ n, ¬ first n) → t.finish.bus = kept)))
        ∧ (let gone := s.bus.queue.filter (fun i => map.getD i.level.val 0 = 0)
          s.store.upstream.length + gone.length < 64 →
            t.store.upstream.filter (fun m => m.kind = 0x40) = s.store.upstream.filter (fun m => m.kind = 0x40)
              ++ gone.map (fun i => s.upward 0x40 i.tel.tag
                (.notForwarded .unmapped i.tel.dstAisle i.tel.dstStation i.tel.kind i.tel.tag)))
        ∧ ((∃ b ∈ map, b ≠ 0) → t.notices.pending.doubt = true)
        ∧ ((∀ b ∈ map, b = 0) → t.notices = s.notices)
        ∧ (s.store.upstream.length + (s.bus.queue.filter (fun i => map.getD i.level.val 0 = 0)).length < 64 →
          t.store.nfWait = s.store.nfWait ∧ t.work.raises = [])
        ∧ t.work = { (x (.slotMap map)).work with touched := true, look := true, raises := t.work.raises }
        ∧ t.store = { (x (.slotMap map)).store with
          upstream := t.store.upstream, noticeWait := t.store.noticeWait, nfWait := t.store.nfWait }
        ∧ t = { x (.slotMap map) with
          slots := t.slots, shuttles := t.shuttles, bus := t.bus, store := t.store, notices := t.notices
          work := t.work })

/-- A route table write: a stream above 16, or a value of the row outside its range, is BAD-COUNT; an alternate equal to
the primary is ROUTE; a change of a lift while the stream has custody is BUSY; and nothing changes. For stream 0 only
the routed mark and the lifts are looked at, and the other five fields keep their reset values. A row that is taken
replaces the old one whole, and one that changes a lift makes the new primary the active lift (R79, R80, R81). -/
def Obligations.RouteTableWrites : Prop :=
  ∀ (s : State) (h : StoreHdr) (answer : Bool) (stream : Byte) (w : RowBytes), Takes s h answer →
    let x := s.storeHunt.executing h.tag answer (.routeRow stream w)
    let a := exec (.routeTableWrite h stream w) s
    let refused (r : Reason) : Host.Outcome State Fault Refusal := .next (x.executed h.tag answer 1 (some r) [2, stream])
    let mark (b : Byte) : Prop := b = 0 ∨ b = 1
    let lifts : Prop := mark w.routed ∧ (w.primary = 41 ∨ w.primary = 42)
      ∧ (w.alternate = 0 ∨ w.alternate = 41 ∨ w.alternate = 42)
    let others : Prop := 1 ≤ w.window.toNat ∧ w.window.toNat ≤ 8 ∧ mark w.stray ∧ mark w.confirm ∧ mark w.dflt
      ∧ w.lowMark.toNat ≤ 127
    (16 < stream.toNat → a = refused .badCount)
    ∧ ∀ i : StreamNo, stream.toNat = i.val →
      ((¬ lifts ∨ (i ≠ 0 ∧ ¬ others)) → a = refused .badCount)
      ∧ (lifts → (i = 0 ∨ others) →
        let row : Row :=
          { routed := decide (w.routed = 1)
            primary := if w.primary = 41 then .a else .b
            alternate := if w.alternate = 0 then none else if w.alternate = 41 then some .a else some .b
            window := if i = 0 then 1 else w.window
            stray := if i ≠ 0 ∧ w.stray = 1 then .accept else .refuse
            confirm := decide (i ≠ 0 ∧ w.confirm = 1)
            dflt := if i ≠ 0 ∧ w.dflt = 1 then .grant else .deny
            lowMark := if i = 0 then 0 else w.lowMark }
        (row.alternate = some row.primary → a = refused .route)
        ∧ (row.alternate ≠ some row.primary →
          let old := s.stream i
          let moved : Prop := old.row.primary ≠ row.primary ∨ old.row.alternate ≠ row.alternate
          let custody : Prop := s.custody i .a = true ∨ s.custody i .b = true
          (moved → custody → a = refused .busy)
          ∧ (moved → ¬ custody → a = .next ((((x.setStream i { old with
              row := row, active := row.primary, switchPending := false }).wantReeval).finish).executed h.tag answer 1
              none [2, stream]))
          ∧ (¬ moved → a = .next ((((x.setStream i { old with row := row }).wantReeval).finish).executed h.tag answer 1
              none [2, stream]))))

/-- The other table writes: the timing table (R24, R186), a disposition (R174), the priority list (R179), the address
entries (R186), the notice enables (R190) and the resume default (R166, R185) are replaced whole when the values are in
their ranges, and are refused with the reason of their rule, unchanged, when they are not. The ranges of the timing
table: tick 1, 2, 5 or 10; the nine 16-bit values 1 to 65535; miss threshold 1 to 15; probe interval 2 to 64 (R24,
R186). Bits 0 to 5 of a flags byte stand for FAULT, MODE, STREAM-LOW, SERVICE-READY, DOUBT and OVERRUN (R190). The class
numbers (R171), and the numbers of dispositions and resume modes of Table 10-3. -/
def Obligations.TableWrites : Prop :=
  (∀ t : Timing, timingInRange t = true ↔
      (t.tick = 1 ∨ t.tick = 2 ∨ t.tick = 5 ∨ t.tick = 10)
      ∧ (∀ w ∈ [t.shuttleBase, t.shuttlePer, t.liftBase, t.liftPer, t.holdShuttle, t.holdLift, t.confirmLimit, t.visitBase,
        t.visitPer], 1 ≤ w.toNat ∧ w.toNat ≤ 65535)
      ∧ 1 ≤ t.missThreshold.toNat ∧ t.missThreshold.toNat ≤ 15 ∧ 2 ≤ t.probeInterval.toNat ∧ t.probeInterval.toNat ≤ 64)
  ∧ (∀ b : Byte, flagsOf b
      = ⟨b.getLsbD 0, b.getLsbD 1, b.getLsbD 2, b.getLsbD 3, b.getLsbD 4, b.getLsbD 5⟩)
  ∧ (∀ (b : Byte) (f : Flag), (flagsOf b).get f = b.getLsbD (match f with
      | .fault => 0
      | .mode => 1
      | .streamLow => 2
      | .serviceReady => 3
      | .doubt => 4
      | .overrun => 5))
  ∧ FaultClass.all = [.linkCheck, .linkForm, .route, .queueOverrun, .pollSilence, .partyMismatch, .actTimeout, .lateReport,
      .ungrantedAct, .visitTimeout, .order, .stopInput]
  ∧ FaultClass.all.map FaultClass.byte = [1, 2, 3, 4, 5, 6, 7, 8, 9, 10, 11, 12]
  ∧ (∀ c : FaultClass, c.byte.toNat = c.idx.val + 1)
  ∧ [Disposition.note, .fence, .halt].map Disposition.byte = [0, 1, 2]
  ∧ [ResumeMode.reissue, .revoke].map ResumeMode.byte = [1, 2]
  ∧ ∀ (s : State) (h : StoreHdr) (answer : Bool), Takes s h answer →
    let x (q : Req) := s.storeHunt.executing h.tag answer q
    let refused (q : Req) (r : Reason) : Host.Outcome State Fault Refusal :=
      .next ((x q).executed h.tag answer 1 (some r) [])
    (∀ t : Timing,
      (t.tick ≠ s.timing.tick → s.mode ≠ .config → exec (.timingTableWrite h t) s = refused (.timing t) .config)
      ∧ ((t.tick = s.timing.tick ∨ s.mode = .config) →
        (timingInRange t = false → exec (.timingTableWrite h t) s = refused (.timing t) .badCount)
        ∧ (timingInRange t = true → exec (.timingTableWrite h t) s
          = .next (State.executed { x (.timing t) with timing := t } h.tag answer 1 none [3]))))
    ∧ (∀ c d : Byte,
      ((c = 0 ∨ 12 < c.toNat) → exec (.dispositionTableWrite h c d) s = refused (.disposition c d) .badCount)
      ∧ ((c = 9 ∨ c = 12) → exec (.dispositionTableWrite h c d) s = refused (.disposition c d) .readOnly)
      ∧ (1 ≤ c.toNat → c.toNat ≤ 12 → c ≠ 9 → c ≠ 12 → 2 < d.toNat →
        exec (.dispositionTableWrite h c d) s = refused (.disposition c d) .badCount)
      ∧ (∀ (k : FaultClass) (e : Disposition), c = k.byte → c ≠ 9 → c ≠ 12 → d = e.byte →
        exec (.dispositionTableWrite h c d) s
          = .next (State.executed { x (.disposition c d) with faults := { s.faults with
              dispositions := s.faults.dispositions.set k.idx e } } h.tag answer 1 none [4, c, d])))
    ∧ (∀ l : List Byte, l.length ≤ 45 →
      ((12 < l.length ∨ (∃ b ∈ l, b = 0 ∨ 12 < b.toNat) ∨ ¬ l.Nodup) →
        exec (.priorityListWrite h l) s = refused (.priority l) .badCount)
      ∧ (∀ cs : List FaultClass, cs.Nodup → l = cs.map FaultClass.byte → exec (.priorityListWrite h l) s
          = .next (State.executed { x (.priority l) with faults := { s.faults with priority := cs } } h.tag answer 1
            none [5])))
    ∧ (∀ g v m : Byte,
      (s.mode ≠ .config → exec (.addressEntriesWrite h g v m) s = refused (.address g v m) .config)
      ∧ (s.mode = .config → 63 < g.toNat → exec (.addressEntriesWrite h g v m) s = refused (.address g v m) .badCount)
      ∧ (s.mode = .config → g.toNat ≤ 63 → exec (.addressEntriesWrite h g v m) s
          = .next (State.executed { x (.address g v m) with store := { (x (.address g v m)).store with
              group := g, maskValue := v, mask := m } } h.tag answer 1 none [6])))
    ∧ (∀ e : Byte,
      (64 ≤ e.toNat → exec (.noticeEnablesWrite h e) s = refused (.enables e) .badCount)
      ∧ (e.toNat < 64 →
        let u : State := { x (.enables e) with notices :=
          ⟨s.notices.pending, flagsOf e, (s.notices.pending.both (flagsOf e)).any⟩ }
        let turned := (((flagsOf e).minus s.notices.enabled).both s.notices.pending).any
        exec (.noticeEnablesWrite h e) s
          = .next (State.executed (if turned then u.makeNotice else u) h.tag answer 1 none [7])))
    ∧ ∀ b : Byte,
      (b ≠ 1 → b ≠ 2 → exec (.resumeDefaultWrite h b) s = refused (.resumeDefault b) .badCount)
      ∧ ∀ r : ResumeMode, b = r.byte → exec (.resumeDefaultWrite h b) s
          = .next (State.executed { x (.resumeDefault b) with modeCtl := { s.modeCtl with resumeDefault := r } } h.tag
            answer 1 none [8])

/-- A table read gives the table's number and contents in the form in which they are written, with the fixed marks of
table 4 and the unique number of table 6; a stream outside 0 to 16 is NO-ROUTE, a table outside 1 to 8 BAD-COUNT (R185).
-/
def Obligations.TableReads : Prop :=
  ∀ (s : State) (h : StoreHdr) (answer : Bool) (t stream : Byte), Takes s h answer →
    let x := s.storeHunt.executing h.tag answer (.tableRead t stream)
    let read := exec (.tableRead h t stream) s
    let given (data : List Byte) : Host.Outcome State Fault Refusal := .next (x.executed h.tag answer 0x02 none data)
    let refused (r : Reason) : Host.Outcome State Fault Refusal := .next (x.executed h.tag answer 0x02 (some r) [])
    let mark (b : Bool) : Byte := if b then 1 else 0
    let w := s.timing
    (t = 1 → ∃ map : List Byte, read = given (1 :: map) ∧ map.length = 40
      ∧ ∀ (n : Level) (c : SlotCode), (map.getD n.val 0).toNat < 64
        ∧ (map.getD n.val 0).getLsbD (c.byte.toNat - 1) = (s.slot n c).mapped)
    ∧ (t = 2 → 16 < stream.toNat → read = refused .noRoute)
    ∧ (∀ i : StreamNo, t = 2 → stream.toNat = i.val →
      let r := (s.stream i).row
      read = given [2, stream, mark r.routed, r.primary.station, match r.alternate with
          | none => 0
          | some y => y.station, r.window, mark (r.stray = .accept), mark r.confirm, mark (r.dflt = .grant), r.lowMark])
    ∧ (t = 3 → read = given ([3, w.tick] ++ be16 w.shuttleBase ++ be16 w.shuttlePer ++ be16 w.liftBase ++ be16 w.liftPer
        ++ be16 w.holdShuttle ++ be16 w.holdLift ++ be16 w.confirmLimit ++ be16 w.visitBase ++ be16 w.visitPer
        ++ [w.missThreshold, w.probeInterval]))
    ∧ (t = 4 → read = given (4 :: FaultClass.all.map (fun c => (match s.disposition c with
        | .note => 0
        | .fence => 1
        | .halt => 2) + if c = .ungrantedAct ∨ c = .stopInput then 128 else 0)))
    ∧ (t = 5 → read = given ([5, BitVec.ofNat 8 s.faults.priority.length] ++ s.faults.priority.map FaultClass.byte))
    ∧ (t = 6 → read = given [6, s.store.unique, s.store.group, s.store.maskValue, s.store.mask])
    ∧ (t = 7 → read = given [7, s.notices.enabled.byte])
    ∧ (t = 8 → read = given [8, if s.modeCtl.resumeDefault = .reissue then 1 else 2])
    ∧ ((t = 0 ∨ 8 < t.toNat) → read = refused .badCount)

/-- MODE-SET by present mode and target: what is carried out, what is refused, and with which reason; an entry into RUN
checks the run conditions in order; the resume byte names the default with 0, REISSUE with 1 and REVOKE with 2; the
ANSWER gives the mode after the request (R158 to R162, R164, R166 to R168). -/
def Obligations.ModeSets : Prop :=
  (∀ (s : State) (h : StoreHdr) (answer : Bool) (resume : Byte) (r : Option ResumeMode), Takes s h answer →
      resumeOf resume = some r →
      let x (m : Byte) := s.storeHunt.executing h.tag answer (.modeSet m resume)
      let ok (u : State) : Host.Outcome State Fault Refusal :=
        .next (u.finish.executed h.tag answer 0x10 none [u.finish.mode.byte])
      let refused (m : Byte) (why : Reason) : Host.Outcome State Fault Refusal :=
        .next ((x m).executed h.tag answer 0x10 (some why) [s.mode.byte])
      let run := exec (.entryIntoRun h resume) s
      let config := exec (.modeSetConfig h resume) s
      let drain := exec (.entryIntoDrain h resume) s
      let halt := exec (.entryIntoHalt h resume) s
      let blocked : Prop := s.modeCtl.stop = true
        ∨ ∃ c, (∃ f, s.faultRec c = some f) ∧ s.disposition c = .halt
      let idle : Prop := (∀ k, s.entry k = none) ∧ ∀ y, (s.lift y).visit = none
      (s.mode = .config → config = ok (x 0) ∧ drain = refused 2 .config ∧ halt = refused 3 .config
        ∧ ((∀ n, s.levelMapped n = false) → run = refused 1 .unmapped)
        ∧ ((∃ n, s.levelMapped n = true) → blocked → run = refused 1 .halted)
        ∧ ((∃ n, s.levelMapped n = true) → ¬ blocked → run = ok ((x 1).setMode .run).wantReeval))
      ∧ (s.mode = .run → run = ok (x 1) ∧ drain = ok (x 2).drain ∧ halt = ok (x 3).enterHalt
        ∧ (idle → config = ok ((x 0).setMode .config)) ∧ (¬ idle → config = refused 0 .busy))
      ∧ (s.mode = .drain → config = refused 0 .busy ∧ drain = ok (x 2) ∧ halt = ok (x 3).enterHalt
        ∧ (blocked → run = refused 1 .halted) ∧ (¬ blocked → run = ok ((x 1).setMode .run).wantReeval))
      ∧ (s.mode = .halt → config = ok (x 0).cleanup ∧ drain = refused 2 .halted ∧ halt = ok (x 3)
        ∧ (blocked → run = refused 1 .halted)
        ∧ (¬ blocked → run = ok (match r.getD s.modeCtl.resumeDefault with
          | .reissue => (x 1).reissue
          | .revoke => (x 1).resumeRevoke)))
      ∧ exec (.returnToRun h resume) s = run ∧ exec (.cleanupIntoConfig h resume) s = config
      ∧ (resume = 1 → exec (.resumeReissue h) s = run) ∧ (resume = 2 → exec (.resumeRevoke h) s = run))
  ∧ (∀ (s : State) (h : StoreHdr) (answer : Bool) (resume : Byte), Takes s h answer → 2 < resume.toNat →
    let refused (m : Byte) : Host.Outcome State Fault Refusal :=
      .next ((s.storeHunt.executing h.tag answer (.modeSet m resume)).executed h.tag answer 0x10 (some .badCount)
        [s.mode.byte])
    exec (.entryIntoRun h resume) s = refused 1 ∧ exec (.modeSetConfig h resume) s = refused 0
      ∧ exec (.entryIntoDrain h resume) s = refused 2 ∧ exec (.entryIntoHalt h resume) s = refused 3)
  ∧ resumeOf 0 = some none ∧ resumeOf 1 = some (some .reissue) ∧ resumeOf 2 = some (some .revoke)
  ∧ ∀ b : Byte, 2 < b.toNat → resumeOf b = none

/-- An entry into DRAIN leaves the GRANTED entries as they were and no other entry, and open the visits of lifts with a
GRANTED entry; with no GRANTED entry the aisle goes on to CONFIG in the same step. Each WAITING or CONFIRMING entry's
party is answered REFUSE DRAINING with handle and tag, a lift's visit that ends is told by a VISIT-END with its
remaining counts, both at the tail of the lift's queue or by the rule of the answer box; unsent CONFIRM-ASKs of the
entries removed are discarded; slots, release lists and faults stay (R39, R52, R161, R162). A resume with REISSUE gives
each GRANTED entry of a party whose latch is clear the grant stamp and the full act limit anew and sends its GO again,
with its handle, slots and totes and the tag of its ask, into the answer box of a shuttle's level or to the tail of a
lift's queue; removes those of latched parties, which are answered REFUSE REVOKED with handle and tag, whose pledges are
removed, so that a tote of theirs is pledged after it by another grant alone, and whose claimed slots enter DOUBT with
cause REVOKED and their content kept, and hands on DOUBT then. A CONFIRMING entry with a tote asked stays as it is, its
timer going on, and one with none is resolved as R110 says: the items still fetchable are granted with the slots where
they stand; with none the entry is refused DENIED and removed, or is held NOT-ELIGIBLE with its tag and ask stamp when
its wait flag is set, and takes part in the re-evaluation. An entry that goes on waiting keeps its hold timer. A party
without an entry is sent nothing. Each visit timer starts at its full limit (R10, R39, R166). Each lift's downstream
queue has two places for what it may be sent; with none, the QUEUE OVERRUN raised could change more. -/
def Obligations.DrainsAndReissues : Prop :=
  ∀ (s : State) (h : StoreHdr), Takes s h true → OneEntryEach s → ClaimsOwned s →
    (∀ y, (s.link y).down.length ≤ 6) →
    let granted (k : Handle) : Prop := ∃ e ∈ s.entry k, e.phase.isGranted = true
    let goOf (k : Handle) (asked : Kind) (items : List Item) : Body := .go (BitVec.ofNat 8 k.val) asked.ask
      (items.filterMap (fun i => i.slot.map (fun a => (a.1, a.2, i.tote.id))))
    let refused (k : Handle) (e : Entry) (r : Reason) : Tel :=
      s.toward e.party 0x2A e.tag (.refuse e.kind.ask r (BitVec.ofNat 8 k.val))
    (s.mode = .run → ∃ t, exec (.entryIntoDrain h 0) s = .next t
      ∧ (∀ y, t.link y = { s.link y with down := (s.link y).down
        ++ (match s.entryOf (.lift y) with
          | none => []
          | some (k, e) => if e.phase.isGranted then [] else [⟨refused k e .draining, true, false⟩])
        ++ (match (s.lift y).visit with
          | none => []
          | some v => if (s.entryOf (.lift y)).any (fun q => q.2.phase.isGranted) then []
            else [⟨s.toward (.lift y) 0x32 v.tag (.visit (BitVec.ofNat 8 (v.level.val + 1)) (BitVec.ofNat 8 v.p)
              (BitVec.ofNat 8 v.f)), true, false⟩]) })
      ∧ (∀ n, t.shuttle n = match s.entryOf (.shuttle n) with
        | none => s.shuttle n
        | some (k, e) => if e.phase.isGranted then s.shuttle n
          else (s.sendParty e.party (refused k e .draining) (some k)).shuttle n)
      ∧ t.unsentAsks = s.unsentAsks.filter (fun m =>
        allHandles.all (fun k => !((s.entry k).any (fun e => !e.phase.isGranted) && m.asksAbout k)))
      ∧ t.slots = s.slots ∧ (∀ i, (t.stream i).list = (s.stream i).list) ∧ t.faults = s.faults
      ∧ (∀ k, granted k → t.entry k = s.entry k) ∧ (∀ k, ¬ granted k → t.entry k = none)
      ∧ (∀ y, (∃ k e, s.entry k = some e ∧ e.party = .lift y ∧ e.phase.isGranted = true) →
        (t.lift y).visit = (s.lift y).visit)
      ∧ (∀ y, (∀ k e, s.entry k = some e → e.party = .lift y → e.phase.isGranted = false) → (t.lift y).visit = none)
      ∧ ((∃ k, granted k) → t.mode = .drain ∧ t.modeCtl.motion = true)
      ∧ ((∀ k, ¬ granted k) → t.mode = .config ∧ t.modeCtl.motion = false))
    ∧ (s.mode = .halt → s.modeCtl.stop = false → (∀ c, s.disposition c = .halt → s.faultRec c = none) →
      ∃ t, exec (.resumeReissue h) s = .next t ∧ t.mode = .run ∧ t.modeCtl.motion = true
        ∧ (∀ k e g, s.entry k = some e → e.phase = .granted g → s.latch e.party = false →
          t.entry k = some { e with
            phase := .granted s.time
            timer := match e.party with
              | .shuttle _ => s.timing.shuttleBase.zeroExtend 32
                + s.timing.shuttlePer.zeroExtend 32 * BitVec.ofNat 32 e.items.length
              | .lift _ => s.timing.liftBase.zeroExtend 32
                + s.timing.liftPer.zeroExtend 32 * BitVec.ofNat 32 e.items.length }
          ∧ (let go := s.toward e.party 0x28 e.tag (goOf k e.kind e.items)
            (∀ n, e.party = .shuttle n → (t.shuttle n).box = ((s.sendParty e.party go (some k)).shuttle n).box)
            ∧ ∀ x, e.party = .lift x → (t.link x).down = (s.link x).down ++ [⟨go, true, false⟩]))
        ∧ (∀ k e, s.entry k = some e → e.phase = .confirming → (∃ i ∈ e.items, i.conf = .asked) →
          t.entry k = some e)
        ∧ (∀ k e e' r q, s.entry k = some e → e.phase = .waiting r → t.entry k = some e' → e'.phase = .waiting q →
          e' = { e with phase := .waiting q })
        ∧ (∀ k e x v, s.entry k = some e → e.phase = .confirming → (∀ i ∈ e.items, i.conf ≠ .asked) →
          e.party = .lift x → (s.lift x).visit = some v →
          let stands (i : Item) (c : SlotCode) : Bool :=
            (s.slot v.level c).ready.any (fun t => t.tote.id = i.tote.id && s.eligible t.tote)
          let passes (i : Item) : Bool := (i.conf = .confirmed || i.conf = .none) && (outPair x).any (stands i)
          let sent (kind : Byte) (b : Body) : DownItem := ⟨s.toward e.party kind e.tag b, true, false⟩
          ((∃ i ∈ e.items, passes i = true) → ∃ kept : List Item,
            t.entry k = some { e with
              phase := .granted s.time
              items := kept
              timer := s.timing.liftBase.zeroExtend 32 + s.timing.liftPer.zeroExtend 32 * BitVec.ofNat 32 kept.length }
            ∧ kept.map (fun j => (j.tote.id, j.conf)) = (e.items.filter passes).map (fun i => (i.tote.id, i.conf))
            ∧ (∀ j ∈ kept, ∃ c b, j.slot = some (v.level, c) ∧ c.outLift = some x
              ∧ s.slot v.level c = .opened (some b) none ∧ j.tote = b.tote)
            ∧ (t.link x).down = (s.link x).down ++ [sent 0x28 (goOf k e.kind kept)])
          ∧ ((∀ i ∈ e.items, passes i = false) → e.wait = false → t.entry k = none
            ∧ (t.link x).down = (s.link x).down ++ [sent 0x2A (.refuse e.kind.ask .denied (BitVec.ofNat 8 k.val))])
          ∧ ((∀ i ∈ e.items, passes i = false) → e.wait = true →
            (∃ e', t.entry k = some e' ∧ e'.party = e.party ∧ e'.kind = e.kind ∧ e'.tag = e.tag
              ∧ e'.askStamp = e.askStamp ∧ (∀ q, e'.phase = .waiting q → e'.timer = s.timing.holdLift.zeroExtend 32))
            ∧ sent 0x29 (.hold (BitVec.ofNat 8 k.val) .notEligible) ∈ (t.link x).down))
        ∧ (∀ k e g, s.entry k = some e → e.phase = .granted g → s.latch e.party = true → t.entry k = none
          ∧ t.notices.pending.doubt = true
          ∧ (∀ x, e.party = .lift x →
            (t.link x).down = (s.link x).down ++ [⟨refused k e .revoked, true, false⟩])
          ∧ (∀ n, e.party = .shuttle n →
            (t.shuttle n).box = ((s.sendParty e.party (refused k e .revoked) (some k)).shuttle n).box)
          ∧ ∀ i ∈ e.items, ∀ n c content kind id, i.slot = some (n, c) →
            s.slot n c = .opened content (some ⟨kind, k, id⟩) → t.slot n c = .doubt content .revoked none none)
        ∧ (let pledges (e : Entry) (i : StreamNo) (id : ToteId) : Prop := (∃ x, e.party = .lift x) ∧ e.kind = .fetch
            ∧ e.phase.isGranted = true ∧ ∃ j ∈ e.items, j.tote.id = id ∧ j.tote.stream.toNat = i.val
          ∀ k e i, s.entry k = some e → s.latch e.party = true → i ≠ 0 → ∀ r ∈ (t.stream i).list, pledges e i r.id →
            r.pledged = true → ∃ l f, t.entry l = some f ∧ pledges f i r.id)
        ∧ (∀ x, s.entryOf (.lift x) = none → t.link x = s.link x)
        ∧ (∀ n, s.entryOf (.shuttle n) = none → t.shuttle n = s.shuttle n)
        ∧ t.faults = s.faults
        ∧ ∀ y, (t.lift y).visit = (s.lift y).visit.map (fun v => { v with timer := v.limit }))

/-- After a resume with REVOKE, and after a cleanup into CONFIG, the transfer table is empty and no visit is open; the
mode is RUN or CONFIG with the output that belongs to it. Each slot that a GRANTED entry claimed is in DOUBT, with cause
REVOKED or HALT-CONFIG and its content kept, and DOUBT is handed on; every slot without a claim is as it was (R10). The
pledges of GRANTED lift FETCHes are removed, and the unsent CONFIRM-ASKs of all entries discarded. Each entry's party is
answered REFUSE REVOKED with handle and tag, and each open visit told by a VISIT-END with its remaining counts: for a
lift at the tail of its queue, for a shuttle by the rule of its answer box; no fault is raised (R39, R52, R70). For
REVOKE, and for what a cleanup sends to a lift, each lift's downstream queue has two places for the REFUSE and the
VISIT-END it may be sent; with none, the QUEUE OVERRUN raised could halt the aisle again at a REVOKE (R128, R167, R168,
R175). -/
def Obligations.RevokeAndCleanupEmptyTheTable : Prop :=
  ∀ (s : State) (h : StoreHdr), Takes s h true → s.mode = .halt → OneEntryEach s →
    let emptied (t : State) : Prop := (∀ k, t.entry k = none) ∧ ∀ y, (t.lift y).visit = none
    let doubted (t : State) (cause : DoubtCause) : Prop :=
      (∀ k e, s.entry k = some e → e.phase.isGranted = true → t.notices.pending.doubt = true
        ∧ ∀ i ∈ e.items, ∀ n c content kind id, i.slot = some (n, c) →
          s.slot n c = .opened content (some ⟨kind, k, id⟩) → t.slot n c = .doubt content cause none none)
      ∧ ∀ n c, (s.slot n c).claim = none → t.slot n c = s.slot n c
    let refused (k : Handle) (e : Entry) : Tel :=
      s.toward e.party 0x2A e.tag (.refuse e.kind.ask .revoked (BitVec.ofNat 8 k.val))
    let fetches (e : Entry) : Bool := match e.party, e.kind with
      | .lift _, .fetch => e.phase.isGranted
      | _, _ => false
    let names (e : Entry) (i : StreamNo) (id : ToteId) : Bool :=
      e.items.any (fun j => j.tote.id = id && j.tote.stream.toNat = i.val)
    let unpledged (t : State) : Prop := ∀ i : StreamNo, (t.stream i).list = (s.stream i).list.map (fun r =>
      if i ≠ 0 ∧ allHandles.any (fun k => (s.entry k).any (fun e => fetches e && names e i r.id)) = true then
        { r with pledged := false } else r)
    let discarded (t : State) : Prop := t.unsentAsks = s.unsentAsks.filter (fun m =>
      allHandles.all (fun k => !((s.entry k).isSome && m.asksAbout k)))
    let told (t : State) : Prop :=
      (∀ y, t.link y = { s.link y with down := (s.link y).down
        ++ (match s.entryOf (.lift y) with
          | none => []
          | some (k, e) => [⟨refused k e, true, false⟩])
        ++ (match (s.lift y).visit with
          | none => []
          | some v => [⟨s.toward (.lift y) 0x32 v.tag (.visit (BitVec.ofNat 8 (v.level.val + 1)) (BitVec.ofNat 8 v.p)
              (BitVec.ofNat 8 v.f)), true, false⟩]) })
      ∧ t.faults = s.faults
    let boxed (t : State) : Prop := ∀ n, t.shuttle n = match s.entryOf (.shuttle n) with
      | none => s.shuttle n
      | some (k, e) => (s.sendParty e.party (refused k e) (some k)).shuttle n
    (s.modeCtl.stop = false → (∀ c, s.disposition c = .halt → s.faultRec c = none) →
      (∀ y, (s.link y).down.length ≤ 6) →
      ∃ t, exec (.resumeRevoke h) s = .next t ∧ emptied t ∧ doubted t .revoked ∧ unpledged t ∧ discarded t
        ∧ told t ∧ boxed t ∧ t.mode = .run ∧ t.modeCtl.motion = true)
    ∧ ∃ t, exec (.cleanupIntoConfig h 0) s = .next t ∧ emptied t ∧ doubted t .haltConfig ∧ unpledged t ∧ discarded t
      ∧ ((∀ y, (s.link y).down.length ≤ 6) → told t) ∧ boxed t ∧ t.mode = .config ∧ t.modeCtl.motion = false

/-! ### Streams, confirmations, slots, service -/

/-- STREAM-APPEND: a stream outside 1 to 16, no ID, or an ID 0 is refused, where several apply with the first of these
by the model's choice (log 38); else the IDs are looked at in order, those in no list are appended once each, the others
skipped, until one that is not skipped finds the list at 128 or the pool at 1024; the ANSWER gives stream, appended,
skipped and list length (R83). -/
def Obligations.StreamAppends : Prop :=
  ∀ (s : State) (h : StoreHdr) (answer : Bool) (stream : Byte) (ids : List ToteId), Takes s h answer →
    ids.length ≤ 11 →
    let x := s.storeHunt.executing h.tag answer (.append stream ids)
    let a := exec (.streamAppend h stream ids) s
    let refused (r : Reason) : Host.Outcome State Fault Refusal := .next (x.executed h.tag answer 0x20 (some r) [])
    ((stream = 0 ∨ 16 < stream.toNat) → a = refused .noRoute)
    ∧ ∀ i : StreamNo, i ≠ 0 → stream.toNat = i.val →
      (ids = [] → a = refused .badCount)
      ∧ (0 ∈ ids → a = refused .badTote)
      ∧ (ids ≠ [] → 0 ∉ ids →
        let old := s.stream i
        let used := ((List.finRange 17).map (fun k => (s.stream k).list.length)).sum
        let unlisted (id : ToteId) : Bool := decide (∀ k : StreamNo, ∀ e ∈ (s.stream k).list, e.id ≠ id)
        ∃ looked rest : List ToteId, ids = looked ++ rest ∧
          let new := (looked.filter unlisted).eraseDups
          let list := old.list ++ new.map (fun id => ⟨id, false, false⟩)
          let u := if new = [] then x else (x.setStream i { old with list := list }).wantReeval
          let answered (r : Option Reason) : Host.Outcome State Fault Refusal :=
            .next (u.finish.executed h.tag answer 0x20 r [stream, BitVec.ofNat 8 new.length,
              BitVec.ofNat 8 (looked.length - new.length), BitVec.ofNat 8 list.length])
          (new ≠ [] → list.length ≤ 128 ∧ used + new.length ≤ 1024)
          ∧ ((rest = [] ∧ a = answered (if looked.length = new.length then none else some .duplicate))
            ∨ ∃ id more, rest = id :: more ∧ unlisted id = true ∧ id ∉ new
              ∧ ((128 ≤ list.length ∧ a = answered (some .listFull))
                ∨ (list.length < 128 ∧ 1024 ≤ used + new.length ∧ a = answered (some .poolFull)))))

/-- STREAM-CUT and UNBAR. A cut removes the entries named, or all, that are not pledged; the others keep their order; a
fall below the low mark sets the low marker and hands on STREAM-LOW, whose NOTICE stands before what the hold queue
makes of the cut, by the model's choice (log 45); the ANSWER counts removed, kept and not found, and the length (R84,
R88). Where several refusals apply the stream comes first, by the model's choice (log 38). UNBAR clears the bar of a
barred entry of the stream, else it is VOID (R115). -/
def Obligations.StreamCutsAndUnbars : Prop :=
  ∀ (s : State) (h : StoreHdr) (answer : Bool) (stream : Byte), Takes s h answer →
    (∀ ids : List ToteId, ids.length ≤ 11 →
      let x := s.storeHunt.executing h.tag answer (.cut stream ids)
      let a := exec (.streamCut h stream ids) s
      let refused (r : Reason) : Host.Outcome State Fault Refusal := .next (x.executed h.tag answer 0x21 (some r) [])
      ((stream = 0 ∨ 16 < stream.toNat) → a = refused .noRoute)
      ∧ ∀ i : StreamNo, i ≠ 0 → stream.toNat = i.val →
        (0 ∈ ids → a = refused .badTote)
        ∧ (0 ∉ ids → ((s.stream i).list.map (fun e => e.id)).Nodup →
          let old := s.stream i
          let left := old.list.filter (fun e => e.pledged || !(ids.isEmpty || ids.contains e.id))
          let removed := old.list.length - left.length
          let kept := if ids = [] then left.length
            else (ids.filter (fun id => old.list.any (fun e => e.id = id && e.pledged))).length
          let fell : Bool := old.row.lowMark.toNat ≤ old.list.length && left.length < old.row.lowMark.toNat
          let y := x.setStream i { old with list := left, lowMarker := fell || old.lowMarker }
          let u := if removed = 0 then x else (if fell then y.handFlag .streamLow else y).wantReeval
          a = .next (u.finish.executed h.tag answer 0x21 none [stream, BitVec.ofNat 8 removed, BitVec.ofNat 8 kept,
            BitVec.ofNat 8 (ids.length - removed - kept), BitVec.ofNat 8 left.length])))
    ∧ ∀ id : ToteId,
      let x := s.storeHunt.executing h.tag answer (.unbar stream id)
      let a := exec (.unbar h stream id) s
      let refused (r : Reason) : Host.Outcome State Fault Refusal := .next (x.executed h.tag answer 0x22 (some r) [])
      ((stream = 0 ∨ 16 < stream.toNat) → a = refused .noRoute)
      ∧ ∀ i : StreamNo, i ≠ 0 → stream.toNat = i.val →
        let old := s.stream i
        (id = 0 → a = refused .badTote)
        ∧ (id ≠ 0 → (∀ e ∈ old.list, e.id = id → e.barred = false) → a = refused .void)
        ∧ (id ≠ 0 → (old.list.map (fun e => e.id)).Nodup → (∃ e ∈ old.list, e.id = id ∧ e.barred = true) →
          a = .next (((x.setStream i { old with
            list := old.list.map (fun e => if e.id = id then { e with barred := false } else e) }).wantReeval).finish.executed
              h.tag answer 0x22 none []))

/-- CONFIRM and DENY: VOID unless the handle's entry is CONFIRMING and holds the tote as asked; else the tote is
confirmed or denied, a DENY bars its release entry if it is listed, in the list of the stream of the record kept at the
selection, the model's choice where a SLOT-SET has declared the tote anew since (log 39), and in RUN an entry with no
asked tote left is resolved; the ANSWER gives handle, tote ID and, for a DENY, whether a bar was set (R108, R110, R114).
The resolution of a CONFIRMING entry: the items that are confirmed, or needed no confirmation, and whose totes stand
OPEN, unclaimed and eligible in the lift's own pair at the visit level are granted where they stand now; with none left
the entry waits with NOT-ELIGIBLE and an empty list, or is refused DENIED, by its wait flag; in every case its unsent
CONFIRM-ASKs are discarded (R107, R110, R111). -/
def Obligations.DecisionsAndResolutions : Prop :=
  (∀ (s : State) (h : StoreHdr) (answer : Bool) (hb : Byte) (id : ToteId), Takes s h answer →
      let x (q : Req) := s.storeHunt.executing h.tag answer q
      ((∀ (k : Handle) e, hb.toNat = k.val → s.entry k = some e → e.phase = .confirming →
          ∀ i ∈ e.items, i.tote.id = id → i.conf ≠ .asked) →
        exec (.confirm h hb id) s = .next ((x (.confirm hb id)).executed h.tag answer 0x23 (some .void) [])
          ∧ exec (.deny h hb id) s = .next ((x (.deny hb id)).executed h.tag answer 0x24 (some .void) []))
      ∧ ∀ (k : Handle) (e : Entry) (i : Item), hb.toNat = k.val → s.entry k = some e → e.phase = .confirming →
        i ∈ e.items → i.tote.id = id → i.conf = .asked → (e.items.map (fun j => j.tote.id)).Nodup →
        let after (c : Conf) : Entry :=
          { e with items := e.items.map (fun j => if j.tote.id = id then { j with conf := c } else j) }
        let ended (u : State) (c : Conf) : State :=
          if s.mode = .run ∧ ∀ j ∈ (after c).items, j.conf ≠ .asked then u.resolve k (after c) else u
        exec (.confirm h hb id) s = .next ((ended ((x (.confirm hb id)).setEntry k (some (after .confirmed))).touch
            .confirmed).finish.executed h.tag answer 0x23 none (hb :: be32 id))
        ∧ (let u := (x (.deny hb id)).setEntry k (some (after .denied))
          (∀ n : StreamNo, i.tote.stream.toNat = n.val → n ≠ 0 → (∃ r ∈ (s.stream n).list, r.id = id) →
            exec (.deny h hb id) s = .next ((ended (u.setStream n { s.stream n with
                list := (s.stream n).list.map (fun r => if r.id = id then { r with barred := true } else r) }).touch
              .denied).finish.executed h.tag answer 0x24 none (hb :: be32 id ++ [1])))
          ∧ ((∀ n : StreamNo, i.tote.stream.toNat = n.val → n = 0 ∨ ∀ r ∈ (s.stream n).list, r.id ≠ id) →
            exec (.deny h hb id) s
              = .next ((ended u.touch .denied).finish.executed h.tag answer 0x24 none (hb :: be32 id ++ [0])))))
  ∧ (∀ (s : State) (h : Handle) (e : Entry) (x : Lift) (v : Visit), e.party = .lift x → (s.lift x).visit = some v →
      let stands (i : Item) (c : SlotCode) : Bool :=
        (s.slot v.level c).ready.any (fun t => t.tote.id = i.tote.id && s.eligible t.tote)
      let passes (i : Item) : Bool := (i.conf = .confirmed || i.conf = .none) && (outPair x).any (stands i)
      let u : State := { s with unsentAsks := s.unsentAsks.filter (fun t => !t.asksAbout h) }
      ((∀ i ∈ e.items, passes i = false) →
        (e.wait = true → s.resolve h e = (u.hold h { e with items := [] } .notEligible).wantReeval)
        ∧ (e.wait = false → s.resolve h e = u.refuseEntry h e .denied))
      ∧ ((∃ i ∈ e.items, passes i = true) → ∃ kept : List Item,
        s.resolve h e = (u.grant h e kept).wantReeval
        ∧ kept.map (fun k => (k.tote.id, k.conf)) = (e.items.filter passes).map (fun i => (i.tote.id, i.conf))
        ∧ ∀ k ∈ kept, ∃ c t, k.slot = some (v.level, c) ∧ c.outLift = some x
          ∧ s.slot v.level c = .opened (some t) none ∧ k.tote = t.tote))

/-- The census of tote IDs: contents of slots, one of them left out, both carriage records, and shuttle PLACE entries
(R19). The codes and pairs of the slots (R1), and what a slot record holds by its state (R5, R6, R8). SLOT-SET, its
checks in order, and what it does: the slot takes the target state and the declared content with the aisle time as
placement stamp, and loses claim, doubt cause, expired claim and reported tote; the ANSWER gives the slot address, of a
refusal for an address out of range the bytes as they came by the model's choice (R2, R15, R16, R20; log 36). -/
def Obligations.CensusAndSlotSets : Prop :=
  (∀ (s : State) (id : ToteId) (but : Option (Level × SlotCode)), s.inCensus id but = true ↔
      (∃ n c t, some (n, c) ≠ but ∧ (s.slot n c).content = some t ∧ t.tote.id = id)
      ∨ (∃ x, ∃ r ∈ (s.lift x).carriage, r.id = id)
      ∨ ∃ h n, ∃ e ∈ s.entry h, e.party = .shuttle n ∧ e.kind = .place ∧ ∃ i ∈ e.items, i.tote.id = id)
  ∧ (∀ (s : State) (id : ToteId) (but : Option (Level × SlotCode)),
      (s.inSlots id but = true ↔ ∃ n c t, some (n, c) ≠ but ∧ (s.slot n c).content = some t ∧ t.tote.id = id)
      ∧ (∀ x, s.inCarriage x id = true ↔ ∃ r ∈ (s.lift x).carriage, r.id = id)
      ∧ (s.inPlaceEntries id = true ↔
        ∃ h n, ∃ e ∈ s.entry h, e.party = .shuttle n ∧ e.kind = .place ∧ ∃ i ∈ e.items, i.tote.id = id))
  ∧ (∀ v : Slot, (v.mapped = true ↔ v ≠ .off) ∧ (v.isOpen = true ↔ ∃ t k, v = .opened t k)
      ∧ (∀ k, v.claim = some k ↔ ∃ t, v = .opened t (some k))
      ∧ (∀ t, v.ready = some t ↔ v = .opened (some t) none)
      ∧ ∀ t, v.content = some t ↔
        (∃ k, v = .opened (some t) k) ∨ (∃ w k r, v = .doubt (some t) w k r) ∨ v = .fenced (some t))
  ∧ [SlotCode.in1, .in2, .a1, .a2, .b1, .b2].map SlotCode.byte = [1, 2, 3, 4, 5, 6]
  ∧ [SlotCode.in1, .in2, .a1, .a2, .b1, .b2].map SlotCode.outLift = [none, none, some .a, some .a, some .b, some .b]
  ∧ outPair .a = [.a1, .a2] ∧ outPair .b = [.b1, .b2]
  ∧ (∀ (s : State) (h : StoreHdr) (answer : Bool) (level code target : Byte) (r : ToteRec), Takes s h answer →
      let x := s.storeHunt.executing h.tag answer (.slotSet level code target r)
      let a := exec (.slotSet h level code target r) s
      let refused (e : Reason) : Host.Outcome State Fault Refusal :=
        .next (x.executed h.tag answer 0x30 (some e) [level, code])
      ((level = 0 ∨ 40 < level.toNat ∨ code = 0 ∨ 6 < code.toNat ∨ (target ≠ 1 ∧ target ≠ 3)) → a = refused .badSlot)
      ∧ ∀ (n : Level) (c : SlotCode), level.toNat = n.val + 1 → code = c.byte → (target = 1 ∨ target = 3) →
        let v := s.slot n c
        let fits : Prop := r.id = 0 ∨ (validTote r = true ∧ r.dest = if c.outLift = none then level else 0)
        let content : Option Content := if r.id = 0 then none else some ⟨r, s.time⟩
        let set := x.setSlot n c (if target = 1 then .opened content none else .fenced content)
        let told : Bool := (target = 1 && !v.isOpen) || v.content.isSome || content.isSome
        (v = .off → a = refused .unmapped)
        ∧ (v.claim ≠ none → a = refused .busy)
        ∧ (v ≠ .off → v.claim = none →
          (¬ fits → a = refused .badTote)
          ∧ (fits → r.id ≠ 0 → s.inCensus r.id (some (n, c)) = true → a = refused .duplicate)
          ∧ (fits → (r.id = 0 ∨ s.inCensus r.id (some (n, c)) = false) →
            a = .next ((if told then set.wantReeval else set.touch).finish.executed h.tag answer 0x30 none
              [level, code]))))

/-- LEVEL-SERVICE: UNMAPPED for a level outside 1 to 40 or not mapped; ON is BUSY while the shuttle has a GRANTED entry,
in SERVICE too by the model's choice (log 43), and else removes its WAITING entry, the level's orders and its box, and
enters SERVICE with miss count and mark cleared, each of the orders answered NOT-FORWARDED SERVICE; OFF makes a level in
SERVICE RETURNING with the service-return mark, and begins a new cycle, with the first turn, when no level was polled
(R138; log 11); a level that was to have the next turn loses it by ON, and the scheduler looks anew, the model's choice
(log 53); a level that is there already stays (R151, R152). LIFT-SERVICE: ON is BUSY while the lift has an entry or an
open visit; else the lift is in SERVICE, its interval stops, its unbegun forwarded orders go, each answered
NOT-FORWARDED SERVICE, in the order of admission by the model's choice (log 25), and its own telegrams stay; the
sequencer and the call queues are to be brought up to date, and nothing else changes. OFF makes a lift in SERVICE
RETURNING, sends a STATE-ASK if its queue has a place, with the own-tag count as it stands when it is made (log 14), and
starts the interval; else it changes nothing (R56, R61). An entry into SERVICE, here and at a STATE that does not match:
the REFUSE SERVICE of a WAITING entry is discarded by its box and the entry removed, a GRANTED one stays, and the orders
are answered in the order of admission, the model's choice (R149, R151; log 25). -/
def Obligations.Services : Prop :=
  (∀ (s : State) (h : StoreHdr) (answer : Bool) (level : Byte), Takes s h answer →
      let x (o : Bool) := s.storeHunt.executing h.tag answer (.levelService level o)
      let on := exec (.levelServiceOn h level) s
      let off := exec (.levelServiceOff h level) s
      let answered (u : State) (r : Option Reason) (p : Byte) : Host.Outcome State Fault Refusal :=
        .next (u.executed h.tag answer 0x31 r [level, p])
      ((level = 0 ∨ 40 < level.toNat) →
        on = answered (x true) (some .unmapped) 0 ∧ off = answered (x false) (some .unmapped) 0)
      ∧ ∀ n : Level, level.toNat = n.val + 1 →
        let r := s.shuttle n
        let granted : Prop := ∃ k e, s.entryOf (.shuttle n) = some (k, e) ∧ e.phase.isGranted = true
        (s.levelMapped n = false → on = answered (x true) (some .unmapped) r.presence.byte
          ∧ off = answered (x false) (some .unmapped) r.presence.byte)
        ∧ (s.levelMapped n = true →
          (granted → on = answered (x true) (some .busy) r.presence.byte)
          ∧ (¬ granted → r.presence = .service → on = answered (x true) none 4)
          ∧ (¬ granted → (r.presence = .returning ∨ r.presence = .online ∨ r.presence = .absent) →
            ∃ t : State, on = answered t.finish none 4 ∧ t = (x true).intoService n 0
              ∧ t.shuttle n = ⟨.service, 0, false, r.firmware, []⟩ ∧ (∀ k, k ≠ n → t.shuttle k = s.shuttle k)
              ∧ (∀ k e, s.entryOf (.shuttle n) = some (k, e) → t.entry k = none)
              ∧ (s.entryOf (.shuttle n) = none → t.table = s.table)
              ∧ t.bus = { s.bus with queue := s.bus.queue.filter (fun i => i.level ≠ n) } ∧ t.coord = s.coord
              ∧ ((s.bus.turn ≠ .idle ∨ (SchedulerFollows s ∧ s.bus.next ≠ some n)) → t.finish.bus = t.bus)
              ∧ (s.bus.turn = .idle → s.bus.next = some n → t.finish.bus = t.look)
              ∧ (s.store.upstream.length + (s.waitingFor n).length ≤ 62 → t.store.upstream.filter (fun m => m.kind = 0x40)
                = s.store.upstream.filter (fun m => m.kind = 0x40) ++ (s.waitingFor n).map (fun i => s.upward 0x40 i.tel.tag
                  (.notForwarded .service i.tel.dstAisle i.tel.dstStation i.tel.kind i.tel.tag))))
          ∧ (r.presence = .service →
            let y := (x false).setShuttle n { r with presence := .returning, miss := 0, mark := true }
            let polled : Prop := ∃ k, (s.shuttle k).presence = .online ∨ (s.shuttle k).presence = .returning
              ∨ (s.shuttle k).presence = .absent
            off = answered y.wantLook.finish none 1
            ∧ (s.bus.turn ≠ .idle → off = answered y none 1)
            ∧ (SchedulerFollows s → polled → off = answered y none 1)
            ∧ (SchedulerFollows s → ¬ polled → s.bus.turn = .idle → off = answered { y with bus := { s.bus with
              pos := none
              next := some n
              cycle := true
              probeCycle := decide (s.timing.probeInterval.toNat ≤ s.bus.probeCount.toNat + 1) } } none 1))
          ∧ (r.presence ≠ .service → off = answered (x false) none r.presence.byte)))
  ∧ (∀ (s : State) (h : StoreHdr) (answer : Bool) (y : Lift), Takes s h answer →
      let x (o : Bool) := s.storeHunt.executing h.tag answer (.liftService y o)
      let on := exec (.liftServiceOn h y) s
      let off := exec (.liftServiceOff h y) s
      let answered (u : State) (r : Option Reason) : Host.Outcome State Fault Refusal :=
        .next (u.executed h.tag answer 0x32 r [])
      let k := s.link y
      ((¬ s.Entryless (.lift y) ∨ (s.lift y).visit ≠ none) → on = answered (x true) (some .busy))
      ∧ (s.Entryless (.lift y) → (s.lift y).visit = none →
        let gone := k.down.filter (fun i => !i.own && !i.begun)
        ∃ t : State, on = answered t.finish none
          ∧ t.lift y = { s.lift y with presence := .service, askTimer := none } ∧ t.lift y.other = s.lift y.other
          ∧ t.link y = { k with down := k.down.filter (fun i => i.own || i.begun) } ∧ t.link y.other = s.link y.other
          ∧ (s.store.upstream.length + gone.length < 64 → t.store.upstream = s.store.upstream ++ gone.map (fun i =>
            s.upward 0x40 i.tel.tag (.notForwarded .service i.tel.dstAisle i.tel.dstStation i.tel.kind i.tel.tag))
            ∧ t.store.nfWait = s.store.nfWait ∧ t.work.raises = [])
          ∧ t.work = { (x true).work with touched := true, raises := t.work.raises }
          ∧ t.store = { (x true).store with upstream := t.store.upstream, nfWait := t.store.nfWait }
          ∧ t = { x true with coord := t.coord, links := t.links, store := t.store, work := t.work })
      ∧ ((s.lift y).presence = .service →
        let u := (x false).setLift y { s.lift y with presence := .returning, askTimer := some 500 }
        let ask : DownItem := ⟨s.toward (.lift y) 0x12 k.ownTag .nothing, true, false⟩
        (k.down.length < 8 → off = answered ((u.setLink y { k with down := k.down ++ [ask] }).touch).finish none)
        ∧ (8 ≤ k.down.length → off = answered u.touch.finish none))
      ∧ ((s.lift y).presence ≠ .service → off = answered (x false) none))
  ∧ (∀ (s : State) (n : Level) (m : Nat),
      let u := s.setShuttle n { s.shuttle n with presence := .service, miss := m, mark := false, box := [] }
      let answered (w : State) : State := (s.waitingFor n).foldl (fun t i => t.sendNotForwarded .service i.tel)
        { w with bus := { s.bus with queue := s.bus.queue.filter (fun i => i.level ≠ n) } }
      (∀ h e, s.entryOf (.shuttle n) = some (h, e) → e.phase.isGranted = false →
        s.intoService n m = (answered (u.removeEntry h e)).wantLook)
      ∧ ((∀ h e, s.entryOf (.shuttle n) = some (h, e) → e.phase.isGranted = true) → s.intoService n m = (answered u).wantLook)
      ∧ s.wantLook = { s with work := { s.work with look := true } })
  ∧ [LevelPresence.unmapped, .returning, .online, .absent, .service].map LevelPresence.byte = [0, 1, 2, 3, 4]

/-! ### Reads -/

/-- The slot read gives every field of the record; the level range read a summary of each slot; an address outside range
is BAD-SLOT, a range of more than 7 levels or turned round BAD-COUNT, the former first by the model's choice (log 38); a
read changes nothing (R2, R21). The reads of a stream, of a lift's carriage and visit, and of its call queue; each
changes nothing (R77, R103). -/
def Obligations.SlotStreamAndLiftReads : Prop :=
  (∀ (s : State) (h : StoreHdr) (answer : Bool) (a b : Byte), Takes s h answer →
      let read := exec (.slotRead h a b) s
      let x := s.storeHunt.executing h.tag answer (.slotRead a b)
      let range := exec (.levelRangeRead h a b) s
      let y := s.storeHunt.executing h.tag answer (.levelRange a b)
      let none (k : Nat) : List Byte := List.replicate k 0
      let record (c : Option Content) : List Byte := match c with
        | .none => none 11
        | some t => 1 :: (be32 t.tote.id ++ [t.tote.stream, t.tote.dest] ++ be32 t.stamp)
      let asked (k : Kind) : Byte := match k with
        | .place => 0x20
        | .fetch => 0x21
      let fields (v : Slot) : List Byte := match v with
        | .off => [0, 0] ++ none 11 ++ none 7 ++ [0] ++ none 8 ++ none 5
        | .opened c k => [1, 1] ++ record c ++ (match k with
            | .none => none 7
            | some k => [1, asked k.kind, BitVec.ofNat 8 k.handle.val] ++ be32 k.toteId) ++ [0] ++ none 8 ++ none 5
        | .doubt c w k r => [1, 2] ++ record c ++ none 7 ++ [match w with
            | .actTimeout => 1
            | .revoked => 2
            | .haltConfig => 3
            | .mapped => 4] ++ (match k with
            | .none => none 8
            | some k => [1, k.party.station, BitVec.ofNat 8 k.handle.val, asked k.kind] ++ be32 k.toteId)
          ++ (match r with
            | .none => none 5
            | some id => 1 :: be32 id)
        | .fenced c => [1, 3] ++ record c ++ none 7 ++ [0] ++ none 8 ++ none 5
      let short (v : Slot) : Byte := match v with
        | .off => 0
        | .opened c k => 1 + (if c.isSome then 4 else 0) + (match k with
            | .none => 0
            | some k => if k.kind = .place then 8 else 16)
        | .doubt c _ _ _ => 2 + (if c.isSome then 4 else 0)
        | .fenced c => 3 + (if c.isSome then 4 else 0)
      ((a = 0 ∨ 40 < a.toNat ∨ b = 0 ∨ 6 < b.toNat) → read = .next (x.executed h.tag answer 0x50 (some .badSlot) []))
      ∧ (∀ (n : Level) (c : SlotCode), a.toNat = n.val + 1 → b = c.byte →
        read = .next (x.executed h.tag answer 0x50 .none ([a, b] ++ fields (s.slot n c))))
      ∧ ((a = 0 ∨ 40 < a.toNat ∨ b = 0 ∨ 40 < b.toNat) →
        range = .next (y.executed h.tag answer 0x51 (some .badSlot) []))
      ∧ ∀ n m : Level, a.toNat = n.val + 1 → b.toNat = m.val + 1 →
        ((m < n ∨ n.val + 7 ≤ m.val) → range = .next (y.executed h.tag answer 0x51 (some .badCount) []))
        ∧ (n ≤ m → m.val < n.val + 7 → range = .next (y.executed h.tag answer 0x51 .none ([a, b]
          ++ ((List.finRange 40).filter (fun l => n ≤ l && l ≤ m)).flatMap (fun l =>
            [.in1, .in2, .a1, .a2, .b1, .b2].map (fun c => short (s.slot l c)))))))
  ∧ (∀ (s : State) (h : StoreHdr) (answer : Bool), Takes s h answer →
      let x (q : Req) := s.storeHunt.executing h.tag answer q
      (∀ stream pos : Byte, 16 < stream.toNat → exec (.streamRead h stream pos) s
        = .next ((x (.streamRead stream pos)).executed h.tag answer 0x52 (some .noRoute) []))
      ∧ (∀ (stream pos : Byte) (i : StreamNo), stream.toNat = i.val →
        let t := s.stream i
        let marks : Byte := (if t.row.routed then 1 else 0) + (if t.active = .b then 2 else 0)
          + (if t.switchPending then 4 else 0) + (if s.custody i .a then 8 else 0) + (if s.custody i .b then 16 else 0)
          + (if t.lowMarker then 32 else 0)
        let free : Nat := 1024 - ((List.finRange 17).map (fun k => (s.stream k).list.length)).sum
        exec (.streamRead h stream pos) s = .next ((x (.streamRead stream pos)).executed h.tag answer 0x52 none
          ([stream, marks] ++ be32 t.delivered ++ if i = 0 then [] else
            [BitVec.ofNat 8 t.list.length] ++ be16 (BitVec.ofNat 16 free) ++ be32 t.released
              ++ ((t.list.drop pos.toNat).take 6).flatMap (fun e =>
                be32 e.id ++ [(if e.barred then 1 else 0) + (if e.pledged then 2 else 0)]))))
      ∧ ∀ y : Lift,
        let l := s.lift y
        let state : Byte := match l.presence with
          | .returning => 1
          | .online => 2
          | .service => 4
        (l.carriage.length ≤ 2 → exec (.carriageAndVisitRead h y) s
          = .next ((x (.carriageRead y)).executed h.tag answer 0x53 none
            ([y.station, state, l.firmware.getD 0, BitVec.ofNat 8 l.carriage.length]
              ++ l.carriage.flatMap (fun r => be32 r.id ++ [r.stream, r.dest])
              ++ List.replicate (12 - 6 * l.carriage.length) 0
              ++ match l.visit with
                | none => List.replicate 8 0
                | some v => [1, BitVec.ofNat 8 (v.level.val + 1), BitVec.ofNat 8 v.p, BitVec.ofNat 8 v.f] ++ be32 v.timer)))
        ∧ ∀ pos : Byte, exec (.callQueueRead h y pos) s
          = .next ((x (.callRead y pos)).executed h.tag answer 0x54 none ([y.station, BitVec.ofNat 8 l.calls.length]
            ++ ((l.calls.drop pos.toNat).take 7).flatMap (fun c =>
              [BitVec.ofNat 8 (c.level.val + 1), c.key] ++ be32 c.stamp))))

/-- The transfer table read: the set of handles in use, and the lowest entry at or above the handle named, whole (R187).
The fault read: the lead fault, the latches, and up to three records (R182). Both change nothing. -/
def Obligations.TransferAndFaultReads : Prop :=
  ∀ (s : State) (h : StoreHdr) (answer : Bool) (b : Byte), Takes s h answer →
    let x := s.storeHunt.executing h.tag answer (.transferRead b)
    let y := s.storeHunt.executing h.tag answer (.faultRead b)
    let optional (n : Nat) (l : Option (List Byte)) : List Byte := match l with
      | none => List.replicate (n + 1) 0
      | some l => 1 :: l
    let whole (k : Handle) (e : Entry) : List Byte :=
      [BitVec.ofNat 8 k.val, e.party.station, if e.kind = .place then 0x20 else 0x21, match e.phase with
        | .waiting _ => 1
        | .confirming => 2
        | .granted _ => 3, if e.wait then 1 else 0, e.tag] ++ be32 e.askStamp
      ++ optional 4 (match e.phase with
        | .granted g => some (be32 g)
        | _ => none)
      ++ [match e.phase with
        | .waiting r => r.code
        | _ => 0] ++ be32 e.timer ++ [if s.mode = .halt then 1 else 0, BitVec.ofNat 8 e.items.length]
      ++ e.items.flatMap (fun i => be32 i.tote.id
        ++ optional 2 (i.slot.map (fun a => [BitVec.ofNat 8 (a.1.val + 1), a.2.byte])) ++ [match i.conf with
          | .none => 0
          | .asked => 1
          | .confirmed => 2
          | .denied => 3])
    let station (p : Option Party) : Byte := match p with
      | none => 0
      | some p => p.station
    (31 < b.toNat → exec (.transferTableRead h b) s = .next (x.executed h.tag answer 0x55 (some .badCount) []))
    ∧ (b.toNat ≤ 31 → ∃ w : BitVec 32, (∀ k : Handle, w.getLsbD k.val = (s.entry k).isSome)
      ∧ ((∀ k : Handle, b.toNat ≤ k.val → s.entry k = none) →
        exec (.transferTableRead h b) s = .next (x.executed h.tag answer 0x55 none (be32 w)))
      ∧ ∀ (k : Handle) e, s.entry k = some e → b.toNat ≤ k.val → (∀ j : Handle, b.toNat ≤ j.val → j < k → s.entry j = none) →
        exec (.transferTableRead h b) s = .next (x.executed h.tag answer 0x55 none (be32 w ++ whole k e)))
    ∧ ((b = 0 ∨ 12 < b.toNat) → exec (.faultRead h b) s = .next (y.executed h.tag answer 0x56 (some .badCount) []))
    ∧ ∀ k : FaultClass, b = k.byte → ∃ w : BitVec 48,
      (∀ j : Nat, w.getLsbD j = if hj : j < 42 then s.faults.latches[j] else false)
      ∧ exec (.faultRead h b) s = .next (y.executed h.tag answer 0x56 none
        ([match s.leadFault with
          | none => 0
          | some c => c.byte] ++ [w.extractLsb' 40 8, w.extractLsb' 32 8] ++ be32 (w.extractLsb' 0 32)
        ++ ((FaultClass.all.drop (b.toNat - 1)).take 3).flatMap (fun c => match s.faultRec c with
          | none => List.replicate 12 0
          | some f => [1, f.count, station f.firstParty] ++ be32 f.firstStamp ++ [station f.lastParty]
            ++ be32 f.lastStamp)))

/-- The presence read, with the refusals of a level range (R154; log 38), the statistics read and its read-and-clear
form, which sets the largest act duration of the stations it gives to 0 (R53, R188), the aisle time read (R188) and the
status summary (R189). -/
def Obligations.PresenceAndStatusReads : Prop :=
  ∀ (s : State) (h : StoreHdr) (answer : Bool), Takes s h answer →
    let x (q : Req) := s.storeHunt.executing h.tag answer q
    (∀ a b : Byte,
      let read := exec (.presenceRead h a b) s
      let y := x (.presenceRead a b)
      ((a = 0 ∨ 40 < a.toNat ∨ b = 0 ∨ 40 < b.toNat) → read = .next (y.executed h.tag answer 0x57 (some .badSlot) []))
      ∧ ∀ n m : Level, a.toNat = n.val + 1 → b.toNat = m.val + 1 →
        ((m < n ∨ n.val + 10 ≤ m.val) → read = .next (y.executed h.tag answer 0x57 (some .badCount) []))
        ∧ (n ≤ m → m.val < n.val + 10 → read = .next (y.executed h.tag answer 0x57 none
          ([s.bus.probeCount, if s.bus.probeCycle then 1 else 0]
          ++ ((List.finRange 40).filter (fun l => n ≤ l && l ≤ m)).flatMap (fun l =>
            [BitVec.ofNat 8 ((match (s.shuttle l).presence with
                | .unmapped => 0
                | .returning => 1
                | .online => 2
                | .absent => 3
                | .service => 4) + 16 * (s.shuttle l).miss),
              BitVec.ofNat 8 ((s.waitingFor l).length + 8 * (s.shuttle l).box.length
                + (if (s.shuttle l).mark then 32 else 0)),
              (s.shuttle l).firmware])))))
    ∧ (∀ b : Byte,
      ((b = 0 ∨ 42 < b.toNat) →
        exec (.statisticsRead h b) s = .next ((x (.statsRead b)).executed h.tag answer 0x58 (some .badCount) [])
        ∧ exec (.statisticsReadAndClear h b) s
          = .next ((x (.statsClear b)).executed h.tag answer 0x59 (some .badCount) []))
      ∧ (b ≠ 0 → b.toNat ≤ 42 →
        let given : List PartyNo := (List.finRange 42).filter (fun i => b.toNat ≤ i.val + 1 && i.val < b.toNat + 6)
        let data := b :: given.flatMap (fun i =>
          be16 (s.stats[i]).completed ++ be16 (s.stats[i]).last ++ be16 (s.stats[i]).largest)
        exec (.statisticsRead h b) s = .next ((x (.statsRead b)).executed h.tag answer 0x58 none data)
        ∧ ∃ t : State, exec (.statisticsReadAndClear h b) s = .next (t.executed h.tag answer 0x59 none data)
          ∧ (∀ i : PartyNo, t.stats[i] = if i ∈ given then { s.stats[i] with largest := 0 } else s.stats[i])
          ∧ t = { x (.statsClear b) with stats := t.stats }))
    ∧ exec (.aisleTimeRead h) s
      = .next ((x .timeRead).executed h.tag answer 0x5A none (be32 s.time ++ [s.timing.tick]))
    ∧ exec (.statusSummary h) s = .next ((x .summary).executed h.tag answer 0x5B none
      ([s.mode.byte,
        (if s.modeCtl.motion then 1 else 0) + (if s.notices.attention then 2 else 0) + (if s.modeCtl.stop then 4 else 0),
        match s.leadFault with
        | none => 0
        | some k => k.byte,
        s.notices.pending.byte, s.notices.enabled.byte] ++ be16 s.lowSet
      ++ [if s.modeCtl.resumeDefault = .reissue then 1 else 2, 2, 3, s.store.unique,
        BitVec.ofNat 8 ((List.finRange 32).filter (fun k : Handle => (s.entry k).isSome)).length,
        BitVec.ofNat 8 ([Lift.a, Lift.b].filter (fun y => (s.lift y).visit.isSome)).length,
        BitVec.ofNat 8 s.store.upstream.length, 1] ++ be32 s.time))
end

