-- ==== Sys2Proof/Laws/State.lean ====
section
/-! SUPPORT. One lemma for each field and each update of State, true by rfl, and reading back what an update wrote, so
that no proof unfolds a record update. -/

namespace Sys2Proof.Machine.State

/-! setSlot -/

@[simp] theorem setSlot_time (s : State) (n : Level) (c : SlotCode) (v : Slot) : (s.setSlot n c v).time = s.time := rfl
@[simp] theorem setSlot_timing (s : State) (n : Level) (c : SlotCode) (v : Slot) : (s.setSlot n c v).timing = s.timing := rfl
@[simp] theorem setSlot_table (s : State) (n : Level) (c : SlotCode) (v : Slot) : (s.setSlot n c v).table = s.table := rfl
@[simp] theorem setSlot_lastExpired (s : State) (n : Level) (c : SlotCode) (v : Slot) : (s.setSlot n c v).lastExpired = s.lastExpired := rfl
@[simp] theorem setSlot_stats (s : State) (n : Level) (c : SlotCode) (v : Slot) : (s.setSlot n c v).stats = s.stats := rfl
@[simp] theorem setSlot_streams (s : State) (n : Level) (c : SlotCode) (v : Slot) : (s.setSlot n c v).streams = s.streams := rfl
@[simp] theorem setSlot_coord (s : State) (n : Level) (c : SlotCode) (v : Slot) : (s.setSlot n c v).coord = s.coord := rfl
@[simp] theorem setSlot_links (s : State) (n : Level) (c : SlotCode) (v : Slot) : (s.setSlot n c v).links = s.links := rfl
@[simp] theorem setSlot_shuttles (s : State) (n : Level) (c : SlotCode) (v : Slot) : (s.setSlot n c v).shuttles = s.shuttles := rfl
@[simp] theorem setSlot_bus (s : State) (n : Level) (c : SlotCode) (v : Slot) : (s.setSlot n c v).bus = s.bus := rfl
@[simp] theorem setSlot_store (s : State) (n : Level) (c : SlotCode) (v : Slot) : (s.setSlot n c v).store = s.store := rfl
@[simp] theorem setSlot_unsentAsks (s : State) (n : Level) (c : SlotCode) (v : Slot) : (s.setSlot n c v).unsentAsks = s.unsentAsks := rfl
@[simp] theorem setSlot_requests (s : State) (n : Level) (c : SlotCode) (v : Slot) : (s.setSlot n c v).requests = s.requests := rfl
@[simp] theorem setSlot_modeCtl (s : State) (n : Level) (c : SlotCode) (v : Slot) : (s.setSlot n c v).modeCtl = s.modeCtl := rfl
@[simp] theorem setSlot_faults (s : State) (n : Level) (c : SlotCode) (v : Slot) : (s.setSlot n c v).faults = s.faults := rfl
@[simp] theorem setSlot_notices (s : State) (n : Level) (c : SlotCode) (v : Slot) : (s.setSlot n c v).notices = s.notices := rfl
@[simp] theorem setSlot_work (s : State) (n : Level) (c : SlotCode) (v : Slot) : (s.setSlot n c v).work = s.work := rfl
@[simp] theorem setSlot_pending (s : State) (n : Level) (c : SlotCode) (v : Slot) : (s.setSlot n c v).pending = s.pending := rfl

/-! setEntry -/

@[simp] theorem setEntry_time (s : State) (h : Handle) (e : Option Entry) : (s.setEntry h e).time = s.time := rfl
@[simp] theorem setEntry_timing (s : State) (h : Handle) (e : Option Entry) : (s.setEntry h e).timing = s.timing := rfl
@[simp] theorem setEntry_slots (s : State) (h : Handle) (e : Option Entry) : (s.setEntry h e).slots = s.slots := rfl
@[simp] theorem setEntry_lastExpired (s : State) (h : Handle) (e : Option Entry) : (s.setEntry h e).lastExpired = s.lastExpired := rfl
@[simp] theorem setEntry_stats (s : State) (h : Handle) (e : Option Entry) : (s.setEntry h e).stats = s.stats := rfl
@[simp] theorem setEntry_streams (s : State) (h : Handle) (e : Option Entry) : (s.setEntry h e).streams = s.streams := rfl
@[simp] theorem setEntry_coord (s : State) (h : Handle) (e : Option Entry) : (s.setEntry h e).coord = s.coord := rfl
@[simp] theorem setEntry_links (s : State) (h : Handle) (e : Option Entry) : (s.setEntry h e).links = s.links := rfl
@[simp] theorem setEntry_shuttles (s : State) (h : Handle) (e : Option Entry) : (s.setEntry h e).shuttles = s.shuttles := rfl
@[simp] theorem setEntry_bus (s : State) (h : Handle) (e : Option Entry) : (s.setEntry h e).bus = s.bus := rfl
@[simp] theorem setEntry_store (s : State) (h : Handle) (e : Option Entry) : (s.setEntry h e).store = s.store := rfl
@[simp] theorem setEntry_unsentAsks (s : State) (h : Handle) (e : Option Entry) : (s.setEntry h e).unsentAsks = s.unsentAsks := rfl
@[simp] theorem setEntry_requests (s : State) (h : Handle) (e : Option Entry) : (s.setEntry h e).requests = s.requests := rfl
@[simp] theorem setEntry_modeCtl (s : State) (h : Handle) (e : Option Entry) : (s.setEntry h e).modeCtl = s.modeCtl := rfl
@[simp] theorem setEntry_faults (s : State) (h : Handle) (e : Option Entry) : (s.setEntry h e).faults = s.faults := rfl
@[simp] theorem setEntry_notices (s : State) (h : Handle) (e : Option Entry) : (s.setEntry h e).notices = s.notices := rfl
@[simp] theorem setEntry_work (s : State) (h : Handle) (e : Option Entry) : (s.setEntry h e).work = s.work := rfl
@[simp] theorem setEntry_pending (s : State) (h : Handle) (e : Option Entry) : (s.setEntry h e).pending = s.pending := rfl

/-! setStream -/

@[simp] theorem setStream_time (s : State) (i : StreamNo) (v : Stream) : (s.setStream i v).time = s.time := rfl
@[simp] theorem setStream_timing (s : State) (i : StreamNo) (v : Stream) : (s.setStream i v).timing = s.timing := rfl
@[simp] theorem setStream_slots (s : State) (i : StreamNo) (v : Stream) : (s.setStream i v).slots = s.slots := rfl
@[simp] theorem setStream_table (s : State) (i : StreamNo) (v : Stream) : (s.setStream i v).table = s.table := rfl
@[simp] theorem setStream_lastExpired (s : State) (i : StreamNo) (v : Stream) : (s.setStream i v).lastExpired = s.lastExpired := rfl
@[simp] theorem setStream_stats (s : State) (i : StreamNo) (v : Stream) : (s.setStream i v).stats = s.stats := rfl
@[simp] theorem setStream_coord (s : State) (i : StreamNo) (v : Stream) : (s.setStream i v).coord = s.coord := rfl
@[simp] theorem setStream_links (s : State) (i : StreamNo) (v : Stream) : (s.setStream i v).links = s.links := rfl
@[simp] theorem setStream_shuttles (s : State) (i : StreamNo) (v : Stream) : (s.setStream i v).shuttles = s.shuttles := rfl
@[simp] theorem setStream_bus (s : State) (i : StreamNo) (v : Stream) : (s.setStream i v).bus = s.bus := rfl
@[simp] theorem setStream_store (s : State) (i : StreamNo) (v : Stream) : (s.setStream i v).store = s.store := rfl
@[simp] theorem setStream_unsentAsks (s : State) (i : StreamNo) (v : Stream) : (s.setStream i v).unsentAsks = s.unsentAsks := rfl
@[simp] theorem setStream_requests (s : State) (i : StreamNo) (v : Stream) : (s.setStream i v).requests = s.requests := rfl
@[simp] theorem setStream_modeCtl (s : State) (i : StreamNo) (v : Stream) : (s.setStream i v).modeCtl = s.modeCtl := rfl
@[simp] theorem setStream_faults (s : State) (i : StreamNo) (v : Stream) : (s.setStream i v).faults = s.faults := rfl
@[simp] theorem setStream_notices (s : State) (i : StreamNo) (v : Stream) : (s.setStream i v).notices = s.notices := rfl
@[simp] theorem setStream_work (s : State) (i : StreamNo) (v : Stream) : (s.setStream i v).work = s.work := rfl
@[simp] theorem setStream_pending (s : State) (i : StreamNo) (v : Stream) : (s.setStream i v).pending = s.pending := rfl

/-! setLift -/

@[simp] theorem setLift_time (s : State) (x : Lift) (v : LiftRec) : (s.setLift x v).time = s.time := rfl
@[simp] theorem setLift_timing (s : State) (x : Lift) (v : LiftRec) : (s.setLift x v).timing = s.timing := rfl
@[simp] theorem setLift_slots (s : State) (x : Lift) (v : LiftRec) : (s.setLift x v).slots = s.slots := rfl
@[simp] theorem setLift_table (s : State) (x : Lift) (v : LiftRec) : (s.setLift x v).table = s.table := rfl
@[simp] theorem setLift_lastExpired (s : State) (x : Lift) (v : LiftRec) : (s.setLift x v).lastExpired = s.lastExpired := rfl
@[simp] theorem setLift_stats (s : State) (x : Lift) (v : LiftRec) : (s.setLift x v).stats = s.stats := rfl
@[simp] theorem setLift_streams (s : State) (x : Lift) (v : LiftRec) : (s.setLift x v).streams = s.streams := rfl
@[simp] theorem setLift_links (s : State) (x : Lift) (v : LiftRec) : (s.setLift x v).links = s.links := rfl
@[simp] theorem setLift_shuttles (s : State) (x : Lift) (v : LiftRec) : (s.setLift x v).shuttles = s.shuttles := rfl
@[simp] theorem setLift_bus (s : State) (x : Lift) (v : LiftRec) : (s.setLift x v).bus = s.bus := rfl
@[simp] theorem setLift_store (s : State) (x : Lift) (v : LiftRec) : (s.setLift x v).store = s.store := rfl
@[simp] theorem setLift_unsentAsks (s : State) (x : Lift) (v : LiftRec) : (s.setLift x v).unsentAsks = s.unsentAsks := rfl
@[simp] theorem setLift_requests (s : State) (x : Lift) (v : LiftRec) : (s.setLift x v).requests = s.requests := rfl
@[simp] theorem setLift_modeCtl (s : State) (x : Lift) (v : LiftRec) : (s.setLift x v).modeCtl = s.modeCtl := rfl
@[simp] theorem setLift_faults (s : State) (x : Lift) (v : LiftRec) : (s.setLift x v).faults = s.faults := rfl
@[simp] theorem setLift_notices (s : State) (x : Lift) (v : LiftRec) : (s.setLift x v).notices = s.notices := rfl
@[simp] theorem setLift_work (s : State) (x : Lift) (v : LiftRec) : (s.setLift x v).work = s.work := rfl
@[simp] theorem setLift_pending (s : State) (x : Lift) (v : LiftRec) : (s.setLift x v).pending = s.pending := rfl

/-! setLink -/

@[simp] theorem setLink_time (s : State) (x : Lift) (v : LinkRec) : (s.setLink x v).time = s.time := rfl
@[simp] theorem setLink_timing (s : State) (x : Lift) (v : LinkRec) : (s.setLink x v).timing = s.timing := rfl
@[simp] theorem setLink_slots (s : State) (x : Lift) (v : LinkRec) : (s.setLink x v).slots = s.slots := rfl
@[simp] theorem setLink_table (s : State) (x : Lift) (v : LinkRec) : (s.setLink x v).table = s.table := rfl
@[simp] theorem setLink_lastExpired (s : State) (x : Lift) (v : LinkRec) : (s.setLink x v).lastExpired = s.lastExpired := rfl
@[simp] theorem setLink_stats (s : State) (x : Lift) (v : LinkRec) : (s.setLink x v).stats = s.stats := rfl
@[simp] theorem setLink_streams (s : State) (x : Lift) (v : LinkRec) : (s.setLink x v).streams = s.streams := rfl
@[simp] theorem setLink_coord (s : State) (x : Lift) (v : LinkRec) : (s.setLink x v).coord = s.coord := rfl
@[simp] theorem setLink_shuttles (s : State) (x : Lift) (v : LinkRec) : (s.setLink x v).shuttles = s.shuttles := rfl
@[simp] theorem setLink_bus (s : State) (x : Lift) (v : LinkRec) : (s.setLink x v).bus = s.bus := rfl
@[simp] theorem setLink_store (s : State) (x : Lift) (v : LinkRec) : (s.setLink x v).store = s.store := rfl
@[simp] theorem setLink_unsentAsks (s : State) (x : Lift) (v : LinkRec) : (s.setLink x v).unsentAsks = s.unsentAsks := rfl
@[simp] theorem setLink_requests (s : State) (x : Lift) (v : LinkRec) : (s.setLink x v).requests = s.requests := rfl
@[simp] theorem setLink_modeCtl (s : State) (x : Lift) (v : LinkRec) : (s.setLink x v).modeCtl = s.modeCtl := rfl
@[simp] theorem setLink_faults (s : State) (x : Lift) (v : LinkRec) : (s.setLink x v).faults = s.faults := rfl
@[simp] theorem setLink_notices (s : State) (x : Lift) (v : LinkRec) : (s.setLink x v).notices = s.notices := rfl
@[simp] theorem setLink_work (s : State) (x : Lift) (v : LinkRec) : (s.setLink x v).work = s.work := rfl
@[simp] theorem setLink_pending (s : State) (x : Lift) (v : LinkRec) : (s.setLink x v).pending = s.pending := rfl

/-! setShuttle -/

@[simp] theorem setShuttle_time (s : State) (n : Level) (v : ShuttleRec) : (s.setShuttle n v).time = s.time := rfl
@[simp] theorem setShuttle_timing (s : State) (n : Level) (v : ShuttleRec) : (s.setShuttle n v).timing = s.timing := rfl
@[simp] theorem setShuttle_slots (s : State) (n : Level) (v : ShuttleRec) : (s.setShuttle n v).slots = s.slots := rfl
@[simp] theorem setShuttle_table (s : State) (n : Level) (v : ShuttleRec) : (s.setShuttle n v).table = s.table := rfl
@[simp] theorem setShuttle_lastExpired (s : State) (n : Level) (v : ShuttleRec) : (s.setShuttle n v).lastExpired = s.lastExpired := rfl
@[simp] theorem setShuttle_stats (s : State) (n : Level) (v : ShuttleRec) : (s.setShuttle n v).stats = s.stats := rfl
@[simp] theorem setShuttle_streams (s : State) (n : Level) (v : ShuttleRec) : (s.setShuttle n v).streams = s.streams := rfl
@[simp] theorem setShuttle_coord (s : State) (n : Level) (v : ShuttleRec) : (s.setShuttle n v).coord = s.coord := rfl
@[simp] theorem setShuttle_links (s : State) (n : Level) (v : ShuttleRec) : (s.setShuttle n v).links = s.links := rfl
@[simp] theorem setShuttle_bus (s : State) (n : Level) (v : ShuttleRec) : (s.setShuttle n v).bus = s.bus := rfl
@[simp] theorem setShuttle_store (s : State) (n : Level) (v : ShuttleRec) : (s.setShuttle n v).store = s.store := rfl
@[simp] theorem setShuttle_unsentAsks (s : State) (n : Level) (v : ShuttleRec) : (s.setShuttle n v).unsentAsks = s.unsentAsks := rfl
@[simp] theorem setShuttle_requests (s : State) (n : Level) (v : ShuttleRec) : (s.setShuttle n v).requests = s.requests := rfl
@[simp] theorem setShuttle_modeCtl (s : State) (n : Level) (v : ShuttleRec) : (s.setShuttle n v).modeCtl = s.modeCtl := rfl
@[simp] theorem setShuttle_faults (s : State) (n : Level) (v : ShuttleRec) : (s.setShuttle n v).faults = s.faults := rfl
@[simp] theorem setShuttle_notices (s : State) (n : Level) (v : ShuttleRec) : (s.setShuttle n v).notices = s.notices := rfl
@[simp] theorem setShuttle_work (s : State) (n : Level) (v : ShuttleRec) : (s.setShuttle n v).work = s.work := rfl
@[simp] theorem setShuttle_pending (s : State) (n : Level) (v : ShuttleRec) : (s.setShuttle n v).pending = s.pending := rfl

/-! setLatchBit -/

@[simp] theorem setLatchBit_time (s : State) (p : Party) (b : Bool) : (s.setLatchBit p b).time = s.time := rfl
@[simp] theorem setLatchBit_timing (s : State) (p : Party) (b : Bool) : (s.setLatchBit p b).timing = s.timing := rfl
@[simp] theorem setLatchBit_slots (s : State) (p : Party) (b : Bool) : (s.setLatchBit p b).slots = s.slots := rfl
@[simp] theorem setLatchBit_table (s : State) (p : Party) (b : Bool) : (s.setLatchBit p b).table = s.table := rfl
@[simp] theorem setLatchBit_lastExpired (s : State) (p : Party) (b : Bool) : (s.setLatchBit p b).lastExpired = s.lastExpired := rfl
@[simp] theorem setLatchBit_stats (s : State) (p : Party) (b : Bool) : (s.setLatchBit p b).stats = s.stats := rfl
@[simp] theorem setLatchBit_streams (s : State) (p : Party) (b : Bool) : (s.setLatchBit p b).streams = s.streams := rfl
@[simp] theorem setLatchBit_coord (s : State) (p : Party) (b : Bool) : (s.setLatchBit p b).coord = s.coord := rfl
@[simp] theorem setLatchBit_links (s : State) (p : Party) (b : Bool) : (s.setLatchBit p b).links = s.links := rfl
@[simp] theorem setLatchBit_shuttles (s : State) (p : Party) (b : Bool) : (s.setLatchBit p b).shuttles = s.shuttles := rfl
@[simp] theorem setLatchBit_bus (s : State) (p : Party) (b : Bool) : (s.setLatchBit p b).bus = s.bus := rfl
@[simp] theorem setLatchBit_store (s : State) (p : Party) (b : Bool) : (s.setLatchBit p b).store = s.store := rfl
@[simp] theorem setLatchBit_unsentAsks (s : State) (p : Party) (b : Bool) : (s.setLatchBit p b).unsentAsks = s.unsentAsks := rfl
@[simp] theorem setLatchBit_requests (s : State) (p : Party) (b : Bool) : (s.setLatchBit p b).requests = s.requests := rfl
@[simp] theorem setLatchBit_modeCtl (s : State) (p : Party) (b : Bool) : (s.setLatchBit p b).modeCtl = s.modeCtl := rfl
@[simp] theorem setLatchBit_notices (s : State) (p : Party) (b : Bool) : (s.setLatchBit p b).notices = s.notices := rfl
@[simp] theorem setLatchBit_work (s : State) (p : Party) (b : Bool) : (s.setLatchBit p b).work = s.work := rfl
@[simp] theorem setLatchBit_pending (s : State) (p : Party) (b : Bool) : (s.setLatchBit p b).pending = s.pending := rfl

/-! setLastExpired -/

@[simp] theorem setLastExpired_time (s : State) (p : Party) (h : Option Handle) : (s.setLastExpired p h).time = s.time := rfl
@[simp] theorem setLastExpired_timing (s : State) (p : Party) (h : Option Handle) : (s.setLastExpired p h).timing = s.timing := rfl
@[simp] theorem setLastExpired_slots (s : State) (p : Party) (h : Option Handle) : (s.setLastExpired p h).slots = s.slots := rfl
@[simp] theorem setLastExpired_table (s : State) (p : Party) (h : Option Handle) : (s.setLastExpired p h).table = s.table := rfl
@[simp] theorem setLastExpired_stats (s : State) (p : Party) (h : Option Handle) : (s.setLastExpired p h).stats = s.stats := rfl
@[simp] theorem setLastExpired_streams (s : State) (p : Party) (h : Option Handle) : (s.setLastExpired p h).streams = s.streams := rfl
@[simp] theorem setLastExpired_coord (s : State) (p : Party) (h : Option Handle) : (s.setLastExpired p h).coord = s.coord := rfl
@[simp] theorem setLastExpired_links (s : State) (p : Party) (h : Option Handle) : (s.setLastExpired p h).links = s.links := rfl
@[simp] theorem setLastExpired_shuttles (s : State) (p : Party) (h : Option Handle) : (s.setLastExpired p h).shuttles = s.shuttles := rfl
@[simp] theorem setLastExpired_bus (s : State) (p : Party) (h : Option Handle) : (s.setLastExpired p h).bus = s.bus := rfl
@[simp] theorem setLastExpired_store (s : State) (p : Party) (h : Option Handle) : (s.setLastExpired p h).store = s.store := rfl
@[simp] theorem setLastExpired_unsentAsks (s : State) (p : Party) (h : Option Handle) : (s.setLastExpired p h).unsentAsks = s.unsentAsks := rfl
@[simp] theorem setLastExpired_requests (s : State) (p : Party) (h : Option Handle) : (s.setLastExpired p h).requests = s.requests := rfl
@[simp] theorem setLastExpired_modeCtl (s : State) (p : Party) (h : Option Handle) : (s.setLastExpired p h).modeCtl = s.modeCtl := rfl
@[simp] theorem setLastExpired_faults (s : State) (p : Party) (h : Option Handle) : (s.setLastExpired p h).faults = s.faults := rfl
@[simp] theorem setLastExpired_notices (s : State) (p : Party) (h : Option Handle) : (s.setLastExpired p h).notices = s.notices := rfl
@[simp] theorem setLastExpired_work (s : State) (p : Party) (h : Option Handle) : (s.setLastExpired p h).work = s.work := rfl
@[simp] theorem setLastExpired_pending (s : State) (p : Party) (h : Option Handle) : (s.setLastExpired p h).pending = s.pending := rfl

/-! setFaultRec -/

@[simp] theorem setFaultRec_time (s : State) (c : FaultClass) (r : Option FaultRec) : (s.setFaultRec c r).time = s.time := rfl
@[simp] theorem setFaultRec_timing (s : State) (c : FaultClass) (r : Option FaultRec) : (s.setFaultRec c r).timing = s.timing := rfl
@[simp] theorem setFaultRec_slots (s : State) (c : FaultClass) (r : Option FaultRec) : (s.setFaultRec c r).slots = s.slots := rfl
@[simp] theorem setFaultRec_table (s : State) (c : FaultClass) (r : Option FaultRec) : (s.setFaultRec c r).table = s.table := rfl
@[simp] theorem setFaultRec_lastExpired (s : State) (c : FaultClass) (r : Option FaultRec) : (s.setFaultRec c r).lastExpired = s.lastExpired := rfl
@[simp] theorem setFaultRec_stats (s : State) (c : FaultClass) (r : Option FaultRec) : (s.setFaultRec c r).stats = s.stats := rfl
@[simp] theorem setFaultRec_streams (s : State) (c : FaultClass) (r : Option FaultRec) : (s.setFaultRec c r).streams = s.streams := rfl
@[simp] theorem setFaultRec_coord (s : State) (c : FaultClass) (r : Option FaultRec) : (s.setFaultRec c r).coord = s.coord := rfl
@[simp] theorem setFaultRec_links (s : State) (c : FaultClass) (r : Option FaultRec) : (s.setFaultRec c r).links = s.links := rfl
@[simp] theorem setFaultRec_shuttles (s : State) (c : FaultClass) (r : Option FaultRec) : (s.setFaultRec c r).shuttles = s.shuttles := rfl
@[simp] theorem setFaultRec_bus (s : State) (c : FaultClass) (r : Option FaultRec) : (s.setFaultRec c r).bus = s.bus := rfl
@[simp] theorem setFaultRec_store (s : State) (c : FaultClass) (r : Option FaultRec) : (s.setFaultRec c r).store = s.store := rfl
@[simp] theorem setFaultRec_unsentAsks (s : State) (c : FaultClass) (r : Option FaultRec) : (s.setFaultRec c r).unsentAsks = s.unsentAsks := rfl
@[simp] theorem setFaultRec_requests (s : State) (c : FaultClass) (r : Option FaultRec) : (s.setFaultRec c r).requests = s.requests := rfl
@[simp] theorem setFaultRec_modeCtl (s : State) (c : FaultClass) (r : Option FaultRec) : (s.setFaultRec c r).modeCtl = s.modeCtl := rfl
@[simp] theorem setFaultRec_notices (s : State) (c : FaultClass) (r : Option FaultRec) : (s.setFaultRec c r).notices = s.notices := rfl
@[simp] theorem setFaultRec_work (s : State) (c : FaultClass) (r : Option FaultRec) : (s.setFaultRec c r).work = s.work := rfl
@[simp] theorem setFaultRec_pending (s : State) (c : FaultClass) (r : Option FaultRec) : (s.setFaultRec c r).pending = s.pending := rfl

/-! touch -/

@[simp] theorem touch_time (s : State) : (s.touch).time = s.time := rfl
@[simp] theorem touch_timing (s : State) : (s.touch).timing = s.timing := rfl
@[simp] theorem touch_slots (s : State) : (s.touch).slots = s.slots := rfl
@[simp] theorem touch_table (s : State) : (s.touch).table = s.table := rfl
@[simp] theorem touch_lastExpired (s : State) : (s.touch).lastExpired = s.lastExpired := rfl
@[simp] theorem touch_stats (s : State) : (s.touch).stats = s.stats := rfl
@[simp] theorem touch_streams (s : State) : (s.touch).streams = s.streams := rfl
@[simp] theorem touch_coord (s : State) : (s.touch).coord = s.coord := rfl
@[simp] theorem touch_links (s : State) : (s.touch).links = s.links := rfl
@[simp] theorem touch_shuttles (s : State) : (s.touch).shuttles = s.shuttles := rfl
@[simp] theorem touch_bus (s : State) : (s.touch).bus = s.bus := rfl
@[simp] theorem touch_store (s : State) : (s.touch).store = s.store := rfl
@[simp] theorem touch_unsentAsks (s : State) : (s.touch).unsentAsks = s.unsentAsks := rfl
@[simp] theorem touch_requests (s : State) : (s.touch).requests = s.requests := rfl
@[simp] theorem touch_modeCtl (s : State) : (s.touch).modeCtl = s.modeCtl := rfl
@[simp] theorem touch_faults (s : State) : (s.touch).faults = s.faults := rfl
@[simp] theorem touch_notices (s : State) : (s.touch).notices = s.notices := rfl
@[simp] theorem touch_pending (s : State) : (s.touch).pending = s.pending := rfl

/-! wantReeval -/

@[simp] theorem wantReeval_time (s : State) : (s.wantReeval).time = s.time := rfl
@[simp] theorem wantReeval_timing (s : State) : (s.wantReeval).timing = s.timing := rfl
@[simp] theorem wantReeval_slots (s : State) : (s.wantReeval).slots = s.slots := rfl
@[simp] theorem wantReeval_table (s : State) : (s.wantReeval).table = s.table := rfl
@[simp] theorem wantReeval_lastExpired (s : State) : (s.wantReeval).lastExpired = s.lastExpired := rfl
@[simp] theorem wantReeval_stats (s : State) : (s.wantReeval).stats = s.stats := rfl
@[simp] theorem wantReeval_streams (s : State) : (s.wantReeval).streams = s.streams := rfl
@[simp] theorem wantReeval_coord (s : State) : (s.wantReeval).coord = s.coord := rfl
@[simp] theorem wantReeval_links (s : State) : (s.wantReeval).links = s.links := rfl
@[simp] theorem wantReeval_shuttles (s : State) : (s.wantReeval).shuttles = s.shuttles := rfl
@[simp] theorem wantReeval_bus (s : State) : (s.wantReeval).bus = s.bus := rfl
@[simp] theorem wantReeval_store (s : State) : (s.wantReeval).store = s.store := rfl
@[simp] theorem wantReeval_unsentAsks (s : State) : (s.wantReeval).unsentAsks = s.unsentAsks := rfl
@[simp] theorem wantReeval_requests (s : State) : (s.wantReeval).requests = s.requests := rfl
@[simp] theorem wantReeval_modeCtl (s : State) : (s.wantReeval).modeCtl = s.modeCtl := rfl
@[simp] theorem wantReeval_faults (s : State) : (s.wantReeval).faults = s.faults := rfl
@[simp] theorem wantReeval_notices (s : State) : (s.wantReeval).notices = s.notices := rfl
@[simp] theorem wantReeval_pending (s : State) : (s.wantReeval).pending = s.pending := rfl

/-! wantLook -/

@[simp] theorem wantLook_time (s : State) : (s.wantLook).time = s.time := rfl
@[simp] theorem wantLook_timing (s : State) : (s.wantLook).timing = s.timing := rfl
@[simp] theorem wantLook_slots (s : State) : (s.wantLook).slots = s.slots := rfl
@[simp] theorem wantLook_table (s : State) : (s.wantLook).table = s.table := rfl
@[simp] theorem wantLook_lastExpired (s : State) : (s.wantLook).lastExpired = s.lastExpired := rfl
@[simp] theorem wantLook_stats (s : State) : (s.wantLook).stats = s.stats := rfl
@[simp] theorem wantLook_streams (s : State) : (s.wantLook).streams = s.streams := rfl
@[simp] theorem wantLook_coord (s : State) : (s.wantLook).coord = s.coord := rfl
@[simp] theorem wantLook_links (s : State) : (s.wantLook).links = s.links := rfl
@[simp] theorem wantLook_shuttles (s : State) : (s.wantLook).shuttles = s.shuttles := rfl
@[simp] theorem wantLook_bus (s : State) : (s.wantLook).bus = s.bus := rfl
@[simp] theorem wantLook_store (s : State) : (s.wantLook).store = s.store := rfl
@[simp] theorem wantLook_unsentAsks (s : State) : (s.wantLook).unsentAsks = s.unsentAsks := rfl
@[simp] theorem wantLook_requests (s : State) : (s.wantLook).requests = s.requests := rfl
@[simp] theorem wantLook_modeCtl (s : State) : (s.wantLook).modeCtl = s.modeCtl := rfl
@[simp] theorem wantLook_faults (s : State) : (s.wantLook).faults = s.faults := rfl
@[simp] theorem wantLook_notices (s : State) : (s.wantLook).notices = s.notices := rfl
@[simp] theorem wantLook_pending (s : State) : (s.wantLook).pending = s.pending := rfl

/-! raise -/

@[simp] theorem raise_time (s : State) (c : FaultClass) (p : Option Party) : (s.raise c p).time = s.time := rfl
@[simp] theorem raise_timing (s : State) (c : FaultClass) (p : Option Party) : (s.raise c p).timing = s.timing := rfl
@[simp] theorem raise_slots (s : State) (c : FaultClass) (p : Option Party) : (s.raise c p).slots = s.slots := rfl
@[simp] theorem raise_table (s : State) (c : FaultClass) (p : Option Party) : (s.raise c p).table = s.table := rfl
@[simp] theorem raise_lastExpired (s : State) (c : FaultClass) (p : Option Party) : (s.raise c p).lastExpired = s.lastExpired := rfl
@[simp] theorem raise_stats (s : State) (c : FaultClass) (p : Option Party) : (s.raise c p).stats = s.stats := rfl
@[simp] theorem raise_streams (s : State) (c : FaultClass) (p : Option Party) : (s.raise c p).streams = s.streams := rfl
@[simp] theorem raise_coord (s : State) (c : FaultClass) (p : Option Party) : (s.raise c p).coord = s.coord := rfl
@[simp] theorem raise_links (s : State) (c : FaultClass) (p : Option Party) : (s.raise c p).links = s.links := rfl
@[simp] theorem raise_shuttles (s : State) (c : FaultClass) (p : Option Party) : (s.raise c p).shuttles = s.shuttles := rfl
@[simp] theorem raise_bus (s : State) (c : FaultClass) (p : Option Party) : (s.raise c p).bus = s.bus := rfl
@[simp] theorem raise_store (s : State) (c : FaultClass) (p : Option Party) : (s.raise c p).store = s.store := rfl
@[simp] theorem raise_unsentAsks (s : State) (c : FaultClass) (p : Option Party) : (s.raise c p).unsentAsks = s.unsentAsks := rfl
@[simp] theorem raise_requests (s : State) (c : FaultClass) (p : Option Party) : (s.raise c p).requests = s.requests := rfl
@[simp] theorem raise_modeCtl (s : State) (c : FaultClass) (p : Option Party) : (s.raise c p).modeCtl = s.modeCtl := rfl
@[simp] theorem raise_faults (s : State) (c : FaultClass) (p : Option Party) : (s.raise c p).faults = s.faults := rfl
@[simp] theorem raise_notices (s : State) (c : FaultClass) (p : Option Party) : (s.raise c p).notices = s.notices := rfl
@[simp] theorem raise_pending (s : State) (c : FaultClass) (p : Option Party) : (s.raise c p).pending = s.pending := rfl

/-! pushUpstream -/

@[simp] theorem pushUpstream_time (s : State) (t : Tel) : (s.pushUpstream t).time = s.time := rfl
@[simp] theorem pushUpstream_timing (s : State) (t : Tel) : (s.pushUpstream t).timing = s.timing := rfl
@[simp] theorem pushUpstream_slots (s : State) (t : Tel) : (s.pushUpstream t).slots = s.slots := rfl
@[simp] theorem pushUpstream_table (s : State) (t : Tel) : (s.pushUpstream t).table = s.table := rfl
@[simp] theorem pushUpstream_lastExpired (s : State) (t : Tel) : (s.pushUpstream t).lastExpired = s.lastExpired := rfl
@[simp] theorem pushUpstream_stats (s : State) (t : Tel) : (s.pushUpstream t).stats = s.stats := rfl
@[simp] theorem pushUpstream_streams (s : State) (t : Tel) : (s.pushUpstream t).streams = s.streams := rfl
@[simp] theorem pushUpstream_coord (s : State) (t : Tel) : (s.pushUpstream t).coord = s.coord := rfl
@[simp] theorem pushUpstream_links (s : State) (t : Tel) : (s.pushUpstream t).links = s.links := rfl
@[simp] theorem pushUpstream_shuttles (s : State) (t : Tel) : (s.pushUpstream t).shuttles = s.shuttles := rfl
@[simp] theorem pushUpstream_bus (s : State) (t : Tel) : (s.pushUpstream t).bus = s.bus := rfl
@[simp] theorem pushUpstream_unsentAsks (s : State) (t : Tel) : (s.pushUpstream t).unsentAsks = s.unsentAsks := rfl
@[simp] theorem pushUpstream_requests (s : State) (t : Tel) : (s.pushUpstream t).requests = s.requests := rfl
@[simp] theorem pushUpstream_modeCtl (s : State) (t : Tel) : (s.pushUpstream t).modeCtl = s.modeCtl := rfl
@[simp] theorem pushUpstream_faults (s : State) (t : Tel) : (s.pushUpstream t).faults = s.faults := rfl
@[simp] theorem pushUpstream_notices (s : State) (t : Tel) : (s.pushUpstream t).notices = s.notices := rfl
@[simp] theorem pushUpstream_work (s : State) (t : Tel) : (s.pushUpstream t).work = s.work := rfl
@[simp] theorem pushUpstream_pending (s : State) (t : Tel) : (s.pushUpstream t).pending = s.pending := rfl

/-! setStop -/

@[simp] theorem setStop_time (s : State) (b : Bool) : (s.setStop b).time = s.time := rfl
@[simp] theorem setStop_timing (s : State) (b : Bool) : (s.setStop b).timing = s.timing := rfl
@[simp] theorem setStop_slots (s : State) (b : Bool) : (s.setStop b).slots = s.slots := rfl
@[simp] theorem setStop_table (s : State) (b : Bool) : (s.setStop b).table = s.table := rfl
@[simp] theorem setStop_lastExpired (s : State) (b : Bool) : (s.setStop b).lastExpired = s.lastExpired := rfl
@[simp] theorem setStop_stats (s : State) (b : Bool) : (s.setStop b).stats = s.stats := rfl
@[simp] theorem setStop_streams (s : State) (b : Bool) : (s.setStop b).streams = s.streams := rfl
@[simp] theorem setStop_coord (s : State) (b : Bool) : (s.setStop b).coord = s.coord := rfl
@[simp] theorem setStop_links (s : State) (b : Bool) : (s.setStop b).links = s.links := rfl
@[simp] theorem setStop_shuttles (s : State) (b : Bool) : (s.setStop b).shuttles = s.shuttles := rfl
@[simp] theorem setStop_bus (s : State) (b : Bool) : (s.setStop b).bus = s.bus := rfl
@[simp] theorem setStop_store (s : State) (b : Bool) : (s.setStop b).store = s.store := rfl
@[simp] theorem setStop_unsentAsks (s : State) (b : Bool) : (s.setStop b).unsentAsks = s.unsentAsks := rfl
@[simp] theorem setStop_requests (s : State) (b : Bool) : (s.setStop b).requests = s.requests := rfl
@[simp] theorem setStop_faults (s : State) (b : Bool) : (s.setStop b).faults = s.faults := rfl
@[simp] theorem setStop_notices (s : State) (b : Bool) : (s.setStop b).notices = s.notices := rfl
@[simp] theorem setStop_work (s : State) (b : Bool) : (s.setStop b).work = s.work := rfl
@[simp] theorem setStop_pending (s : State) (b : Bool) : (s.setStop b).pending = s.pending := rfl

/-! endTurn -/

@[simp] theorem endTurn_time (s : State) : (s.endTurn).time = s.time := rfl
@[simp] theorem endTurn_timing (s : State) : (s.endTurn).timing = s.timing := rfl
@[simp] theorem endTurn_slots (s : State) : (s.endTurn).slots = s.slots := rfl
@[simp] theorem endTurn_table (s : State) : (s.endTurn).table = s.table := rfl
@[simp] theorem endTurn_lastExpired (s : State) : (s.endTurn).lastExpired = s.lastExpired := rfl
@[simp] theorem endTurn_stats (s : State) : (s.endTurn).stats = s.stats := rfl
@[simp] theorem endTurn_streams (s : State) : (s.endTurn).streams = s.streams := rfl
@[simp] theorem endTurn_coord (s : State) : (s.endTurn).coord = s.coord := rfl
@[simp] theorem endTurn_links (s : State) : (s.endTurn).links = s.links := rfl
@[simp] theorem endTurn_shuttles (s : State) : (s.endTurn).shuttles = s.shuttles := rfl
@[simp] theorem endTurn_store (s : State) : (s.endTurn).store = s.store := rfl
@[simp] theorem endTurn_unsentAsks (s : State) : (s.endTurn).unsentAsks = s.unsentAsks := rfl
@[simp] theorem endTurn_requests (s : State) : (s.endTurn).requests = s.requests := rfl
@[simp] theorem endTurn_modeCtl (s : State) : (s.endTurn).modeCtl = s.modeCtl := rfl
@[simp] theorem endTurn_faults (s : State) : (s.endTurn).faults = s.faults := rfl
@[simp] theorem endTurn_notices (s : State) : (s.endTurn).notices = s.notices := rfl
@[simp] theorem endTurn_work (s : State) : (s.endTurn).work = { s.work with look := true } := rfl
@[simp] theorem endTurn_pending (s : State) : (s.endTurn).pending = s.pending := rfl

/-! storeHunt -/

@[simp] theorem storeHunt_time (s : State) : (s.storeHunt).time = s.time := rfl
@[simp] theorem storeHunt_timing (s : State) : (s.storeHunt).timing = s.timing := rfl
@[simp] theorem storeHunt_slots (s : State) : (s.storeHunt).slots = s.slots := rfl
@[simp] theorem storeHunt_table (s : State) : (s.storeHunt).table = s.table := rfl
@[simp] theorem storeHunt_lastExpired (s : State) : (s.storeHunt).lastExpired = s.lastExpired := rfl
@[simp] theorem storeHunt_stats (s : State) : (s.storeHunt).stats = s.stats := rfl
@[simp] theorem storeHunt_streams (s : State) : (s.storeHunt).streams = s.streams := rfl
@[simp] theorem storeHunt_coord (s : State) : (s.storeHunt).coord = s.coord := rfl
@[simp] theorem storeHunt_links (s : State) : (s.storeHunt).links = s.links := rfl
@[simp] theorem storeHunt_shuttles (s : State) : (s.storeHunt).shuttles = s.shuttles := rfl
@[simp] theorem storeHunt_bus (s : State) : (s.storeHunt).bus = s.bus := rfl
@[simp] theorem storeHunt_unsentAsks (s : State) : (s.storeHunt).unsentAsks = s.unsentAsks := rfl
@[simp] theorem storeHunt_requests (s : State) : (s.storeHunt).requests = s.requests := rfl
@[simp] theorem storeHunt_modeCtl (s : State) : (s.storeHunt).modeCtl = s.modeCtl := rfl
@[simp] theorem storeHunt_faults (s : State) : (s.storeHunt).faults = s.faults := rfl
@[simp] theorem storeHunt_notices (s : State) : (s.storeHunt).notices = s.notices := rfl
@[simp] theorem storeHunt_work (s : State) : (s.storeHunt).work = s.work := rfl
@[simp] theorem storeHunt_pending (s : State) : (s.storeHunt).pending = s.pending := rfl

/-! withPending -/

@[simp] theorem withPending_time (s : State) (q : List Instr) : (s.withPending q).time = s.time := rfl
@[simp] theorem withPending_timing (s : State) (q : List Instr) : (s.withPending q).timing = s.timing := rfl
@[simp] theorem withPending_slots (s : State) (q : List Instr) : (s.withPending q).slots = s.slots := rfl
@[simp] theorem withPending_table (s : State) (q : List Instr) : (s.withPending q).table = s.table := rfl
@[simp] theorem withPending_lastExpired (s : State) (q : List Instr) : (s.withPending q).lastExpired = s.lastExpired := rfl
@[simp] theorem withPending_stats (s : State) (q : List Instr) : (s.withPending q).stats = s.stats := rfl
@[simp] theorem withPending_streams (s : State) (q : List Instr) : (s.withPending q).streams = s.streams := rfl
@[simp] theorem withPending_coord (s : State) (q : List Instr) : (s.withPending q).coord = s.coord := rfl
@[simp] theorem withPending_links (s : State) (q : List Instr) : (s.withPending q).links = s.links := rfl
@[simp] theorem withPending_shuttles (s : State) (q : List Instr) : (s.withPending q).shuttles = s.shuttles := rfl
@[simp] theorem withPending_bus (s : State) (q : List Instr) : (s.withPending q).bus = s.bus := rfl
@[simp] theorem withPending_store (s : State) (q : List Instr) : (s.withPending q).store = s.store := rfl
@[simp] theorem withPending_unsentAsks (s : State) (q : List Instr) : (s.withPending q).unsentAsks = s.unsentAsks := rfl
@[simp] theorem withPending_requests (s : State) (q : List Instr) : (s.withPending q).requests = s.requests := rfl
@[simp] theorem withPending_modeCtl (s : State) (q : List Instr) : (s.withPending q).modeCtl = s.modeCtl := rfl
@[simp] theorem withPending_faults (s : State) (q : List Instr) : (s.withPending q).faults = s.faults := rfl
@[simp] theorem withPending_notices (s : State) (q : List Instr) : (s.withPending q).notices = s.notices := rfl
@[simp] theorem withPending_work (s : State) (q : List Instr) : (s.withPending q).work = s.work := rfl

/-! schedule and lookDone -/

/-- The look of the scheduler changes the bus alone. -/
theorem schedule_eq (s : State) : s.schedule = { s with bus := s.schedule.bus } := by
  unfold schedule
  repeat' split
  all_goals rfl

/-- So does the look at the end of an event. -/
theorem lookDone_eq (s : State) : s.lookDone = { s with bus := s.lookDone.bus } := by
  unfold lookDone
  split
  · exact schedule_eq s
  · rfl

/-- With no look due nothing is done. -/
theorem lookDone_of_clear {s : State} (h : s.work.look = false) : s.lookDone = s := by simp [lookDone, h]

/-- With a look due it is made. -/
theorem lookDone_of_set {s : State} (h : s.work.look = true) : s.lookDone = s.schedule := by simp [lookDone, h]

/-- Nothing is looked for during a turn. -/
theorem schedule_of_turn {s : State} (h : s.bus.turn ≠ .idle) : s.schedule = s := by
  unfold schedule
  split
  · exact absurd ‹_› h
  · rfl
  · rfl

/-- The level that was found stays while it is included. -/
theorem schedule_of_stands {s : State} (h : s.nextStands = true) : s.schedule = s := by
  unfold schedule
  split
  · rw [if_pos h]
  · rfl
  · rfl

/-- Between turns, with no level that stands for the next turn, the scheduler looks. -/
theorem schedule_of_idle {s : State} (h : s.bus.turn = .idle) (hn : s.nextStands = false) :
    s.schedule = { s with bus := s.look } := by simp [schedule, h, hn]

@[simp] theorem lookDone_time (s : State) : (s.lookDone).time = s.time := by rw [lookDone_eq]
@[simp] theorem lookDone_timing (s : State) : (s.lookDone).timing = s.timing := by rw [lookDone_eq]
@[simp] theorem lookDone_slots (s : State) : (s.lookDone).slots = s.slots := by rw [lookDone_eq]
@[simp] theorem lookDone_table (s : State) : (s.lookDone).table = s.table := by rw [lookDone_eq]
@[simp] theorem lookDone_lastExpired (s : State) : (s.lookDone).lastExpired = s.lastExpired := by rw [lookDone_eq]
@[simp] theorem lookDone_stats (s : State) : (s.lookDone).stats = s.stats := by rw [lookDone_eq]
@[simp] theorem lookDone_streams (s : State) : (s.lookDone).streams = s.streams := by rw [lookDone_eq]
@[simp] theorem lookDone_coord (s : State) : (s.lookDone).coord = s.coord := by rw [lookDone_eq]
@[simp] theorem lookDone_links (s : State) : (s.lookDone).links = s.links := by rw [lookDone_eq]
@[simp] theorem lookDone_shuttles (s : State) : (s.lookDone).shuttles = s.shuttles := by rw [lookDone_eq]
@[simp] theorem lookDone_store (s : State) : (s.lookDone).store = s.store := by rw [lookDone_eq]
@[simp] theorem lookDone_unsentAsks (s : State) : (s.lookDone).unsentAsks = s.unsentAsks := by rw [lookDone_eq]
@[simp] theorem lookDone_requests (s : State) : (s.lookDone).requests = s.requests := by rw [lookDone_eq]
@[simp] theorem lookDone_modeCtl (s : State) : (s.lookDone).modeCtl = s.modeCtl := by rw [lookDone_eq]
@[simp] theorem lookDone_faults (s : State) : (s.lookDone).faults = s.faults := by rw [lookDone_eq]
@[simp] theorem lookDone_notices (s : State) : (s.lookDone).notices = s.notices := by rw [lookDone_eq]
@[simp] theorem lookDone_work (s : State) : (s.lookDone).work = s.work := by rw [lookDone_eq]
@[simp] theorem lookDone_pending (s : State) : (s.lookDone).pending = s.pending := by rw [lookDone_eq]

/-- What a look keeps of a bus. -/
theorem newCycle_keeps (s : State) (k : Nat) (b : Bus) :
    s.newCycle k b = { b with
      pos := (s.newCycle k b).pos, next := (s.newCycle k b).next, cycle := (s.newCycle k b).cycle
      probeCycle := (s.newCycle k b).probeCycle, probeCount := (s.newCycle k b).probeCount } := by
  induction k generalizing b with
  | zero => rfl
  | succ k ih =>
    unfold newCycle
    dsimp only
    split
    · rfl
    · rw [ih]
      unfold Bus.endCycle Bus.beginCycle
      split <;> rfl

/-- A look changes the position, the level found and the cycle alone. -/
theorem look_keeps (s : State) :
    s.look = { s.bus with
      pos := s.look.pos, next := s.look.next, cycle := s.look.cycle
      probeCycle := s.look.probeCycle, probeCount := s.look.probeCount } := by
  unfold look
  split
  · rfl
  · split
    · rw [newCycle_keeps]
      unfold Bus.endCycle
      split <;> rfl
    · unfold Bus.endCycle
      split <;> rfl

/-- The turn, the receiver, the queue and the own-tag count stay at the end of an event. -/
theorem lookDone_bus_keeps (s : State) :
    s.lookDone.bus = { s.bus with
      pos := s.lookDone.bus.pos, next := s.lookDone.bus.next, cycle := s.lookDone.bus.cycle
      probeCycle := s.lookDone.bus.probeCycle, probeCount := s.lookDone.bus.probeCount } := by
  unfold lookDone schedule
  repeat' split
  all_goals first | rfl | exact look_keeps s

/-! ### Reading back -/

@[simp] theorem entry_setEntry_self (s : State) (h : Handle) (e : Option Entry) : (s.setEntry h e).entry h = e := by
  simp [setEntry, entry]

theorem entry_setEntry_ne (s : State) (h k : Handle) (e : Option Entry) (hne : h ≠ k) :
    (s.setEntry h e).entry k = s.entry k := by
  have : h.val ≠ k.val := fun hv => hne (Fin.ext hv)
  simp [setEntry, entry, this]

@[simp] theorem stream_setStream_self (s : State) (i : StreamNo) (v : Stream) : (s.setStream i v).stream i = v := by
  simp [setStream, stream]

theorem stream_setStream_ne (s : State) (i k : StreamNo) (v : Stream) (hne : i ≠ k) :
    (s.setStream i v).stream k = s.stream k := by
  have : i.val ≠ k.val := fun hv => hne (Fin.ext hv)
  simp [setStream, stream, this]

@[simp] theorem shuttle_setShuttle_self (s : State) (n : Level) (v : ShuttleRec) :
    (s.setShuttle n v).shuttle n = v := by
  simp [setShuttle, shuttle]

theorem shuttle_setShuttle_ne (s : State) (n m : Level) (v : ShuttleRec) (hne : n ≠ m) :
    (s.setShuttle n v).shuttle m = s.shuttle m := by
  have : n.val ≠ m.val := fun hv => hne (Fin.ext hv)
  simp [setShuttle, shuttle, this]

@[simp] theorem lift_setLift_self (s : State) (x : Lift) (v : LiftRec) : (s.setLift x v).lift x = v := by
  cases x <;> rfl

theorem lift_setLift_ne (s : State) (x y : Lift) (v : LiftRec) (hne : x ≠ y) : (s.setLift x v).lift y = s.lift y := by
  cases x <;> cases y <;> first | rfl | exact absurd rfl hne

@[simp] theorem link_setLink_self (s : State) (x : Lift) (v : LinkRec) : (s.setLink x v).link x = v := by
  cases x <;> rfl

theorem link_setLink_ne (s : State) (x y : Lift) (v : LinkRec) (hne : x ≠ y) : (s.setLink x v).link y = s.link y := by
  cases x <;> cases y <;> first | rfl | exact absurd rfl hne

/-- Two parties with one index are one party. -/
theorem idx_injective {p q : Party} (h : p.idx = q.idx) : p = q := by
  have hv : p.idx.val = q.idx.val := congrArg Fin.val h
  rcases p with n | x <;> rcases q with m | y
  · exact congrArg Party.shuttle (Fin.ext hv)
  · exfalso; cases y <;> simp [Party.idx] at hv <;> omega
  · exfalso; cases x <;> simp [Party.idx] at hv <;> omega
  · cases x <;> cases y <;> simp [Party.idx] at hv ⊢

@[simp] theorem latch_setLatchBit_self (s : State) (p : Party) (b : Bool) : (s.setLatchBit p b).latch p = b := by
  simp [setLatchBit, latch]

theorem latch_setLatchBit_ne (s : State) (p q : Party) (b : Bool) (hne : p ≠ q) :
    (s.setLatchBit p b).latch q = s.latch q := by
  have : p.idx.val ≠ q.idx.val := fun hv => hne (idx_injective (Fin.ext hv))
  simp [setLatchBit, latch, this]

@[simp] theorem faultRec_setFaultRec_self (s : State) (c : FaultClass) (r : Option FaultRec) :
    (s.setFaultRec c r).faultRec c = r := by
  simp [setFaultRec, faultRec]

theorem faultRec_setFaultRec_ne (s : State) (c d : FaultClass) (r : Option FaultRec) (hne : c ≠ d) :
    (s.setFaultRec c r).faultRec d = s.faultRec d := by
  have : c.idx.val ≠ d.idx.val := by
    intro hv; apply hne; revert hv; cases c <;> cases d <;> decide
  simp [setFaultRec, faultRec, this]

@[simp] theorem lastExpiredOf_setLastExpired_self (s : State) (p : Party) (h : Option Handle) :
    (s.setLastExpired p h).lastExpiredOf p = h := by
  simp [setLastExpired, lastExpiredOf]

/-- One slot of a level after a write of one slot. -/
theorem LevelSlots.get_set (l : LevelSlots) (c d : SlotCode) (v : Slot) :
    (LevelSlots.set l c v).get d = if c = d then v else l.get d := by
  cases c <;> cases d <;> rfl

@[simp] theorem slot_setSlot_self (s : State) (n : Level) (c : SlotCode) (v : Slot) :
    (s.setSlot n c v).slot n c = v := by
  simp [setSlot, slot, LevelSlots.get_set]

theorem slot_setSlot_ne (s : State) (n m : Level) (c d : SlotCode) (v : Slot) (hne : (n, c) ≠ (m, d)) :
    (s.setSlot n c v).slot m d = s.slot m d := by
  by_cases hn : n = m
  · subst hn
    have hc : c ≠ d := fun h => hne (by rw [h])
    simp [setSlot, slot, LevelSlots.get_set, hc]
  · have : n.val ≠ m.val := fun hv => hn (Fin.ext hv)
    simp [setSlot, slot, this]

end Sys2Proof.Machine.State
end

