-- ==== Sys2Proof/Laws/Settled.lean ====
section
/-! SUPPORT. What the end of a step (R49, R75, R96, R173, R175, R176) never changes: `fixed` gathers it, and each shared
operation that the end of a step uses has one lemma that says it keeps `fixed`. -/

namespace Sys2Proof.Machine

/-- A slot record without its claim. -/
def Slot.unclaimed : Slot → Slot
  | .opened c _ => .opened c none
  | .off => .off
  | .doubt c d k r => .doubt c d k r
  | .fenced c => .fenced c

/-- What the end of a step keeps of a lift. -/
def LiftRec.fixed (l : LiftRec) : LiftRec := { l with calls := [] }

/-- What the end of a step keeps of a lift link. -/
def LinkRec.fixed (k : LinkRec) : LinkRec := { k with down := [] }

/-- What the end of a step keeps of a level. -/
def ShuttleRec.fixed (r : ShuttleRec) : ShuttleRec := { r with box := [] }

/-- What the end of a step keeps of a stream. -/
def Stream.fixed (t : Stream) : Stream :=
  { t with active := .a, switchPending := false, list := t.list.map (fun e => { e with pledged := false }) }

/-- What the end of a step keeps of the store line. -/
def StoreLine.fixed (l : StoreLine) : StoreLine := { l with upstream := [], noticeWait := none }

/-- The part of State that the end of a step never changes. -/
structure Fixed where
  time : Stamp
  timing : Timing
  lastExpired : Vector (Option Handle) 42
  stats : Vector Stat 42
  bus : Bus
  requests : List ReqItem
  pending : List Instr
  store : StoreLine
  stop : Bool
  resumeDefault : ResumeMode
  dispositions : Vector Disposition 12
  priority : List FaultClass
  enabled : Flags
  reserved : Bool
  lift : Lift → LiftRec
  link : Lift → LinkRec
  shuttle : Level → ShuttleRec
  stream : StreamNo → Stream
  slot : Level → SlotCode → Slot

/-- The part of a state that the end of a step never changes. -/
def State.fixed (s : State) : Fixed where
  time := s.time
  timing := s.timing
  lastExpired := s.lastExpired
  stats := s.stats
  bus := s.bus
  requests := s.requests
  pending := s.pending
  store := s.store.fixed
  stop := s.modeCtl.stop
  resumeDefault := s.modeCtl.resumeDefault
  dispositions := s.faults.dispositions
  priority := s.faults.priority
  enabled := s.notices.enabled
  reserved := s.work.reserved
  lift := fun x => (s.lift x).fixed
  link := fun x => (s.link x).fixed
  shuttle := fun n => (s.shuttle n).fixed
  stream := fun i => (s.stream i).fixed
  slot := fun n c => (s.slot n c).unclaimed

namespace State

/-! ### Updates that keep it -/

@[simp] theorem fixed_setEntry (s : State) (h : Handle) (e : Option Entry) : (s.setEntry h e).fixed = s.fixed := rfl
@[simp] theorem fixed_touch (s : State) : s.touch.fixed = s.fixed := rfl
@[simp] theorem fixed_wantReeval (s : State) : s.wantReeval.fixed = s.fixed := rfl
@[simp] theorem fixed_raise (s : State) (c : FaultClass) (p : Option Party) : (s.raise c p).fixed = s.fixed := rfl
@[simp] theorem fixed_pushUpstream (s : State) (t : Tel) : (s.pushUpstream t).fixed = s.fixed := rfl
@[simp] theorem fixed_setLatchBit (s : State) (p : Party) (b : Bool) : (s.setLatchBit p b).fixed = s.fixed := rfl
@[simp] theorem fixed_setFaultRec (s : State) (c : FaultClass) (r : Option FaultRec) :
    (s.setFaultRec c r).fixed = s.fixed := rfl
@[simp] theorem fixed_dropConfirmAsks (s : State) (h : Handle) : (s.dropConfirmAsks h).fixed = s.fixed := rfl

/-- A write of one slot that changes at most its claim. -/
theorem fixed_setSlot (s : State) (n : Level) (c : SlotCode) (v : Slot) (hv : v.unclaimed = (s.slot n c).unclaimed) :
    (s.setSlot n c v).fixed = s.fixed := by
  have h : (fun m d => ((s.setSlot n c v).slot m d).unclaimed) = fun m d => (s.slot m d).unclaimed := by
    funext m d
    by_cases hne : (n, c) = (m, d)
    · obtain ⟨rfl, rfl⟩ := Prod.mk.inj hne; simp [hv]
    · rw [slot_setSlot_ne _ _ _ _ _ _ hne]
  have : (s.setSlot n c v).fixed = { s.fixed with slot := fun m d => ((s.setSlot n c v).slot m d).unclaimed } := rfl
  rw [this, h]; rfl

/-- A write of one stream that keeps what is fixed of it. -/
theorem fixed_setStream (s : State) (i : StreamNo) (v : Stream) (hv : v.fixed = (s.stream i).fixed) :
    (s.setStream i v).fixed = s.fixed := by
  have h : (fun k => ((s.setStream i v).stream k).fixed) = fun k => (s.stream k).fixed := by
    funext k
    by_cases hne : i = k
    · subst hne; simp [hv]
    · rw [stream_setStream_ne _ _ _ _ hne]
  have : (s.setStream i v).fixed = { s.fixed with stream := fun k => ((s.setStream i v).stream k).fixed } := rfl
  rw [this, h]; rfl

/-- A write of one level that keeps what is fixed of it. -/
theorem fixed_setShuttle (s : State) (n : Level) (v : ShuttleRec) (hv : v.fixed = (s.shuttle n).fixed) :
    (s.setShuttle n v).fixed = s.fixed := by
  have h : (fun m => ((s.setShuttle n v).shuttle m).fixed) = fun m => (s.shuttle m).fixed := by
    funext m
    by_cases hne : n = m
    · subst hne; simp [hv]
    · rw [shuttle_setShuttle_ne _ _ _ _ hne]
  have : (s.setShuttle n v).fixed = { s.fixed with shuttle := fun m => ((s.setShuttle n v).shuttle m).fixed } := rfl
  rw [this, h]; rfl

/-- A write of one link that keeps what is fixed of it. -/
theorem fixed_setLink (s : State) (x : Lift) (v : LinkRec) (hv : v.fixed = (s.link x).fixed) :
    (s.setLink x v).fixed = s.fixed := by
  have h : (fun y => ((s.setLink x v).link y).fixed) = fun y => (s.link y).fixed := by
    funext y
    by_cases hne : x = y
    · subst hne; simp [hv]
    · rw [link_setLink_ne _ _ _ _ hne]
  have : (s.setLink x v).fixed = { s.fixed with link := fun y => ((s.setLink x v).link y).fixed } := rfl
  rw [this, h]; rfl

/-- A fold of an operation that keeps it. -/
theorem fixed_foldl {α : Type} (f : State → α → State) (hf : ∀ s a, (f s a).fixed = s.fixed) (l : List α) (s : State) :
    (l.foldl f s).fixed = s.fixed := by
  induction l generalizing s with
  | nil => rfl
  | cons a l ih => rw [List.foldl_cons, ih, hf]

/-! ### Telegrams -/

@[simp] theorem fixed_sendLift (s : State) (x : Lift) (t : Tel) : (s.sendLift x t).fixed = s.fixed := by
  unfold sendLift
  dsimp only
  split
  · exact fixed_setLink _ _ _ rfl
  · rfl

@[simp] theorem fixed_sendShuttle (s : State) (n : Level) (t : Tel) (a : Option Handle) :
    (s.sendShuttle n t a).fixed = s.fixed := by
  unfold sendShuttle
  dsimp only
  split <;> first | rfl | exact fixed_setShuttle _ _ _ rfl

@[simp] theorem fixed_sendParty (s : State) (p : Party) (t : Tel) (a : Option Handle) :
    (s.sendParty p t a).fixed = s.fixed := by
  cases p <;> simp [sendParty]

@[simp] theorem fixed_refuse (s : State) (p : Party) (k : Byte) (r : Reason) (h tag : Byte) (a : Option Handle) :
    (s.refuse p k r h tag a).fixed = s.fixed := by simp [refuse]

@[simp] theorem fixed_sendGo (s : State) (h : Handle) (e : Entry) : (s.sendGo h e).fixed = s.fixed := by simp [sendGo]

@[simp] theorem fixed_sendHold (s : State) (h : Handle) (e : Entry) (r : Reason) :
    (s.sendHold h e r).fixed = s.fixed := by simp [sendHold]

@[simp] theorem fixed_sendConfirmAsk (s : State) (t : Tel) : (s.sendConfirmAsk t).fixed = s.fixed := by
  unfold sendConfirmAsk; split <;> rfl

@[simp] theorem fixed_refreshNotice (s : State) : s.refreshNotice.fixed = s.fixed := rfl

@[simp] theorem fixed_makeNotice (s : State) : s.makeNotice.fixed = s.fixed := by
  unfold makeNotice; dsimp only; repeat' split
  all_goals rfl

@[simp] theorem fixed_handFlag (s : State) (f : Flag) : (s.handFlag f).fixed = s.fixed := by
  unfold handFlag; dsimp only; split
  · rw [fixed_makeNotice]; rfl
  · rfl

@[simp] theorem fixed_setMode (s : State) (m : Mode) : (s.setMode m).fixed = s.fixed := by
  unfold setMode; rw [fixed_handFlag]; rfl

@[simp] theorem fixed_recordFault (s : State) (r : Raise) : (s.recordFault r).fixed = s.fixed := by
  unfold recordFault; split <;> simp

@[simp] theorem fixed_withdrawGos (s : State) (p : Party) : (s.withdrawGos p).fixed = s.fixed := by
  cases p
  · exact fixed_setShuttle _ _ _ rfl
  · exact fixed_setLink _ _ _ rfl

@[simp] theorem fixed_withdrawAllGos (s : State) : s.withdrawAllGos.fixed = s.fixed := by
  unfold withdrawAllGos
  rw [fixed_withdrawGos, fixed_withdrawGos]
  apply fixed_foldl
  intro s n; split <;> simp

/-! ### Claims and pledges -/

@[simp] theorem fixed_takeClaim (s : State) (n : Level) (c : SlotCode) (k : Claim) :
    (s.takeClaim n c k).fixed = s.fixed := by
  unfold takeClaim
  split <;> first | rfl | (apply fixed_setSlot; simp_all [Slot.unclaimed])

@[simp] theorem fixed_releaseClaim (s : State) (n : Level) (c : SlotCode) (h : Handle) :
    (s.releaseClaim n c h).fixed = s.fixed := by
  unfold releaseClaim
  split
  · split
    · apply fixed_setSlot; simp_all [Slot.unclaimed]
    · rfl
  all_goals rfl

@[simp] theorem fixed_takeClaims (s : State) (h : Handle) (k : Kind) (l : List Item) :
    (s.takeClaims h k l).fixed = s.fixed := by
  apply fixed_foldl; intro s i; split <;> simp

@[simp] theorem fixed_releaseClaims (s : State) (h : Handle) (l : List Item) :
    (s.releaseClaims h l).fixed = s.fixed := by
  apply fixed_foldl; intro s i; split <;> simp

/-- A change of one pledge in one list. -/
theorem fixed_changeRel_pledge (s : State) (i : StreamNo) (id : ToteId) (b : Bool) :
    (s.changeRel i id (fun e => { e with pledged := b })).fixed = s.fixed := by
  apply fixed_setStream
  unfold Stream.fixed
  simp only [List.map_map]
  congr 1
  apply List.map_congr_left
  intro e _
  dsimp only [Function.comp]
  split <;> rfl

@[simp] theorem fixed_pledge (s : State) (l : List Item) : (s.pledge l).fixed = s.fixed := by
  apply fixed_foldl; intro s i; split
  · split
    · rfl
    · exact fixed_changeRel_pledge _ _ _ _
  · rfl

@[simp] theorem fixed_unpledge (s : State) (l : List Item) : (s.unpledge l).fixed = s.fixed := by
  apply fixed_foldl; intro s i; split
  · split
    · rfl
    · exact fixed_changeRel_pledge _ _ _ _
  · rfl

/-! ### Grants, removals, confirmations -/

@[simp] theorem fixed_grant (s : State) (h : Handle) (e : Entry) (l : List Item) : (s.grant h e l).fixed = s.fixed := by
  unfold grant; dsimp only; split <;> simp

@[simp] theorem fixed_hold (s : State) (h : Handle) (e : Entry) (r : Reason) : (s.hold h e r).fixed = s.fixed := by
  simp [hold]

@[simp] theorem fixed_enterConfirming (s : State) (h : Handle) (e : Entry) (l : List Item) :
    (s.enterConfirming h e l).fixed = s.fixed := by
  unfold enterConfirming; dsimp only
  rw [fixed_touch, fixed_foldl]
  · simp
  · intro s i; split <;> simp

@[simp] theorem fixed_checkDrain (s : State) : s.checkDrain.fixed = s.fixed := by
  unfold checkDrain; split <;> simp

@[simp] theorem fixed_removeEntry (s : State) (h : Handle) (e : Entry) : (s.removeEntry h e).fixed = s.fixed := by
  unfold removeEntry; dsimp only; split <;> simp

@[simp] theorem fixed_refuseEntry (s : State) (h : Handle) (e : Entry) (r : Reason) :
    (s.refuseEntry h e r).fixed = s.fixed := by simp [refuseEntry]

/-! ### The end of a step -/

@[simp] theorem fixed_evalStream (s : State) (i : StreamNo) : (s.evalStream i).fixed = s.fixed := by
  unfold evalStream; dsimp only
  repeat' split
  all_goals first | rfl | (simp only [fixed_wantReeval]; exact fixed_setStream _ _ _ rfl) | exact fixed_setStream _ _ _ rfl

@[simp] theorem fixed_evalStreams (s : State) : s.evalStreams.fixed = s.fixed :=
  fixed_foldl _ fixed_evalStream _ _

@[simp] theorem fixed_reevalEntry (s : State) (h : Handle) : (s.reevalEntry h).fixed = s.fixed := by
  unfold reevalEntry
  repeat' split
  all_goals simp

@[simp] theorem fixed_reevaluate (s : State) : s.reevaluate.fixed = s.fixed := by
  unfold reevaluate; split
  · exact fixed_foldl _ fixed_reevalEntry _ _
  · rfl

@[simp] theorem fixed_updateCalls (s : State) : s.updateCalls.fixed = s.fixed := by
  have h : (fun x => (s.updateCalls.lift x).fixed) = fun x => (s.lift x).fixed := by funext x; cases x <;> rfl
  have : s.updateCalls.fixed = { s.fixed with lift := fun x => (s.updateCalls.lift x).fixed } := rfl
  rw [this, h]; rfl

@[simp] theorem fixed_settle (s : State) : s.settle.fixed = s.fixed := by
  unfold settle; split
  · have (t : State) (a b : Bool) :
        State.fixed { t with work := { t.work with touched := a, reeval := b } } = t.fixed := rfl
    dsimp only; rw [this, fixed_updateCalls]; split <;> simp
  · rfl

@[simp] theorem fixed_enterHalt (s : State) : s.enterHalt.fixed = s.fixed := by
  unfold enterHalt; split <;> simp

@[simp] theorem fixed_setLatch (s : State) (p : Party) : (s.setLatch p).fixed = s.fixed := by
  unfold setLatch; dsimp only
  repeat' split
  all_goals simp

@[simp] theorem fixed_dispose (s : State) (r : Raise) : (s.dispose r).fixed = s.fixed := by
  unfold dispose
  repeat' split
  all_goals simp

@[simp] theorem fixed_applyRaise (s : State) (r : Raise) : (s.applyRaise r).fixed = s.fixed := by simp [applyRaise]

@[simp] theorem fixed_finishWith (k : Nat) (s : State) : (s.finishWith k).fixed = s.fixed := by
  induction k generalizing s with
  | zero => exact fixed_settle s
  | succ k ih =>
    unfold finishWith; dsimp only
    split
    · exact fixed_settle s
    · rename_i r rs _
      rw [ih, fixed_applyRaise]
      exact fixed_settle s

/-- The look of the scheduler changes of this part the bus alone. -/
theorem fixed_lookDone (s : State) : s.lookDone.fixed = { s.fixed with bus := s.lookDone.bus } := by
  rw [lookDone_eq]; rfl

/-- The end of a step changes of this part only what the scheduler's look changes. -/
@[simp] theorem fixed_finish (s : State) : s.finish.fixed = s.lookDone.fixed := fixed_finishWith _ s.lookDone

/-! ### The end of a step with nothing to do -/

/-- With nothing passed on, nothing raised and no look due, the end of a step changes nothing. -/
theorem finish_of_idle (s : State) (ht : s.work.touched = false) (he : s.work.reeval = false)
    (hl : s.work.look = false) (hr : s.work.raises = []) : s.finish = s := by
  have hs : s.settle = s := by unfold settle; simp [ht]
  have hf : s.finishWith Config.raiseBound = s := by
    unfold Config.raiseBound finishWith; dsimp only; rw [hs, hr]
  unfold finish; dsimp only; rw [lookDone_of_clear hl, hf]
  cases s with
  | mk _ _ _ _ _ _ _ _ _ _ _ _ _ _ _ _ _ w _ =>
    cases w; simp_all

/-- After the end of a step nothing is left to do but the place kept for an ANSWER. -/
theorem finish_work (s : State) : s.finish.work = { Work.done with reserved := s.work.reserved } := by
  have h : s.finish.work.reserved = s.work.reserved :=
    (congrArg Fixed.reserved (fixed_finish s)).trans (congrArg Work.reserved (lookDone_work s))
  unfold finish at h ⊢
  dsimp only at h ⊢
  unfold Work.done
  simp only [h]

/-- The end of a step is reached once. -/
theorem finish_finish (s : State) : s.finish.finish = s.finish := by
  apply finish_of_idle <;> rw [finish_work] <;> rfl

/-- The bus after a step is that after the scheduler's look. -/
theorem finish_bus (s : State) : s.finish.bus = s.lookDone.bus := congrArg Fixed.bus (fixed_finish s)
/-- With no look due the bus stays as it is. -/
theorem finish_bus_of_clear {s : State} (h : s.work.look = false) : s.finish.bus = s.bus := by
  rw [finish_bus, lookDone_of_clear h]

/-- What the end of a step keeps, field by field. -/
theorem finish_time (s : State) : s.finish.time = s.time :=
  (congrArg Fixed.time (fixed_finish s)).trans (lookDone_time s)
theorem finish_timing (s : State) : s.finish.timing = s.timing :=
  (congrArg Fixed.timing (fixed_finish s)).trans (lookDone_timing s)
theorem finish_lastExpired (s : State) : s.finish.lastExpired = s.lastExpired :=
  (congrArg Fixed.lastExpired (fixed_finish s)).trans (lookDone_lastExpired s)
theorem finish_stats (s : State) : s.finish.stats = s.stats :=
  (congrArg Fixed.stats (fixed_finish s)).trans (lookDone_stats s)
theorem finish_requests (s : State) : s.finish.requests = s.requests :=
  (congrArg Fixed.requests (fixed_finish s)).trans (lookDone_requests s)
theorem finish_pending (s : State) : s.finish.pending = s.pending :=
  (congrArg Fixed.pending (fixed_finish s)).trans (lookDone_pending s)
theorem finish_store (s : State) : s.finish.store.fixed = s.store.fixed :=
  (congrArg Fixed.store (fixed_finish s)).trans (congrArg StoreLine.fixed (lookDone_store s))
theorem finish_stop (s : State) : s.finish.modeCtl.stop = s.modeCtl.stop :=
  (congrArg Fixed.stop (fixed_finish s)).trans (congrArg ModeCtl.stop (lookDone_modeCtl s))
theorem finish_dispositions (s : State) : s.finish.faults.dispositions = s.faults.dispositions :=
  (congrArg Fixed.dispositions (fixed_finish s)).trans (congrArg FaultUnit.dispositions (lookDone_faults s))
theorem finish_priority (s : State) : s.finish.faults.priority = s.faults.priority :=
  (congrArg Fixed.priority (fixed_finish s)).trans (congrArg FaultUnit.priority (lookDone_faults s))
theorem finish_lift (s : State) (x : Lift) : (s.finish.lift x).fixed = (s.lift x).fixed := by
  have h := congrFun (congrArg Fixed.lift (fixed_finish s)) x
  rw [fixed_lookDone] at h; exact h
theorem finish_shuttle (s : State) (n : Level) : (s.finish.shuttle n).fixed = (s.shuttle n).fixed := by
  have h := congrFun (congrArg Fixed.shuttle (fixed_finish s)) n
  rw [fixed_lookDone] at h; exact h
theorem finish_stream (s : State) (i : StreamNo) : (s.finish.stream i).fixed = (s.stream i).fixed := by
  have h := congrFun (congrArg Fixed.stream (fixed_finish s)) i
  rw [fixed_lookDone] at h; exact h
theorem finish_slot (s : State) (n : Level) (c : SlotCode) : (s.finish.slot n c).unclaimed = (s.slot n c).unclaimed := by
  have h := congrFun (congrFun (congrArg Fixed.slot (fixed_finish s)) n) c
  rw [fixed_lookDone] at h; exact h

end State

end Sys2Proof.Machine
end

