-- ==== Sys2Proof/Laws/Kept.lean ====
section
/-! SUPPORT. What no block's operation changes but the management unit's own: the management input queue, the queue of
waiting commands, the aisle time, and the place kept for an ANSWER. `queues` gathers them, and each operation has one lemma
that says it keeps them. -/

namespace Sys2Proof.Machine

/-- What only the management unit, the tick and the full reset change. -/
structure Queues where
  time : Stamp
  requests : List ReqItem
  pending : List Instr
  reserved : Bool

/-- What only the management unit, the tick and the full reset change, of a state. -/
def State.queues (s : State) : Queues := ⟨s.time, s.requests, s.pending, s.work.reserved⟩

namespace State

/-- What keeps the larger part keeps this one. -/
theorem queues_of_fixed {s t : State} (h : s.fixed = t.fixed) : s.queues = t.queues := by
  unfold queues
  rw [show s.time = t.time from congrArg Fixed.time h, show s.requests = t.requests from congrArg Fixed.requests h,
    show s.pending = t.pending from congrArg Fixed.pending h,
    show s.work.reserved = t.work.reserved from congrArg Fixed.reserved h]

/-- A fold of an operation that keeps them. -/
theorem queues_foldl {α : Type} (f : State → α → State) (hf : ∀ s a, (f s a).queues = s.queues) (l : List α)
    (s : State) : (l.foldl f s).queues = s.queues := by
  induction l generalizing s with
  | nil => rfl
  | cons a l ih => rw [List.foldl_cons, ih, hf]

/-! ### Updates -/

@[simp] theorem queues_setSlot (s : State) (n : Level) (c : SlotCode) (v : Slot) :
    (s.setSlot n c v).queues = s.queues := rfl
@[simp] theorem queues_setEntry (s : State) (h : Handle) (e : Option Entry) : (s.setEntry h e).queues = s.queues := rfl
@[simp] theorem queues_setStream (s : State) (i : StreamNo) (v : Stream) : (s.setStream i v).queues = s.queues := rfl
@[simp] theorem queues_setLift (s : State) (x : Lift) (v : LiftRec) : (s.setLift x v).queues = s.queues := rfl
@[simp] theorem queues_setLink (s : State) (x : Lift) (v : LinkRec) : (s.setLink x v).queues = s.queues := rfl
@[simp] theorem queues_setShuttle (s : State) (n : Level) (v : ShuttleRec) : (s.setShuttle n v).queues = s.queues := rfl
@[simp] theorem queues_setLatchBit (s : State) (p : Party) (b : Bool) : (s.setLatchBit p b).queues = s.queues := rfl
@[simp] theorem queues_setLastExpired (s : State) (p : Party) (h : Option Handle) :
    (s.setLastExpired p h).queues = s.queues := rfl
@[simp] theorem queues_setFaultRec (s : State) (c : FaultClass) (r : Option FaultRec) :
    (s.setFaultRec c r).queues = s.queues := rfl
@[simp] theorem queues_touch (s : State) : s.touch.queues = s.queues := rfl
@[simp] theorem queues_wantReeval (s : State) : s.wantReeval.queues = s.queues := rfl
@[simp] theorem queues_wantLook (s : State) : s.wantLook.queues = s.queues := rfl
@[simp] theorem queues_raise (s : State) (c : FaultClass) (p : Option Party) : (s.raise c p).queues = s.queues := rfl
@[simp] theorem queues_pushUpstream (s : State) (t : Tel) : (s.pushUpstream t).queues = s.queues := rfl
@[simp] theorem queues_setStop (s : State) (v : Bool) : (s.setStop v).queues = s.queues := rfl
@[simp] theorem queues_endTurn (s : State) : s.endTurn.queues = s.queues := rfl
@[simp] theorem queues_storeHunt (s : State) : s.storeHunt.queues = s.queues := rfl
@[simp] theorem queues_linkHunt (s : State) (x : Lift) : (s.linkHunt x).queues = s.queues := rfl
@[simp] theorem queues_enterStat (s : State) (p : Party) (d : Stamp) : (s.enterStat p d).queues = s.queues := rfl
@[simp] theorem queues_reportTotes (s : State) (p : Party) (h : Handle) (l : List ToteId) :
    (s.reportTotes p h l).queues = s.queues := rfl
@[simp] theorem queues_dropConfirmAsks (s : State) (h : Handle) : (s.dropConfirmAsks h).queues = s.queues := rfl
@[simp] theorem queues_refreshNotice (s : State) : s.refreshNotice.queues = s.queues := rfl
@[simp] theorem queues_clearLowMarkers (s : State) : s.clearLowMarkers.queues = s.queues := rfl
@[simp] theorem queues_clearLargest (s : State) (b : Byte) : (s.clearLargest b).queues = s.queues := rfl

/-! ### Operations that the end of a step uses -/

@[simp] theorem queues_sendLift (s : State) (x : Lift) (t : Tel) : (s.sendLift x t).queues = s.queues :=
  queues_of_fixed (fixed_sendLift s x t)
@[simp] theorem queues_sendParty (s : State) (p : Party) (t : Tel) (a : Option Handle) :
    (s.sendParty p t a).queues = s.queues := queues_of_fixed (fixed_sendParty s p t a)
@[simp] theorem queues_refuse (s : State) (p : Party) (k : Byte) (r : Reason) (h tag : Byte) (a : Option Handle) :
    (s.refuse p k r h tag a).queues = s.queues := queues_of_fixed (fixed_refuse s p k r h tag a)
@[simp] theorem queues_sendGo (s : State) (h : Handle) (e : Entry) : (s.sendGo h e).queues = s.queues :=
  queues_of_fixed (fixed_sendGo s h e)
@[simp] theorem queues_makeNotice (s : State) : s.makeNotice.queues = s.queues := queues_of_fixed (fixed_makeNotice s)
@[simp] theorem queues_handFlag (s : State) (f : Flag) : (s.handFlag f).queues = s.queues :=
  queues_of_fixed (fixed_handFlag s f)
@[simp] theorem queues_setMode (s : State) (m : Mode) : (s.setMode m).queues = s.queues :=
  queues_of_fixed (fixed_setMode s m)
@[simp] theorem queues_grant (s : State) (h : Handle) (e : Entry) (l : List Item) : (s.grant h e l).queues = s.queues :=
  queues_of_fixed (fixed_grant s h e l)
@[simp] theorem queues_hold (s : State) (h : Handle) (e : Entry) (r : Reason) : (s.hold h e r).queues = s.queues :=
  queues_of_fixed (fixed_hold s h e r)
@[simp] theorem queues_enterConfirming (s : State) (h : Handle) (e : Entry) (l : List Item) :
    (s.enterConfirming h e l).queues = s.queues := queues_of_fixed (fixed_enterConfirming s h e l)
@[simp] theorem queues_checkDrain (s : State) : s.checkDrain.queues = s.queues := queues_of_fixed (fixed_checkDrain s)
@[simp] theorem queues_removeEntry (s : State) (h : Handle) (e : Entry) : (s.removeEntry h e).queues = s.queues :=
  queues_of_fixed (fixed_removeEntry s h e)
@[simp] theorem queues_refuseEntry (s : State) (h : Handle) (e : Entry) (r : Reason) :
    (s.refuseEntry h e r).queues = s.queues := queues_of_fixed (fixed_refuseEntry s h e r)
@[simp] theorem queues_enterHalt (s : State) : s.enterHalt.queues = s.queues := queues_of_fixed (fixed_enterHalt s)
@[simp] theorem queues_lookDone (s : State) : s.lookDone.queues = s.queues := by rw [lookDone_eq]; rfl
@[simp] theorem queues_finish (s : State) : s.finish.queues = s.queues :=
  (queues_of_fixed (fixed_finish s)).trans (queues_lookDone s)

/-! ### Slots, streams, queues -/

@[simp] theorem queues_doubtClaim (s : State) (n : Level) (c : SlotCode) (h : Handle) (p : Party) (d : DoubtCause) :
    (s.doubtClaim n c h p d).queues = s.queues := by
  unfold doubtClaim; repeat' split
  all_goals rfl

@[simp] theorem queues_doubtEntry (s : State) (h : Handle) (e : Entry) (d : DoubtCause) :
    (s.doubtEntry h e d).queues = s.queues := by
  unfold doubtEntry doubtClaims
  rw [queues_touch, queues_foldl]
  intro s i; split <;> simp

@[simp] theorem queues_shrinkList (s : State) (i : StreamNo) (l : List RelEntry) :
    (s.shrinkList i l).queues = s.queues := by unfold shrinkList; dsimp only; split <;> simp

@[simp] theorem queues_changeRel (s : State) (i : StreamNo) (id : ToteId) (f : RelEntry → RelEntry) :
    (s.changeRel i id f).queues = s.queues := rfl

@[simp] theorem queues_bar (s : State) (r : ToteRec) : (s.bar r).queues = s.queues := by
  unfold bar; repeat' split
  all_goals rfl

@[simp] theorem queues_sendNotForwarded (s : State) (r : Reason) (t : Tel) :
    (s.sendNotForwarded r t).queues = s.queues := by
  unfold sendNotForwarded; dsimp only; repeat' split
  all_goals rfl

@[simp] theorem queues_notForwardAll {α : Type} (g : α → Tel) (r : Reason) (l : List α) (s : State) :
    (l.foldl (fun s i => s.sendNotForwarded r (g i)) s).queues = s.queues :=
  queues_foldl _ (fun s i => queues_sendNotForwarded s r (g i)) l s

@[simp] theorem queues_sendStateAsk (s : State) (x : Lift) : (s.sendStateAsk x).queues = s.queues := by
  unfold sendStateAsk; dsimp only; split <;> rfl

@[simp] theorem queues_flushLevel (s : State) (n : Level) (r : Reason) : (s.flushLevel n r).queues = s.queues := by
  unfold flushLevel; dsimp only
  rw [queues_notForwardAll (fun i : LevelItem => i.tel)]; rfl

@[simp] theorem queues_flushLift (s : State) (x : Lift) : (s.flushLift x).queues = s.queues := by
  unfold flushLift; dsimp only
  rw [queues_notForwardAll (fun i : DownItem => i.tel)]; rfl

@[simp] theorem queues_emptyBox (s : State) (n : Level) : (s.emptyBox n).queues = s.queues := rfl

/-! ### Visits, modes, confirmations -/

@[simp] theorem queues_endVisit (s : State) (x : Lift) (t : Option Byte) : (s.endVisit x t).queues = s.queues := by
  unfold endVisit; split <;> simp

@[simp] theorem queues_resolve (s : State) (h : Handle) (e : Entry) : (s.resolve h e).queues = s.queues := by
  unfold resolve; dsimp only; repeat' split
  all_goals simp

@[simp] theorem queues_resolveIfDecided (s : State) (h : Handle) : (s.resolveIfDecided h).queues = s.queues := by
  unfold resolveIfDecided; repeat' split
  all_goals simp

@[simp] theorem queues_decideItem (s : State) (h : Handle) (e : Entry) (id : ToteId) (c : Conf) :
    (s.decideItem h e id c).queues = s.queues := rfl

@[simp] theorem queues_applyDefaults (s : State) (h : Handle) (e : Entry) : (s.applyDefaults h e).queues = s.queues := by
  unfold applyDefaults; dsimp only
  rw [queues_setEntry, queues_foldl]
  intro s i; split <;> simp

@[simp] theorem queues_revokeEntry (s : State) (d : DoubtCause) (h : Handle) (e : Entry) :
    (s.revokeEntry d h e).queues = s.queues := by unfold revokeEntry; split <;> simp

@[simp] theorem queues_flagDoubt (s : State) (l : List (Handle × Entry)) : (s.flagDoubt l).queues = s.queues := by
  unfold flagDoubt; split <;> simp

@[simp] theorem queues_reissueHandle (s : State) (h : Handle) : (s.reissueHandle h).queues = s.queues := by
  unfold reissueHandle reissueEntry; repeat' split
  all_goals simp

@[simp] theorem queues_reissue (s : State) : s.reissue.queues = s.queues := by
  unfold reissue; dsimp only
  simp [queues_foldl _ queues_resolveIfDecided, queues_foldl _ queues_reissueHandle]

@[simp] theorem queues_revokeAll (s : State) (d : DoubtCause) : (s.revokeAll d).queues = s.queues := by
  unfold revokeAll; dsimp only
  simp [queues_foldl (fun s (x : Handle × Entry) => s.revokeEntry d x.1 x.2) (fun s x => queues_revokeEntry s d x.1 x.2)]

@[simp] theorem queues_resumeRevoke (s : State) : s.resumeRevoke.queues = s.queues := by simp [resumeRevoke]
@[simp] theorem queues_cleanup (s : State) : s.cleanup.queues = s.queues := by simp [cleanup]

@[simp] theorem queues_endIdleVisit (s : State) (x : Lift) : (s.endIdleVisit x).queues = s.queues := by
  unfold endIdleVisit; repeat' split
  all_goals simp

@[simp] theorem queues_drain (s : State) : s.drain.queues = s.queues := by
  unfold drain; dsimp only
  simp [queues_foldl (fun s (x : Handle × Entry) => s.refuseEntry x.1 x.2 .draining)
    (fun s x => queues_refuseEntry s x.1 x.2 .draining)]

@[simp] theorem queues_whenRunnable (s t : State) (b : Bool) (h : t.queues = s.queues) :
    (s.whenRunnable b t).1.queues = s.queues := by unfold whenRunnable; split <;> simp [h]

@[simp] theorem queues_intoRun (s : State) : s.intoRun.queues = s.queues := by simp [intoRun]

@[simp] theorem queues_resume (s : State) (r : Option ResumeMode) : (s.resume r).queues = s.queues := by
  unfold resume; split <;> simp

@[simp] theorem queues_modeSet (s : State) (t r : Byte) : (s.modeSet t r).1.queues = s.queues := by
  unfold modeSet changeMode
  repeat' split
  all_goals simp

/-! ### Levels and lifts -/

@[simp] theorem queues_refuseWaiting (s : State) (n : Level) : (s.refuseWaiting n).queues = s.queues := by
  unfold refuseWaiting; repeat' split
  all_goals simp

@[simp] theorem queues_dropWaiting (s : State) (n : Level) : (s.dropWaiting n).queues = s.queues := by
  unfold dropWaiting; repeat' split
  all_goals simp

@[simp] theorem queues_intoService (s : State) (n : Level) (m : Nat) : (s.intoService n m).queues = s.queues := by
  simp [intoService]

@[simp] theorem queues_levelServiceOn (s : State) (n : Level) : (s.levelServiceOn n).1.queues = s.queues := by
  unfold levelServiceOn; repeat' split
  all_goals simp

@[simp] theorem queues_levelServiceOff (s : State) (n : Level) : (s.levelServiceOff n).queues = s.queues := by
  unfold levelServiceOff; dsimp only; split <;> simp

@[simp] theorem queues_levelService (s : State) (l : Byte) (b : Bool) : (s.levelService l b).1.queues = s.queues := by
  unfold levelService
  split
  · rfl
  · split
    · cases b
      · exact queues_levelServiceOff _ _
      · exact queues_levelServiceOn _ _
    · rfl

@[simp] theorem queues_liftServiceOn (s : State) (x : Lift) : (s.liftServiceOn x).1.queues = s.queues := by
  unfold liftServiceOn; split <;> simp

@[simp] theorem queues_liftServiceOff (s : State) (x : Lift) : (s.liftServiceOff x).queues = s.queues := by
  unfold liftServiceOff; split <;> simp

/-! ### Requests -/

@[simp] theorem queues_writeMap (s : State) (m : List Byte) : (s.writeMap m).1.queues = s.queues := by
  unfold writeMap
  split
  · rfl
  · split
    · rfl
    · unfold applyMap; dsimp only
      split
      · rw [queues_wantLook, queues_touch, queues_handFlag, queues_notForwardAll (fun i : LevelItem => i.tel)]; rfl
      · rw [queues_wantLook, queues_touch, queues_notForwardAll (fun i : LevelItem => i.tel)]; rfl

/-- A request's own effect keeps the management input queue, the queue of commands, the time, and the place kept for its
ANSWER. -/
theorem execReq_queues (s : State) (q : Req) : (s.execReq q).1.queues = s.queues := by
  cases q with
  | slotMap m => simp [execReq, answered]
  | routeRow i w =>
    simp only [execReq]; unfold writeRow applyRow; dsimp only; repeat' split
    all_goals simp
  | timing t =>
    simp only [execReq, answered]; unfold writeTiming; repeat' split
    all_goals rfl
  | disposition c d =>
    simp only [execReq, answered]; unfold writeDisposition; repeat' split
    all_goals rfl
  | priority l =>
    simp only [execReq, answered]; unfold writePriority; repeat' split
    all_goals rfl
  | address g v m =>
    simp only [execReq, answered]; unfold writeAddress; repeat' split
    all_goals rfl
  | enables e =>
    simp only [execReq, answered]; unfold writeEnables; dsimp only; repeat' split
    all_goals first | rfl | (rw [queues_makeNotice]; rfl)
  | resumeDefault b =>
    simp only [execReq, answered]; unfold writeResumeDefault; repeat' split
    all_goals rfl
  | modeSet t r => simp [execReq]
  | append i l =>
    simp only [execReq]; unfold append; dsimp only; repeat' split
    all_goals simp
  | cut i l =>
    simp only [execReq]; unfold cut; dsimp only; repeat' split
    all_goals simp
  | unbar i t =>
    simp only [execReq, answered]; unfold unbar; repeat' split
    all_goals simp
  | confirm h t =>
    simp only [execReq]; unfold decideRequest; dsimp only; repeat' split
    all_goals simp
  | deny h t =>
    simp only [execReq]; unfold decideRequest; dsimp only; repeat' split
    all_goals simp
  | slotSet l c t r =>
    simp only [execReq]; unfold slotSet declare; dsimp only; repeat' split
    all_goals simp
  | levelService l o => simp [execReq]
  | liftService x o => cases o <;> simp [execReq, answered]
  | clearFault c =>
    simp only [execReq]; unfold clearFault; repeat' split
    all_goals rfl
  | clearLead =>
    simp only [execReq]; unfold clearLead; repeat' split
    all_goals rfl
  | clearParty p =>
    simp only [execReq]; unfold clearParty; repeat' split
    all_goals rfl
  | clearNotice f =>
    simp only [execReq]; unfold clearNotice; dsimp only; repeat' split
    all_goals rfl
  | statsClear p =>
    simp only [execReq]; unfold readClearStats; repeat' split
    all_goals rfl
  | _ => rfl

theorem execReq_requests (s : State) (q : Req) : (s.execReq q).1.requests = s.requests :=
  congrArg Queues.requests (execReq_queues s q)

theorem execReq_reserved (s : State) (q : Req) : (s.execReq q).1.work.reserved = s.work.reserved :=
  congrArg Queues.reserved (execReq_queues s q)

end State

end Sys2Proof.Machine
end

