-- ==== Sys2Proof/Laws/Reception.lean ====
section
/-! SUPPORT. What a receiver does with characters: one lemma for each case of R118 and R120, and what a reception on a
port comes to. -/

namespace Sys2Proof

/-- A character the controller sends never fails. -/
@[simp] theorem sentCharacter_fails (b : Byte) : (sentCharacter b).fails = false := by
  simp [Character.fails, sentCharacter]

end Sys2Proof

namespace Sys2Proof.Machine

/-- The tests of a telegram that has its byte 0, in the order of R120. -/
theorem judgeBytes_cons (l : Byte) (rest : List Byte) :
    judgeBytes (l :: rest) =
      if badLength l then some (.failed .linkForm)
      else if (l :: rest).length < l.toNat + 3 then none
      else if checkPasses (l :: rest) then
        match frameOf (l :: rest) with
        | some f => some (.sound f)
        | none => some (.failed .linkForm)
      else some (.failed .linkCheck) := rfl

/-- With no character a receiver stays as the bytes it holds say. -/
theorem takeCharacters_nil (held : List Byte) :
    takeCharacters held [] = (if held.isEmpty then .ready else .receiving held, .nothing) := rfl

/-- A failed character ends the telegram as a LINK CHECK. -/
theorem takeCharacters_failed {c : Character} (h : c.fails = true) (held : List Byte) (cs : List Character) :
    takeCharacters held (c :: cs) = (.hunt, .failed .linkCheck) := by
  simp [takeCharacters, h]

/-- A sound character that ends the telegram gives what its bytes come to. -/
theorem takeCharacters_end {c : Character} {held : List Byte} {r : Reception} (h : c.fails = false)
    (hj : judgeBytes (held ++ [c.data]) = some r) (cs : List Character) :
    takeCharacters held (c :: cs) = (.hunt, r) := by
  simp [takeCharacters, h, hj]

/-- A sound character that does not end it is held. -/
theorem takeCharacters_more {c : Character} {held : List Byte} (h : c.fails = false)
    (hj : judgeBytes (held ++ [c.data]) = none) (cs : List Character) :
    takeCharacters held (c :: cs) = takeCharacters (held ++ [c.data]) cs := by
  simp [takeCharacters, h, hj]

/-- In HUNT all characters are discarded. -/
@[simp] theorem Rx.take_hunt (cs : List Character) : Rx.hunt.take cs = (.hunt, .nothing) := rfl

/-- In READY the first character is byte 0. -/
theorem Rx.take_ready (cs : List Character) : Rx.ready.take cs = takeCharacters [] cs := rfl

/-- In RECEIVING the characters are appended. -/
theorem Rx.take_receiving (held : List Byte) (cs : List Character) :
    (Rx.receiving held).take cs = takeCharacters held cs := rfl

/-- A telegram that ends leaves the receiver in HUNT. -/
theorem takeCharacters_hunt_of_end (held : List Byte) (cs : List Character)
    (h : (takeCharacters held cs).2 ≠ .nothing) : (takeCharacters held cs).1 = .hunt := by
  induction cs generalizing held with
  | nil => simp [takeCharacters_nil] at h
  | cons c cs ih =>
    unfold takeCharacters at h ⊢
    split
    · rfl
    · rename_i hf
      rw [if_neg hf] at h
      cases hj : judgeBytes (held ++ [c.data]) with
      | some r => rfl
      | none =>
        rw [hj] at h
        exact ih _ h

/-- Nothing received changes nothing, on any port. -/
@[simp] theorem State.reception_nothing (s : State) (port : Port) : s.reception port .nothing = s := by
  cases port with
  | storeLine => rfl
  | link x => rfl
  | levelBus =>
    cases h : s.bus.turn <;> simp [State.reception, State.turnReception, h]

/-- A truncation changes nothing where no telegram is being received. -/
theorem State.truncate_of_not_receiving {s : State} {port : Port} (h : ∀ held, s.rx port ≠ .receiving held) :
    s.truncate port = s := by
  unfold State.truncate
  split
  · rfl
  · rfl
  · exact absurd ‹_› (h _)

end Sys2Proof.Machine
end

