-- ==== Sys2Proof/Laws/Requests.lean ====
section
/-! SUPPORT. What a request does that is taken and executed at once (R133, R184), and what a telegram of a party does that
is received (R118, R140): the shared part of most meanings, said once. -/

namespace Sys2Proof.Machine

/-! ### Address match -/

/-- A header that `Matches` for an answered request is a unique match (R122). -/
theorem aisleMatch_unique (l : StoreLine) (a : Byte) (h : l.Matches a true) : l.aisleMatch a = .unique := by
  obtain ⟨h0, h1⟩ := h
  simp only [if_true] at h1
  unfold StoreLine.aisleMatch
  rw [if_neg h0, if_pos h1]

/-- A header that `Matches` for a request without an answer is a group or masked match (R122). -/
theorem aisleMatch_shared (l : StoreLine) (a : Byte) (h : l.Matches a false) :
    l.aisleMatch a = .group ∨ l.aisleMatch a = .masked := by
  obtain ⟨h0, h1⟩ := h
  simp only [Bool.false_eq_true, if_false] at h1
  unfold StoreLine.aisleMatch
  rw [if_neg h0, if_neg h1.1]
  split
  · exact .inl rfl
  · rename_i hg
    rcases h1.2 with hu | hm
    · exact absurd hu hg
    · right; rw [if_pos hm]

/-! ### Requests -/

/-- What is fixed at the end of a step holds of a request's place and receiver. -/
theorem onRequest_of_takes (s : State) (h : StoreHdr) (answer : Bool) (q : Req) (ht : Takes s h answer) :
    s.onRequest h true q
      = State.serveRequests Config.requestPlaces
        { s with
          store := { s.store with rx := .hunt }
          requests := [{ answer := answer, tag := h.tag, req := q }] } := by
  obtain ⟨_, hr, hx, ha, hq, _⟩ := ht
  have hrec : s.rx .storeLine = .ready := by simp [State.rx, hr, hx]
  unfold State.onRequest
  rw [if_pos hrec, if_pos rfl]
  cases answer with
  | true =>
    rw [aisleMatch_unique _ _ ha]
    simp [State.takeRequest, State.enqueue, State.storeHunt, hq, Config.requestPlaces]
  | false =>
    rcases aisleMatch_shared _ _ ha with hm | hm <;> rw [hm] <;>
      simp [State.takeRequest, State.enqueue, State.storeHunt, hq, Config.requestPlaces]

/-- The requests that wait behind are none: nothing more is served. -/
theorem serveRequests_nil (k : Nat) (s : State) (h : s.requests = []) : s.serveRequests k = s := by
  cases k with
  | zero => rfl
  | succ k => unfold State.serveRequests; rw [h]

/-- A request that is taken is executed in the state `executing`, its effect is passed on, and it leaves the state
`executed` (R133, R184). -/
theorem requested_of_takes (s : State) (h : StoreHdr) (answer : Bool) (q : Req) (ht : Takes s h answer) :
    done (s.onRequest h true q)
      = .next (((((s.storeHunt.executing h.tag answer q).execReq q).1).finish).executed h.tag answer q.code
          ((s.storeHunt.executing h.tag answer q).execReq q).2.1
          ((((s.storeHunt.executing h.tag answer q).execReq q).1).finish.answerData q
            ((s.storeHunt.executing h.tag answer q).execReq q).2.2)) := by
  rw [onRequest_of_takes s h answer q ht]
  unfold done Config.requestPlaces State.serveRequests
  dsimp only
  have hgo : (!answer || State.placeFree { s with
      store := { s.store with rx := .hunt }
      requests := [{ answer := answer, tag := h.tag, req := q }] }) = true := by
    cases answer with
    | false => rfl
    | true =>
      have := ht.place rfl
      simp [State.placeFree, State.upstreamUsed, Config.upstreamPlaces, ht.rests, Work.done, this]
  rw [if_pos hgo]
  have hx : ({ ({ s with
      store := { s.store with rx := .hunt }
      requests := [{ answer := answer, tag := h.tag, req := q }] } : State) with
      work := { s.work with reserved := answer } } : State) = s.storeHunt.executing h.tag answer q := rfl
  unfold State.execHead
  dsimp only
  rw [hx]
  have hq : ((s.storeHunt.executing h.tag answer q).execReq q).1.requests
      = (s.storeHunt.executing h.tag answer q).requests := State.execReq_requests _ _
  have hr : ((s.storeHunt.executing h.tag answer q).execReq q).1.work.reserved
      = (s.storeHunt.executing h.tag answer q).work.reserved := State.execReq_reserved _ _
  generalize (s.storeHunt.executing h.tag answer q).execReq q = p at hq hr ⊢
  have hfr : p.1.finish.requests = [{ answer := answer, tag := h.tag, req := q }] := by
    rw [State.finish_requests, hq]; rfl
  have hfw : p.1.finish.work = { Work.done with reserved := p.1.work.reserved } := State.finish_work _
  rw [hfr]
  have hdone : ∀ t : State, t.requests = [] → t.work = Work.done →
      (State.serveRequests 3 t).finish = t := by
    intro t h1 h2
    rw [serveRequests_nil _ _ h1]
    apply State.finish_of_idle <;> rw [h2] <;> rfl
  cases answer with
  | false =>
    simp only [Bool.false_eq_true, if_false]
    rw [hdone]
    · unfold State.executed; simp
    · rfl
    · simp only [hfw]; rfl
  | true =>
    simp only [if_true]
    rw [hdone]
    · unfold State.executed State.pushUpstream State.answerTel State.answerData State.toStore kAnswer
      simp only [if_true]
      cases q <;> rfl
    · rfl
    · simp only [State.pushUpstream_work, hfw]; rfl

/-! ### Telegrams of parties -/

/-- A turn that ends with a good answer (R143, R146). -/
theorem goodAnswer_endTurn (s : State) (n : Level) : s.endTurn.goodAnswer n = s.heard (.shuttle n) := by
  have hp : ∀ r : ShuttleRec,
      ({ r with
        miss := 0
        presence := match r.presence with
          | .absent => .returning
          | .unmapped => .unmapped
          | .returning => .returning
          | .online => .online
          | .service => .service } : ShuttleRec)
        = { r with miss := 0, presence := if r.presence = .absent then .returning else r.presence } := by
    intro r; rcases r with ⟨_ | _ | _ | _ | _, _, _, _, _⟩ <;> rfl
  exact congrArg (State.setShuttle s.endTurn n) (hp (s.shuttle n))

/-- A telegram of a party that is received, and whose body fits, is handed on (R118, R121, R140, R142). -/
theorem telegram_of_hears (s : State) (p : Party) (tag : Byte) (length : Nat) (t : PartyTel) (hh : Hears s p)
    (hl : length ≤ 48) : s.telegram p tag length true t = (s.heard p).handOn p tag t := by
  have hf : bodyFits length = true := by simp [bodyFits, hl]
  cases p with
  | lift x =>
    have : s.rx (.link x) = .ready := hh.port
    unfold State.telegram
    simp only [hf, this, if_true]
    rfl
  | shuttle n =>
    obtain ⟨hb, hr⟩ : s.bus.turn = .awaiting n ∧ s.bus.rx = .ready := hh.port
    unfold State.telegram
    simp only [hf, hb, hr, if_true]
    rw [goodAnswer_endTurn]

/-- A telegram whose body is over 48 bytes is one that has a bad length byte (R118, R120). -/
theorem telegram_of_overlong (s : State) (p : Party) (tag : Byte) (length : Nat) (fits : Bool) (t : PartyTel)
    (hl : 48 < length) : s.telegram p tag length fits t = s.overlong p := by
  have hf : bodyFits length = false := by simp [bodyFits, hl]
  simp [State.telegram, hf]

/-- On a lift link it is a LINK FORM against the lift (R120). -/
theorem overlong_lift (s : State) (x : Lift) (hh : Hears s (.lift x)) :
    s.overlong (.lift x) = (s.heard (.lift x)).raise .linkForm (some (.lift x)) :=
  if_pos (show s.rx (.link x) = .ready from hh.port)

/-- As the answer of a turn it is a LINK FORM against the shuttle and a miss (R141). -/
theorem overlong_shuttle (s : State) (n : Level) (hh : Hears s (.shuttle n)) :
    s.overlong (.shuttle n)
      = (s.turnEnded.raise .linkForm (some (.shuttle n))).miss n := by
  obtain ⟨hb, hr⟩ : s.bus.turn = .awaiting n ∧ s.bus.rx = .ready := hh.port
  simp [State.overlong, Party.port, State.rx, State.reception, State.turnReception, hb, hr]
  rfl

/-- Receiving a telegram of a lift leaves nothing to do. -/
theorem heard_lift_work (s : State) (x : Lift) : (s.heard (.lift x)).work = s.work := rfl

/-- Receiving a telegram of a shuttle leaves the scheduler's look to do (R137). -/
theorem heard_shuttle_work (s : State) (n : Level) :
    (s.heard (.shuttle n)).work = { s.work with look := true } := rfl

/-- Where a turn has ended the scheduler looks, whatever the level was found before (R137). -/
theorem turnEnded_lookDone (s : State) : s.turnEnded.lookDone = { s.turnEnded with bus := s.turnEnded.look } := by
  rw [State.lookDone_of_set rfl, State.schedule_of_idle rfl rfl]

end Sys2Proof.Machine
end

