-- ==== Sys2Proof/WellFormed.lean ====
section
/-! DEFINITION. Which terms of `Instr` are telegrams that can be received whole: bodies of at most 48 bytes and counts
that fit their lists (Tables 6-2, 6-5, 10-2). A command whose term is not well formed still has a meaning: as a
telegram it fails step 2 or step 8 of R120. -/

namespace Sys2Proof

/-- Order and report traffic: kinds 0x60 to 0xFF (Table 6-3). -/
def isTraffic (kind : Byte) : Bool := 0x60 ≤ kind.toNat

/-- The term is a command that can be given as it stands. -/
def WellFormed (i : Instr) : Bool :=
  match i with
  | .discardedTelegram _ _ rest => rest.length ≤ 56
  | .storeOrder _ station kind body =>
    (1 ≤ station.toNat && station.toNat ≤ 42) && isTraffic kind && bodyFits body.length
  | .machineReport _ _ kind body => isTraffic kind && bodyFits body.length
  | .request _ body => 1 ≤ body.length && bodyFits body.length
  | .placeAsk p _ _ count body => body.fits p count
  | .placed _ _ _ ids => bodyFits (2 + 4 * ids.length)
  | .fetched _ _ _ ids => bodyFits (2 + 4 * ids.length)
  | .state _ _ body => body.fits
  | .shuttleState _ _ body => body.fits
  | .load _ _ totes => bodyFits (1 + 6 * totes.length)
  | .unload _ _ ids => bodyFits (1 + 4 * ids.length)
  | .turnAnswer chars => 1 ≤ chars.length && chars.length ≤ 57
  | .slotMapWrite _ map => map.length = 40
  | .priorityListWrite _ classes => bodyFits (3 + classes.length)
  | .streamAppend _ _ ids => bodyFits (3 + 4 * ids.length)
  | .streamCut _ _ ids => bodyFits (3 + 4 * ids.length)
  | .fullReset _ _ | .tick | .stopInputAsserted | .stopInputReleased | .telegramTruncated _ | .storePoll _ _
  | .idle _ _ | .fetchAsk _ _ _ _ | .quit _ _ _ | .visitOpen _ _ _ _ _ | .visitClose _ _ | .nextCall _ _
  | .turnStart | .turnFrameSent | .turnStartLimit | .turnCompletionLimit | .liftTelegramSent _
  | .upstreamTelegramSent | .actTimerExpiry _ | .holdTimerExpiry _ | .confirmTimerExpiry _ | .visitTimerExpiry _
  | .stateAskInterval _ | .routeTableWrite _ _ _ | .timingTableWrite _ _ | .dispositionTableWrite _ _ _
  | .addressEntriesWrite _ _ _ _ | .noticeEnablesWrite _ _ | .resumeDefaultWrite _ _ | .tableRead _ _ _
  | .entryIntoRun _ _ | .modeSetConfig _ _ | .entryIntoDrain _ _ | .returnToRun _ _ | .entryIntoHalt _ _
  | .resumeReissue _ | .resumeRevoke _ | .cleanupIntoConfig _ _ | .unbar _ _ _ | .confirm _ _ _ | .deny _ _ _
  | .slotSet _ _ _ _ _ | .levelServiceOn _ _ | .levelServiceOff _ _ | .liftServiceOn _ _ | .liftServiceOff _ _
  | .clearFault _ _ | .clearLead _ | .clearParty _ _ | .clearNotice _ _ | .slotRead _ _ _ | .levelRangeRead _ _ _
  | .streamRead _ _ _ | .carriageAndVisitRead _ _ | .callQueueRead _ _ _ | .transferTableRead _ _ | .faultRead _ _
  | .presenceRead _ _ _ | .statisticsRead _ _ | .statisticsReadAndClear _ _ | .aisleTimeRead _ | .statusSummary _
  | .receiverReady _ | .liftFrameBegun _ => true

end Sys2Proof
end

