-- ==== Sys2Proof/Tests/Slice0.lean ====
section
/-! SUPPORT. Tests: ill-formed terms that the check refuses; small steps that show the worked numbers of the spec; and, for
the statements with hypotheses, states and operands that meet them. -/

namespace Sys2Proof.Tests

open Sys2Proof Sys2Proof.Machine

set_option Elab.async false

/-! ### Well-formedness: one ill-formed term for each check -/

/-- The header of a store line telegram to this aisle, with tag 7. -/
def hdr : StoreHdr := ⟨1, 0, 0, 7⟩

theorem test_wf_discardedTelegram : WellFormed (.discardedTelegram .storeLine (sentCharacter 0) (List.replicate 57 (sentCharacter 0))) = false := by decide
theorem test_wf_storeOrder_station : WellFormed (.storeOrder hdr 43 0x60 []) = false := by decide
theorem test_wf_storeOrder_controller : WellFormed (.storeOrder hdr 0 0x60 []) = false := by decide
theorem test_wf_storeOrder_kind : WellFormed (.storeOrder hdr 1 0x5F []) = false := by decide
theorem test_wf_storeOrder_body : WellFormed (.storeOrder hdr 1 0x60 (List.replicate 49 0)) = false := by decide
theorem test_wf_machineReport_kind : WellFormed (.machineReport (.lift .a) 0 0x5F []) = false := by decide
theorem test_wf_machineReport_body : WellFormed (.machineReport (.lift .a) 0 0x60 (List.replicate 49 0)) = false := by decide
theorem test_wf_request_empty : WellFormed (.request hdr []) = false := by decide
theorem test_wf_request_long : WellFormed (.request hdr (List.replicate 49 0)) = false := by decide
theorem test_wf_placeAsk_shuttle : WellFormed (.placeAsk (.shuttle 0) 0 1 1 (.ids [1])) = false := by decide
theorem test_wf_placeAsk_lift : WellFormed (.placeAsk (.lift .a) 0 1 1 (.record ⟨1, 0, 1⟩)) = false := by decide
theorem test_wf_placeAsk_count : WellFormed (.placeAsk (.lift .a) 0 1 2 (.ids [1])) = false := by decide
theorem test_wf_placed : WellFormed (.placed (.lift .a) 0 0 (List.replicate 12 1)) = false := by decide
theorem test_wf_fetched : WellFormed (.fetched (.lift .a) 0 0 (List.replicate 12 1)) = false := by decide
theorem test_wf_state : WellFormed (.state .a 0 ⟨2, 41, 0, List.replicate 8 ⟨1, 0, 0⟩⟩) = false := by decide
theorem test_wf_shuttleState : WellFormed (.shuttleState 0 0 ⟨1, 1, 0, [⟨1, 0, 0⟩]⟩) = false := by decide
theorem test_wf_load : WellFormed (.load .a 0 (List.replicate 8 ⟨1, 0, 1⟩)) = false := by decide
theorem test_wf_unload : WellFormed (.unload .a 0 (List.replicate 12 1)) = false := by decide
theorem test_wf_turnAnswer_empty : WellFormed (.turnAnswer []) = false := by decide
theorem test_wf_turnAnswer_long : WellFormed (.turnAnswer (List.replicate 58 (sentCharacter 0))) = false := by decide
theorem test_wf_slotMap : WellFormed (.slotMapWrite hdr (List.replicate 39 0)) = false := by decide
theorem test_wf_priorityList : WellFormed (.priorityListWrite hdr (List.replicate 46 1)) = false := by decide
theorem test_wf_streamAppend : WellFormed (.streamAppend hdr 1 (List.replicate 12 1)) = false := by decide
theorem test_wf_streamCut : WellFormed (.streamCut hdr 1 (List.replicate 12 1)) = false := by decide

/-! ### A small aisle -/

/-- Level 1 with its IN place 1 and OUT places free, one inbound and one outbound tote, one place fenced. -/
def slots1 : LevelSlots where
  in1 := .opened none none
  in2 := .opened (some ⟨⟨5, 0, 1⟩, 3⟩) none
  a1 := .opened (some ⟨⟨1, 0, 0⟩, 4⟩) none
  a2 := .opened none none
  b1 := .opened none none
  b2 := .fenced none

/-- An aisle in RUN with level 1 mapped and ONLINE, and given the next turn of a first cycle, both lifts ONLINE, tote 7 for
level 1 on lift A. -/
def lab : State := { State.reset with
  time := 10
  slots := State.reset.slots.set 0 slots1
  shuttles := State.reset.shuttles.set 0 ⟨.online, 0, false, 3, []⟩
  bus := { State.reset.bus with next := some 0, cycle := true }
  coord := ⟨⟨.online, none, some 1, [⟨7, 0, 1⟩], none, [⟨0, 255, 4⟩]⟩, ⟨.online, none, some 1, [], none, []⟩⟩
  modeCtl := ⟨.run, true, .reissue, false⟩ }

/-- The same with the receivers of the store line and of both links ready, and their queues empty. -/
def ear (s : State) : State := { s with
  store := { s.store with rx := .ready, tx := .idle, upstream := [], noticeWait := none, nfWait := [], unique := 1, group := 9 }
  links := ⟨⟨.ready, 0, []⟩, ⟨.ready, 0, []⟩⟩
  requests := []
  work := Work.done }

/-- The same with a level's answer awaited, no character of which has come. -/
def turnOf (n : Level) (s : State) : State :=
  { s with bus := { s.bus with pos := some n, next := none, cycle := true, turn := .awaiting n, rx := .ready } }

/-- The aisle in another mode. -/
def inMode (m : Mode) (s : State) : State := { s with modeCtl := { s.modeCtl with mode := m, motion := m.permits } }

/-- An entry. -/
def entryOfParty (p : Party) (k : Kind) (ph : Phase) (items : List Item) (timer : Ticks) : Entry where
  party := p
  kind := k
  phase := ph
  wait := true
  tag := 6
  askStamp := 2
  count := 1
  items := items
  timer := timer

/-- The next state of a command. -/
def after (c : Instr) (s : State) : Option State :=
  match exec c s with
  | .next t => some t
  | .fault _ => none
  | .refused _ => none

/-! ### Hypotheses that many statements share -/

theorem test_takes (s : State) : Takes (ear s) hdr true :=
  ⟨rfl, rfl, rfl, ⟨by decide, by simp [ear, hdr]⟩, rfl, fun _ => by simp [ear]⟩

theorem test_takes_group (s : State) : Takes (ear s) ⟨9, 0, 0, 7⟩ false :=
  ⟨rfl, rfl, rfl, ⟨by decide, by simp [ear]⟩, rfl, fun h => by cases h⟩

theorem test_listens (s : State) : Listens (ear s) := ⟨rfl, rfl, rfl⟩

theorem test_hears_lift (s : State) (x : Lift) : Hears (ear s) (.lift x) :=
  ⟨rfl, by cases x <;> rfl⟩

theorem test_hears_shuttle (s : State) (n : Level) : Hears (turnOf n (ear s)) (.shuttle n) := ⟨rfl, rfl, rfl⟩

/-! ### States that meet the hypotheses of the statements -/

/-- Shuttle 1 FETCHES tote 5 from IN-2: GRANTED, its act timer run out. -/
def fetching : Entry := entryOfParty (.shuttle 0) .fetch (.granted 4) [⟨⟨5, 0, 1⟩, some (0, .in2), .none⟩] 0

/-- Shuttle 1 waits with a PLACE of tote 9. -/
def waiting : Entry := entryOfParty (.shuttle 0) .place (.waiting .full) [⟨⟨9, 0, 0⟩, none, .none⟩] 0

/-- Lift A waits for the confirmation of tote 1. -/
def confirming : Entry := entryOfParty (.lift .a) .fetch .confirming [⟨⟨1, 3, 0⟩, none, .asked⟩] 0

/-- The aisle with an entry at handle 2. -/
def withEntry (e : Entry) (s : State) : State := s.setEntry 2 (some e)

/-- The aisle with the claim of `fetching`. -/
def claimed : State := (withEntry fetching lab).setSlot 0 .in2 (.opened (some ⟨⟨5, 0, 1⟩, 3⟩) (some ⟨.fetch, 2, 5⟩))

/-- Lift A in a visit of level 1, its timer run out. -/
def visiting (s : State) : State := s.setLift .a { s.lift .a with visit := some ⟨0, 1, 1, 13000, 0, 8⟩ }

/-- A lift of another presence. -/
def liftIn (p : LiftPresence) (s : State) : State := s.setLift .a { s.lift .a with presence := p }

/-- Level 1 of another presence. -/
def levelIn (p : LevelPresence) (s : State) : State := s.setShuttle 0 { s.shuttle 0 with presence := p }

/-- A telegram. -/
def tel (kind : Byte) (b : Body) : Tel := ⟨1, 1, 1, 0, kind, 6, b⟩

/-- Stream 3 with two entries, one barred, one pledged. -/
def listed (s : State) : State := s.setStream 3 { s.stream 3 with
  list := [⟨1, true, false⟩, ⟨2, false, true⟩]
  row := { (s.stream 3).row with routed := true, confirm := true, lowMark := 2 } }

theorem test_meets_StepTakesTheFrontCommand :
    ({ lab with pending := [.tick] } : State).pending = [.tick] ∧ lab.pending = [] := ⟨rfl, rfl⟩

theorem test_meets_EveryCommandAnswersWithinItsFrame :
    exec .tick lab = .next lab.tick ∧ exec .turnFrameSent lab = .next lab ∧ bringsNoRequest .turnFrameSent = true :=
  ⟨rfl, rfl, rfl⟩

/-- Hypotheses of OutputsFixedClassesAndReceiversKept, OneEntryEachKept and ConfigStaysEmpty. -/
theorem test_meets_StepOfAnInvariant :
    let s := { claimed with pending := [.tick] }
    s.Rests ∧ step s = .next ({ s with pending := [] } : State).tick ∧ OutputsFollow s ∧ FixedAtHalt s ∧ OneEntryEach s
      ∧ ConfigEmpty s ∧ ConfigEmpty (inMode .config lab) ∧ (inMode .config lab).mode = .config :=
  ⟨rfl, rfl, by decide +kernel, by decide +kernel, by decide +kernel, fun h => absurd h (by decide),
    fun _ => ⟨by decide +kernel, fun x => by cases x <;> rfl⟩, rfl⟩

theorem test_meets_PlacesAreKept :
    let s : State := { withEntry confirming lab with unsentAsks := [tel 0x55 (.confirmAsk 2 1 3 41 1)] }
    WithinPlaces s ∧ AsksOwned s ∧ OneEntryEach s := by
  refine ⟨⟨by decide, by decide, by decide, by decide, by decide, by decide +kernel, by decide +kernel,
    fun x => by cases x <;> decide⟩, ⟨by decide +kernel, by decide +kernel, by decide +kernel⟩, by decide +kernel⟩

/-- The receivers of a state in which shuttle 1 has begun its answer follow. -/
theorem test_meets_ReceiversFollow :
    let s : State := { turnOf 0 (ear lab) with bus := { (turnOf 0 (ear lab)).bus with rx := .receiving [6, 1] } }
    ReceiversFollow s :=
  ⟨fun h => absurd rfl h, ⟨fun _ => ⟨0, rfl⟩, fun _ => by decide⟩, fun port held h => by
    cases port with
    | storeLine => cases h
    | link x => cases x <;> cases h
    | levelBus => cases h; decide⟩

theorem test_meets_ClaimsStayOwned : ClaimsOwned claimed ∧ (claimed.slot 0 .in2).claim = some ⟨.fetch, 2, 5⟩ :=
  ⟨by intro n c; revert n; cases c <;> decide +kernel, by decide +kernel⟩

theorem test_meets_TicksAndStopInput :
    lab.mode ≠ .halt ∧ (inMode .halt lab).mode = .halt ∧ lab.Rests ∧ lab.modeCtl.stop = false
      ∧ lab.disposition .stopInput = .halt ∧ (lab.setStop true).modeCtl.stop = true := by decide +kernel

theorem test_meets_AddressMatch :
    let l := { (ear lab).store with mask := 0xF0, maskValue := 0x20 }
    ((1 : Byte) ≠ 0 ∧ (1 : Byte) = l.unique) ∧ ((9 : Byte) ≠ l.unique ∧ l.group ≠ 0 ∧ (9 : Byte) = l.group)
      ∧ ((0x2F : Byte) ≠ l.unique ∧ (0x2F : Byte) ≠ l.group ∧ l.mask ≠ 0 ∧ 0x2F &&& l.mask = l.maskValue &&& l.mask)
      ∧ ((0x30 : Byte) ≠ l.unique ∧ (0x30 : Byte) ≠ l.group ∧ 0x30 &&& l.mask ≠ l.maskValue &&& l.mask) := by
  decide +kernel

/-- The IDLE of shuttle 1, whole: length 6, check 65535 minus the sum of its bytes. -/
def idleBytes : List Byte := [6, 1, 0, 1, 1, 0x11, 0, 0xFF, 0xE5]

/-- The same as characters. -/
def idleChars : List Character := idleBytes.map sentCharacter

/-- A character whose parity bit is wrong, and one without a stop bit. -/
def badChars : List Character := [⟨7, false, true⟩, ⟨7, true, false⟩]

theorem test_meets_CharactersAndReceivers :
    (Tel.mk 0 0 1 0 0x40 6 (.raw (List.replicate 48 0))).body.bytes.length ≤ 48
      ∧ (∀ c ∈ badChars, c.fails = true) ∧ (sentCharacter 7).fails = false
      ∧ (Tel.mk 1 0 1 1 0x11 0 .nothing).characters = idleChars
      ∧ (5 : Byte).toNat < 6 ∧ 54 < (55 : Byte).toNat ∧ 6 ≤ (6 : Byte).toNat ∧ (54 : Byte).toNat ≤ 54
      ∧ [(6 : Byte), 1, 0, 1, 1, 0x11, 0, 0xFF].length < 6 + 3 ∧ idleBytes.length = 6 + 3
      ∧ byteSum [6, 1, 0, 1, 1, 0x11, 0] + ((0xFF : Byte) ++ (0xE5 : Byte)) = (65535 : BitVec 16)
      ∧ byteSum [6, 1, 0, 1, 1, 0x11, 0] + ((0xFF : Byte) ++ (0xE4 : Byte)) ≠ (65535 : BitVec 16) := by decide +kernel

/-- Hypotheses of the last part of CharactersAndReceivers: a burst, an END, a telegram that is being received. -/
theorem test_meets_Silence :
    let ending : State := { lab with store := { lab.store with tx := .ending (tel 0x51 (.endCount 0)) } }
    let burst : State := { lab with store := { lab.store with tx := .burst 2 7 } }
    let begun : State := { lab with store := { lab.store with rx := .receiving [6] } }
    lab.store.tx = .idle ∧ lab.store.rx = .hunt ∧ (lab.link .a).rx = .hunt
      ∧ ending.store.tx = .ending (tel 0x51 (.endCount 0)) ∧ burst.store.tx = .burst 2 7
      ∧ begun.store.rx = .receiving [6] ∧ ((lab.setLink .a ⟨.receiving [6], 0, []⟩).link .a).rx = .receiving [6] :=
  ⟨rfl, rfl, rfl, rfl, rfl, rfl, rfl⟩

theorem test_meets_FailedReceptionRaises :
    Rx.ready.take [sentCharacter 5] = (.hunt, .failed .linkForm) ∧ Rx.ready.take badChars = (.hunt, .failed .linkCheck)
      ∧ (Rx.receiving [6, 1]).take (idleChars.drop 2) = (.hunt, .sound ⟨1, 0, 1, 1, 0x11, 0, []⟩)
      ∧ Rx.ready.take (idleChars.take 2) = (.receiving [6, 1], .nothing) ∧ (ear lab).store.rx = .ready
      ∧ (ear lab).store.tx = .idle ∧ ((ear lab).link .a).rx = .ready
      ∧ ((turnOf 0 lab).bus.turn = .awaiting 0 ∧ (turnOf 0 lab).bus.rx = .ready)
      ∧ (lab.bus.turn = .idle ∧ lab.bus.rx = .hunt)
      ∧ (⟨2, 41, 0, List.replicate 8 ⟨1, 0, 0⟩⟩ : StateBody).fits = false
      ∧ (⟨1, 1, 0, [⟨1, 0, 0⟩]⟩ : StateBody).fits = false ∧ 48 < 4 + 6 * (List.replicate 8 (⟨1, 0, 0⟩ : ToteRec)).length
      ∧ 4 + 6 * [(⟨1, 0, 0⟩ : ToteRec)].length ≤ 48 := by decide +kernel

theorem test_meets_FailedReceptionRaises_gap :
    let begun : State := { turnOf 0 lab with bus := { (turnOf 0 lab).bus with rx := .receiving [6] } }
    begun.Rests ∧ begun.bus.turn = .awaiting 0 ∧ begun.bus.rx = .receiving [6] ∧ lab.store.tx = .idle
      ∧ ({ lab with store := { lab.store with rx := .receiving [6] } } : State).store.rx = .receiving [6]
      ∧ ((lab.setLink .a ⟨.receiving [6], 0, []⟩).link .a).rx = .receiving [6] := ⟨rfl, rfl, rfl, rfl, rfl, rfl⟩

/-- A body of 50 bytes from the shuttle whose turn it is: LINK FORM, and a miss. -/
theorem test_overlong_is_a_miss :
    (after (.placed (.shuttle 0) 0 2 (List.replicate 12 5)) (turnOf 0 (ear lab))).map
      (fun t => ((t.shuttle 0).miss, (t.faultRec .linkForm).isSome, t.bus.turn)) = some (1, true, .idle) := by decide +kernel

theorem test_meets_StoreOrders :
    partyOf 1 = some (.shuttle 0) ∧ (lab.shuttle 0).presence = .online ∧ lab.bus.queue.length < 32
      ∧ (lab.waitingFor 0).length < 4 ∧ partyOf 41 = some (.lift .a) ∧ ((ear lab).link .a).down.length < 6
      ∧ partyOf 2 = some (.shuttle 1) ∧ (lab.shuttle 1).presence = .unmapped
      ∧ (liftIn .service lab).NotAdmitted (.lift .a) .service ∧ 43 ≤ (43 : Byte).toNat ∧ 0x60 ≤ (0x60 : Byte).toNat
      ∧ (0x5F : Byte).toNat < 0x60 ∧ (ear lab).store.Matches 9 false :=
  ⟨by decide, by decide +kernel, by decide, by decide, by decide, by decide, by decide, by decide +kernel,
    .inr (.inl ⟨rfl, rfl⟩), by decide, by decide, by decide, by decide, by simp [ear]⟩

/-- Hypotheses of the last part of StoreOrders. -/
theorem test_meets_NotForwarded :
    let full : State := { lab with store := { lab.store with upstream := List.replicate 64 (tel 0x60 (.raw [])) } }
    let lost : State := { full with store := { full.store with nfWait := List.replicate 16 (tel 0x40 .nothing) } }
    lab.upstreamUsed < 64 ∧ 64 ≤ full.upstreamUsed ∧ full.store.nfWait.length < 16 ∧ 64 ≤ lost.upstreamUsed
      ∧ 16 ≤ lost.store.nfWait.length := by decide +kernel

/-- The characters of a telegram on the store line, with tag 7. -/
def lineChars (aisle station kind : Byte) (body : List Byte) : List Character :=
  (Tel.mk aisle station 0 0 kind 7 (.raw body)).characters

/-- The store line receiver takes such characters as the telegram they are. -/
abbrev sound (station kind : Byte) : Prop :=
  (ear lab).store.rx.take (lineChars 1 station kind [3]) = (.hunt, .sound ⟨1, station, 0, 0, kind, 7, [3]⟩)

/-- Hypotheses of the part of StoreOrders about telegrams that arrive as characters: each station and kind at which its
clauses meet, by unique, by group and by no match. -/
theorem test_meets_StoreOrders_characters :
    ((sound 0 0x50 ∧ sound 0 0x52 ∧ sound 0 0x10) ∧ (sound 0 0x15 ∧ sound 0 0x60 ∧ sound 1 0x15)
        ∧ (sound 1 0x5F ∧ sound 42 0x60 ∧ sound 43 0x60) ∧ sound 43 0x15 ∧ sound 255 0x10)
      ∧ (ear lab).store.rx.take (lineChars 1 0 0x52 []) = (.hunt, .sound ⟨1, 0, 0, 0, 0x52, 7, []⟩)
      ∧ (ear lab).store.rx.take (lineChars 9 0 0x52 [3]) = (.hunt, .sound ⟨9, 0, 0, 0, 0x52, 7, [3]⟩)
      ∧ (ear lab).store.rx.take (lineChars 5 0 0x52 [3]) = (.hunt, .sound ⟨5, 0, 0, 0, 0x52, 7, [3]⟩)
      ∧ (ear lab).store.aisleMatch 1 = .unique ∧ (ear lab).store.aisleMatch 9 = .group
      ∧ (ear lab).store.aisleMatch 5 = .nothing ∧ (ear lab).Rests ∧ (ear lab).store.tx = .idle :=
  ⟨⟨by decide +kernel, by decide +kernel, by decide +kernel, by decide +kernel⟩, by decide +kernel, by decide +kernel,
    by decide +kernel, by decide +kernel, by decide +kernel, by decide +kernel, rfl, rfl⟩

/-- An order to station 43 that arrives character by character: NOT-FORWARDED UNMAPPED, then the ROUTE fault. -/
theorem test_route_on_store_line :
    (match lineChars 1 43 0x60 [3] with
      | first :: rest => (after (.discardedTelegram .storeLine first rest) (ear lab)).map (fun t =>
        (t.store.upstream.map (fun m => m.kind), (t.faultRec .route).isSome))
      | [] => none) = some ([0x40, 0x54], true) := by decide +kernel

theorem test_meets_PollsAndFreedPlaces :
    let s := ear lab
    let one : State := { s with store := { s.store with tx := .burst 1 7, upstream := [tel 0x60 (.raw [])] } }
    let notice : State := { one with store := { one.store with noticeWait := some (tel 0x54 .nothing) } }
    let ask : State := { one with unsentAsks := [tel 0x55 .nothing] }
    let nf : State := { one with store := { one.store with nfWait := [tel 0x40 .nothing] } }
    (one.Rests ∧ one.store.tx = .burst 1 7 ∧ one.store.upstream = [tel 0x60 (.raw [])] ∧ one.requests = []
      ∧ one.store.noticeWait = none ∧ one.unsentAsks = [] ∧ one.store.nfWait = [])
      ∧ notice.store.noticeWait = some (tel 0x54 .nothing)
      ∧ (ask.store.noticeWait = none ∧ ask.unsentAsks = [tel 0x55 .nothing])
      ∧ (nf.store.noticeWait = none ∧ nf.unsentAsks = [] ∧ nf.store.nfWait = [tel 0x40 .nothing])
      ∧ s.store.upstream = [] ∧ Listens { one with store := { one.store with tx := .idle } } :=
  ⟨⟨rfl, rfl, rfl, rfl, rfl, rfl, rfl⟩, rfl, ⟨rfl, rfl⟩, ⟨rfl, rfl, rfl⟩, rfl, rfl, rfl, rfl⟩

/-- Hypotheses of the last part of PollsAndFreedPlaces: the head REQUEST takes the place, alone, or with another behind it
that finds the queue full. -/
theorem test_meets_PollsAndFreedPlaces_request :
    let q : ReqItem := ⟨true, 7, .timeRead⟩
    let s := ear lab
    let busy (n : Nat) (rest : List ReqItem) : State := { s with
      requests := q :: rest
      store := { s.store with tx := .burst 1 7, upstream := List.replicate n (tel 0x60 (.raw [])) } }
    let u (n : Nat) : State := { busy n [] with
      work := { Work.done with reserved := true }
      store := { s.store with upstream := List.replicate (n - 1) (tel 0x60 (.raw [])) } }
    let p (n : Nat) := State.execReq (u n) q.req
    (busy 1 []).store.noticeWait = none ∧ (busy 1 []).unsentAsks = [] ∧ (busy 1 []).requests = [q] ∧ q.answer = true
      ∧ ((p 1).1.finish.executed q.tag true q.req.code (p 1).2.1 (p 1).2.2).store.upstream.length = 1
      ∧ ((p 64).1.finish.executed q.tag true q.req.code (p 64).2.1 (p 64).2.2).store.upstream.length = 64
      ∧ (([q] : List ReqItem).map (fun r => r.answer)).head? = some true := by decide +kernel

/-- Hypotheses of the general part of PollsAndFreedPlaces: behind the head REQUEST that takes the freed place stands one
without an ANSWER, which is executed too, and then one that finds the queue full. -/
theorem test_meets_PollsAndFreedPlaces_served :
    let s := ear lab
    let busy : State := { s with
      requests := [⟨true, 7, .timeRead⟩, ⟨false, 8, .clearLead⟩, ⟨true, 9, .timeRead⟩]
      store := { s.store with tx := .burst 1 7, upstream := List.replicate 64 (tel 0x60 (.raw [])) } }
    let freed : State := { busy with store := { busy.store with upstream := List.replicate 63 (tel 0x60 (.raw [])) } }
    busy.Rests ∧ busy.store.noticeWait = none ∧ busy.unsentAsks = [] ∧ 64 ≤ busy.upstreamUsed ∧ freed.upstreamUsed < 64
      ∧ (freed.serveRequests 4).requests = [⟨true, 9, .timeRead⟩] ∧ (freed.serveRequests 4).store.upstream.length = 64 := by
  decide +kernel

theorem test_meets_RequestsAreTaken :
    argumentsOf 0x99 [] = none ∧ argumentsOf 0x50 [1] = some none ∧ argumentsOf 0x50 [1, 1] = some (some (.slotRead 1 1))
      ∧ (let full : State := { ear lab with store := { (ear lab).store with upstream := List.replicate 64 (tel 0x60 .nothing) } }
        full.requests.length < 4 ∧ 64 ≤ full.store.upstream.length
          ∧ (full.requests.map (fun r => r.answer) ++ [true]).head? = some true)
      ∧ 4 ≤ (List.replicate 4 (⟨true, 7, .timeRead⟩ : ReqItem)).length := by decide +kernel

theorem test_meets_RequestBytes :
    (List.replicate 40 (0 : Byte)).length = 40 ∧ [(1 : ToteId)].length = (1 : Byte).toNat ∧ (1 : Byte) ≠ 2 := by decide

theorem test_meets_IdleReportsAndAnswers :
    (ear lab).store.upstream.length < 48 ∧ 48 ≤ (List.replicate 48 (tel 0x60 .nothing)).length
      ∧ 0x60 ≤ (0x60 : Byte).toNat := by decide

/-- Hypotheses of the last part of IdleReportsAndAnswers: boxes with an unsent HOLD, with one place free, and full. -/
theorem test_meets_Answers :
    let hold : BoxItem := ⟨tel 0x29 (.hold 2 .full), false⟩
    let other : BoxItem := ⟨tel 0x2A (.refuse 0x20 .busy 255), false⟩
    let boxed (box : List BoxItem) := lab.setShuttle 0 { lab.shuttle 0 with box := box }
    ((lab.link .a).down.length < 8 ∧ 8 ≤ (List.replicate 8 (⟨tel 0x28 .nothing, true, false⟩ : DownItem)).length)
      ∧ (lab.shuttle 0).presence = .online ∧ (lab.shuttle 1).presence = .unmapped
      ∧ ((levelIn .service lab).shuttle 0).presence = .service
      ∧ ((boxed [other, hold]).shuttle 0).box = [other] ++ hold :: [] ∧ hold.tel.body = .hold (BitVec.ofNat 8 (2 : Handle).val) .full
      ∧ (∀ why, other.tel.body ≠ .hold 2 why) ∧ ((boxed [other]).shuttle 0).box.length < 2
      ∧ 2 ≤ ((boxed [other, other]).shuttle 0).box.length :=
  ⟨by decide +kernel, by decide +kernel, by decide +kernel, by decide +kernel, by decide +kernel, rfl,
    fun why h => (by cases h), by decide +kernel, by decide +kernel⟩

theorem test_meets_AsksAreRefusedInOrder :
    let r : ToteRec := ⟨9, 0, 0⟩
    let s := turnOf 0 (ear lab)
    (∃ e bad, AskOf (s.heard (.shuttle 0)) (.shuttle 0) 6 1 1 (.placeAsk (.shuttle 0) 6 1 1 (.record r)) e bad)
      ∧ (∃ e bad, AskOf ((ear lab).heard (.lift .a)) (.lift .a) 6 1 1 (.placeAsk (.lift .a) 6 1 1 (.ids [7])) e bad)
      ∧ s.mode = .run ∧ s.latch (.shuttle 0) = false ∧ s.Online (.shuttle 0)
      ∧ (s.setLatchBit (.shuttle 0) true).latch (.shuttle 0) = true
      ∧ ((levelIn .returning s).heard (.shuttle 0)).shuttle 0 = ⟨.returning, 0, false, 3, []⟩
      ∧ (withEntry waiting s).entryOf (.shuttle 0) = some (2, waiting) ∧ (inMode .halt s).mode = .halt
      ∧ (∀ k, ({ lab with table := Vector.replicate 32 (some fetching) } : State).entry k ≠ none) :=
  ⟨⟨_, _, .inl ⟨_, rfl, rfl, rfl⟩⟩, ⟨_, _, .inl ⟨_, rfl, by decide, by decide, rfl, rfl⟩⟩, rfl, by decide +kernel, rfl,
    by decide +kernel, by decide +kernel, by decide +kernel, rfl, by decide +kernel⟩

/-- Hypotheses of the part of AsksAreRefusedInOrder on items: totes on the carriage, named in another order than they lie. -/
theorem test_meets_NamedItems :
    let s := lab.setLift .a { lab.lift .a with carriage := [⟨7, 0, 1⟩, ⟨8, 0, 1⟩] }
    (∀ id ∈ [(8 : ToteId), 7], ∃ r ∈ (s.lift .a).carriage, r.id = id)
      ∧ s.namedItems .a [8, 7] = [⟨⟨8, 0, 1⟩, none, .none⟩, ⟨⟨7, 0, 1⟩, none, .none⟩] :=
  ⟨List.forall_mem_cons.mpr ⟨⟨⟨8, 0, 1⟩, by decide +kernel, rfl⟩,
    List.forall_mem_cons.mpr ⟨⟨⟨7, 0, 1⟩, by decide +kernel, rfl⟩, by simp⟩⟩, by decide +kernel⟩

/-- Hypotheses of the part of AsksAreRefusedInOrder on the pair and the routing: each outcome. -/
theorem test_meets_Routing :
    let s := listed lab
    let refusing := s.isStray ⟨4, 3, 0⟩ = true ∧ (s.stream 3).row.stray = .refuse
    ((⟨4, 3, 0⟩ : ToteRec).stream.toNat = (3 : StreamNo).val ∧ lab.noMappedPair 1 ⟨4, 3, 0⟩ = true
      ∧ lab.noMappedPair 0 ⟨4, 3, 0⟩ = false) ∧ (lab.stream 3).row.routed = false ∧ lab.routingFailure ⟨4, 3, 0⟩ = some .noRoute
      ∧ refusing ∧ s.routingFailure ⟨4, 3, 0⟩ = some .stray ∧ s.routingFailure ⟨2, 3, 0⟩ = none := by decide +kernel

theorem test_meets_AsksAreDecided :
    let s := turnOf 0 (ear lab)
    let u := s.heard (.shuttle 0)
    (∃ e, AskOf u (.shuttle 0) 6 1 1 (.placeAsk (.shuttle 0) 6 1 1 (.record ⟨9, 0, 0⟩)) e none
        ∧ u.verdict e = .grant [⟨⟨9, 0, 0⟩, some (0, .a2), .none⟩])
      ∧ (∃ e, AskOf (levelIn .online (u.setSlot 0 .in2 (.opened none none))) (.shuttle 0) 6 0 1
          (.fetchAsk (.shuttle 0) 6 0 1) e none
        ∧ (levelIn .online (u.setSlot 0 .in2 (.opened none none))).verdict e = .wait .empty)
      ∧ s.Entryless (.shuttle 0) ∧ s.entry 0 = none :=
  ⟨⟨_, .inl ⟨_, rfl, rfl, by decide +kernel⟩, by decide +kernel⟩, ⟨_, .inr ⟨rfl, rfl, by decide +kernel⟩, by decide +kernel⟩,
    by unfold State.Entryless; decide +kernel, by decide +kernel⟩

/-- Hypotheses of AsksAreDecided for an ask that goes to confirmation. -/
theorem test_meets_AsksAreDecided_confirm :
    let s := visiting (listed (ear lab))
    let t := (s.setSlot 0 .a1 (.opened (some ⟨⟨1, 3, 0⟩, 4⟩) none)).setStream 3 { s.stream 3 with list := [⟨1, false, false⟩] }
    t.verdict (newEntry t (.lift .a) .fetch 6 1 1 []) = .confirm [⟨⟨1, 3, 0⟩, none, .asked⟩]
      ∧ AskOf t (.lift .a) 6 1 1 (.fetchAsk (.lift .a) 6 1 1) (newEntry t (.lift .a) .fetch 6 1 1 []) none :=
  ⟨by decide +kernel, .inr ⟨rfl, rfl, by decide +kernel⟩⟩

theorem test_meets_Eligibility :
    (⟨1, 0, 0⟩ : ToteRec).stream = 0 ∧ (3 : StreamNo) ≠ 0 ∧ (⟨1, 3, 0⟩ : ToteRec).stream.toNat = (3 : StreamNo).val
      ∧ (listed lab).eligible ⟨1, 3, 0⟩ = false ∧ (listed lab).isStray ⟨4, 3, 0⟩ = true
      ∧ (lab.setStream 3 { lab.stream 3 with list := [⟨1, false, false⟩] }).eligible ⟨1, 3, 0⟩ = true := by decide +kernel

theorem test_meets_CustodyAndSwitches :
    let st := lab.stream 3
    let alt := lab.setStream 3 { st with row := { st.row with alternate := some .b } }
    let away := alt.setStream 3 { alt.stream 3 with active := .b }
    let served := liftIn .service alt
    let held := served.setSlot 0 .a1 (.opened (some ⟨⟨1, 3, 0⟩, 4⟩) none)
    let marked := lab.setStream 3 { st with switchPending := true }
    ((alt.stream 3).active = (alt.stream 3).row.primary ∧ (alt.stream 3).row.alternate = some .b)
      ∧ (away.stream 3).active ≠ (away.stream 3).row.primary
      ∧ (alt.wanted 3 = (alt.stream 3).active ∧ (alt.stream 3).switchPending = false)
      ∧ (marked.wanted 3 = (marked.stream 3).active ∧ (marked.stream 3).switchPending = true)
      ∧ (held.wanted 3 ≠ (held.stream 3).active ∧ held.custody 3 (held.stream 3).active = true)
      ∧ (served.wanted 3 ≠ (served.stream 3).active ∧ served.custody 3 (served.stream 3).active = false) := by
  decide +kernel

theorem test_meets_ChoicesOfSlots_shuttle :
    let full := (lab.setSlot 0 .a2 (.fenced none))
    let one := lab.setSlot 0 .a1 (.opened none none)
    let stray := lab.setSlot 0 .a1 (.opened (some ⟨⟨2, 3, 0⟩, 4⟩) none)
    lab.slot 0 .a1 ≠ .opened none none ∧ lab.slot 0 .a2 = .opened none none ∧ full.slot 0 .a2 ≠ .opened none none
      ∧ one.slot 0 .a1 = .opened none none ∧ lab.eligible ⟨9, 0, 0⟩ = true ∧ lab.blocksReserve 0 .a1 = false
      ∧ stray.eligible ⟨8, 3, 0⟩ = false ∧ stray.blocksReserve 0 .a1 = true
      ∧ (lab.setStream 3 { lab.stream 3 with switchPending := true }).stream 3
        = { lab.stream 3 with switchPending := true }
      ∧ (lab.slot 0 .in1).ready = none ∧ (lab.slot 0 .in2).ready = some ⟨⟨5, 0, 1⟩, 3⟩
      ∧ ((lab.setSlot 0 .in1 (.opened (some ⟨⟨6, 0, 1⟩, 3⟩) none)).slot 0 .in1).ready = some ⟨⟨6, 0, 1⟩, 3⟩
      ∧ ((lab.setSlot 0 .in2 (.opened none none)).slot 0 .in2).ready = none := by decide +kernel

theorem test_meets_ChoicesOfSlots_order :
    let s := listed lab
    let waits := (withEntry { waiting with items := [⟨⟨1, 3, 0⟩, some (0, .a2), .none⟩] } s).setSlot 0 .a2
      (.opened none (some ⟨.place, 2, 1⟩))
    (s.stream 3).list[1]? = some ⟨2, false, true⟩ ∧ (∀ f, (s.stream 3).list[0]? = some f → f.id ≠ 2)
      ∧ s.candidateBefore (.a2, ⟨⟨2, 3, 0⟩, 4⟩) (.a1, ⟨⟨1, 0, 0⟩, 3⟩) = true
      ∧ s.candidateBefore (.a2, ⟨⟨8, 0, 0⟩, 3⟩) (.a1, ⟨⟨9, 0, 0⟩, 4⟩) = true
      ∧ s.candidateBefore (.a1, ⟨⟨8, 0, 0⟩, 3⟩) (.a2, ⟨⟨9, 0, 0⟩, 3⟩) = true
      ∧ s.needsConfirm ⟨2, 3, 0⟩ = true ∧ s.needsConfirm ⟨2, 0, 0⟩ = false
      ∧ waits.eligible ⟨1, 3, 0⟩ = false ∧ waits.blocksReserve 0 .a2 = true := by decide +kernel

theorem test_meets_ChoicesOfSlots_lift :
    let both := lab.setSlot 0 .in2 (.opened none none)
    let two := lab.setSlot 0 .a2 (.opened (some ⟨⟨2, 0, 0⟩, 3⟩) none)
    lab.slot 0 .in1 = .opened none none ∧ lab.slot 0 .in2 ≠ .opened none none ∧ both.slot 0 .in2 = .opened none none
      ∧ (claimed.setSlot 0 .in1 (.fenced none)).slot 0 .in1 ≠ .opened none none
      ∧ (lab.lift .a).carriage.length < 2 ∧ lab.fetchables .b 0 = [] ∧ lab.fetchables .a 0 = [(.a1, ⟨⟨1, 0, 0⟩, 4⟩)]
      ∧ two.fetchables .a 0 = [(.a1, ⟨⟨1, 0, 0⟩, 4⟩), (.a2, ⟨⟨2, 0, 0⟩, 3⟩)] := by decide +kernel

theorem test_meets_GrantsHoldsAndConfirmations :
    let items : List Item := [⟨⟨9, 0, 0⟩, some (0, .a2), .none⟩]
    (items.filterMap (fun i => i.slot)).Nodup ∧ lab.slot 0 .a2 = .opened none none
      ∧ (∀ i ∈ items, i.slot ≠ some (0, .a1)) ∧ confirming.kind = .fetch ∧ confirming.party = .lift .a
      ∧ (∃ r ∈ ((listed lab).stream 3).list, ∃ j ∈ confirming.items, j.tote.id = r.id ∧ j.tote.stream.toNat = 3)
      ∧ (confirming.items.filter (fun i => i.conf = .asked)).length = 1 ∧ 64 - lab.upstreamUsed = 64
      ∧ 64 - ({ lab with store := { lab.store with upstream := List.replicate 64 (tel 0x60 .nothing) } } : State).upstreamUsed
        = 0 := by decide +kernel

theorem test_meets_ReportsAndQuitsAreJudged :
    let s := withEntry fetching lab
    let late := lab.setLastExpired (.shuttle 0) (some 2)
    s.entryOf (.shuttle 0) = some (2, fetching) ∧ (∃ g, fetching.phase = .granted g) ∧ fetching.kind = .fetch
      ∧ (∀ id ∈ [(5 : ToteId)], ∃ i ∈ fetching.items, i.tote.id = id) ∧ waiting.phase.isGranted = false
      ∧ lab.entryOf (.shuttle 0) = none ∧ late.lastExpiredOf (.shuttle 0) = some 2
      ∧ lab.lastExpiredOf (.shuttle 0) = none ∧ ((liftIn .returning lab).lift .a).presence = .returning
      ∧ ((liftIn .service lab).lift .a).presence = .service ∧ (lab.lift .a).presence = .online
      ∧ 2 + 4 * [(5 : ToteId)].length ≤ 48 ∧ ([] : List ToteId).length ≠ 1 ∧ (0 : ToteId) ∈ [(0 : ToteId)]
      ∧ ¬ [(5 : ToteId), 5].Nodup ∧ [(5 : ToteId)].Nodup :=
  ⟨by decide +kernel, ⟨_, rfl⟩, rfl, fun _ h => ⟨_, List.mem_singleton.mpr rfl, (List.mem_singleton.mp h).symm⟩, rfl, by decide +kernel, by decide +kernel, by decide +kernel, rfl, rfl, rfl,
    by decide, by decide, by decide, by decide, by decide⟩

/-- A slot that the last part of ReportsAndQuitsAreJudged sets, and one of another handle. -/
theorem test_meets_LateReports :
    let k : ExpiredClaim := ⟨.shuttle 0, 2, .place, 9⟩
    let s := lab.setSlot 0 .a2 (.doubt none .actTimeout (some k) none)
    s.slot 0 .a2 = .doubt none .actTimeout (some k) none
      ∧ (s.reportTotes (.shuttle 0) 2 [9]).slot 0 .a2 = .doubt none .actTimeout (some k) (some 9)
      ∧ (s.reportTotes (.shuttle 0) 3 [9]).slot 0 .a2 = .doubt none .actTimeout (some k) none := by decide +kernel

/-- Lift A has fetched both totes of stream 3 that its list holds, in a visit with f 1. -/
theorem test_meets_Completions_lift :
    let e := entryOfParty (.lift .a) .fetch (.granted 4) [⟨⟨1, 3, 0⟩, some (0, .a1), .none⟩, ⟨⟨2, 3, 0⟩, some (0, .a2), .none⟩] 0
    let s := visiting (listed (withEntry e lab))
    s.entry 2 = some e ∧ (e.items.filterMap (fun i => i.slot)).Nodup ∧ (e.items.map (fun i => i.tote.id)).Nodup
      ∧ e.phase.isGranted = true ∧ (s.lift .a).visit = some ⟨0, 1, 1, 13000, 0, 8⟩
      ∧ (s.stream 3).row.lowMark.toNat ≤ (s.stream 3).list.length
      ∧ ((s.complete 2 e 4 [1]).stream 3).list = [⟨2, false, false⟩] ∧ ((s.complete 2 e 4 [1]).stream 3).released = 1
      ∧ ((s.complete 2 e 4 [1]).lift .a).visit = some ⟨0, 1, 0, 13000, 0, 8⟩ ∧ (lab.lift .a).visit = none := by decide +kernel

theorem test_meets_EntriesAreRemoved :
    let s := inMode .drain claimed
    (s.mode = .drain ∧ (∀ k, k ≠ 2 → s.entry k = none) ∧ ∀ y, (s.lift y).visit = none)
      ∧ claimed.mode ≠ .drain ∧ ((withEntry waiting (s.setEntry 3 (some fetching))).entry 3 ≠ none)
      ∧ ((visiting s).lift .a).visit ≠ none ∧ claimed.slot 0 .in2 = .opened (some ⟨⟨5, 0, 1⟩, 3⟩) (some ⟨.fetch, 2, 5⟩)
      ∧ (∃ i ∈ fetching.items, i.slot = some (0, .in2)) ∧ fetching.phase.isGranted = true
      ∧ waiting.phase.isGranted = false ∧ (s.removeEntry 2 fetching).mode = .config :=
  ⟨⟨rfl, by decide +kernel, fun y => by cases y <;> rfl⟩, by decide, by decide +kernel, by decide, by decide +kernel,
    ⟨_, List.mem_singleton.mpr rfl, rfl⟩, rfl, rfl, by decide +kernel⟩

theorem test_meets_HoldQueueIsReevaluated :
    let s := withEntry waiting lab
    let second := s.setEntry 1 (some (entryOfParty (.lift .b) .fetch (.waiting .empty) [] 0))
    second.holdQueue = [2, 1] ∧ s.mode = .run ∧ (inMode .halt s).mode ≠ .run ∧ s.work.touched = false
      ∧ s.touch.work.touched = true ∧ s.entry 2 = some waiting ∧ waiting.phase = .waiting .full
      ∧ (waiting.party = .shuttle 0 ∧ waiting.kind = .place ∧ waiting.items = ⟨⟨9, 0, 0⟩, none, .none⟩ :: [])
      ∧ s.noMappedPair 0 ⟨9, 0, 0⟩ = false ∧ s.noMappedPair 1 ⟨9, 0, 0⟩ = true ∧ s.routingFailure ⟨9, 0, 0⟩ = none
      ∧ s.routingFailure ⟨9, 3, 0⟩ = some .noRoute
      ∧ s.verdict waiting = .grant [⟨⟨9, 0, 0⟩, some (0, .a2), .none⟩] := by decide +kernel

theorem test_meets_CallQueuesAreKept :
    let s : State := { lab with time := 20 }
    (s.fetchables .a 0 ≠ [] ∧ s.fetchables .b 0 = []) ∧ s.newCalls .a = [⟨0, 255, 4⟩]
      ∧ (s.setLift .a { s.lift .a with calls := [] }).newCalls .a = [⟨0, 255, 20⟩]
      ∧ (s.lift .a).calls = [] ++ ⟨0, 255, 4⟩ :: []
      ∧ ((listed s).stream 3).list = [⟨1, true, false⟩] ++ ⟨2, false, true⟩ :: []
      ∧ (listed s).orderIndex ⟨2, 3, 0⟩ = 1 := by decide +kernel

theorem test_meets_Completions :
    claimed.entry 2 = some fetching ∧ (fetching.items.filterMap (fun i => i.slot)).Nodup
      ∧ (fetching.items.map (fun i => i.tote.id)).Nodup
      ∧ claimed.slot 0 .in2 = .opened (some ⟨⟨5, 0, 1⟩, 3⟩) (some ⟨.fetch, 2, 5⟩)
      ∧ (∀ i ∈ fetching.items, i.slot ≠ some (0, .in1)) ∧ fetching.party = .shuttle 0
      ∧ (entryOfParty (.lift .a) .place (.granted 4) [] 0).kind = .place
      ∧ (entryOfParty (.lift .a) .fetch (.granted 4) [] 0).kind = .fetch :=
  ⟨by decide +kernel, by decide, by decide, by decide +kernel, by decide, rfl, rfl, rfl⟩

theorem test_meets_StatesOfParties_lift :
    let b : StateBody := ⟨2, 41, 5, [⟨7, 0, 1⟩]⟩
    b.fits = true ∧ b.kind = 2 ∧ b.station = Lift.station .a ∧ (∀ r ∈ b.totes, validTote r = true)
      ∧ (b.totes.map (fun r => r.id)).Nodup ∧ b.totes = (lab.lift .a).carriage
      ∧ (∀ r ∈ b.totes, lab.inSlots r.id none = false ∧ lab.inCarriage .b r.id = false ∧ lab.inPlaceEntries r.id = false)
      ∧ (⟨2, 42, 5, []⟩ : StateBody).station ≠ Lift.station .a := by decide +kernel

theorem test_meets_Visits :
    (lab.lift .a).visit = none ∧ lab.Entryless (.lift .a) ∧ lab.levelMapped 0 = true ∧ lab.levelMapped 1 = false
      ∧ ((lab.lift .a).carriage.filter (fun r => r.dest = 1)).length = 1 ∧ ((visiting lab).lift .a).visit ≠ none
      ∧ ¬ (withEntry confirming lab).Entryless (.lift .a) ∧ (inMode .drain lab).mode = .drain
      ∧ (∀ k, lab.entry k = none) ∧ (lab.lift .b).visit = none ∧ (lab.setLatchBit (.lift .a) true).latch (.lift .a) = true :=
  ⟨rfl, by unfold State.Entryless; decide +kernel, by decide +kernel, by decide +kernel, by decide, by decide,
    by unfold State.Entryless; decide +kernel, rfl, by decide +kernel, rfl, by decide +kernel⟩

theorem test_meets_NextCalls :
    let bare := lab.setSlot 0 .in1 (.fenced none)
    (lab.lift .a).carriage = [] ++ ⟨7, 0, 1⟩ :: [] ∧ lab.slot 0 .in1 = .opened none none
      ∧ (bare.slot 0 .in1 ≠ .opened none none ∧ bare.slot 0 .in2 ≠ .opened none none)
      ∧ (lab.lift .a).calls = [⟨0, 255, 4⟩] ∧ (lab.lift .b).calls = [] ∧ (lab.lift .b).carriage = [] := by decide +kernel

theorem test_meets_LoadsAndUnloads :
    let totes : List ToteRec := [⟨8, 0, 1⟩]
    (∀ r ∈ totes, validTote r = true ∧ r.dest ≠ 0) ∧ (lab.lift .a).carriage.length + totes.length ≤ 2
      ∧ (∀ r ∈ totes, lab.inCensus r.id none = false) ∧ lab.levelMapped 0 = true
      ∧ (lab.lift .a).carriage = [⟨7, 0, 1⟩] ++ [] ∧ ((lab.lift .a).carriage.take 1).map (fun r => r.id) ≠ [8]
      ∧ lab.inCensus 7 none = true ∧ validTote ⟨8, 1, 1⟩ = false := by decide +kernel

theorem test_meets_LiftTransmitter :
    let own : DownItem := ⟨tel 0x12 .nothing, true, false⟩
    let order : DownItem := ⟨tel 0x60 (.raw []), false, false⟩
    let s := lab.setLink .a ⟨.ready, 0, [order, own]⟩
    (∀ j ∈ (s.link .a).down, j.begun = false) ∧ (s.link .a).down = [order] ++ own :: [] ∧ own.own = true
      ∧ (∀ j ∈ [order], j.own = false) ∧ ((ear lab).link .a).down = []
      ∧ (∀ j ∈ [order], j.begun = false) ∧ ({ own with begun := true } : DownItem).begun = true := by decide +kernel

theorem test_meets_CycleOrder :
    let at1 (s : State) (probe : Bool) : State := { s with bus := { s.bus with
      pos := some 0, next := none, cycle := true, probeCycle := probe } }
    let two := lab.setShuttle 1 ⟨.absent, 3, false, 0, []⟩
    let alone : State := { two.setShuttle 0 { two.shuttle 0 with presence := .service } with bus := State.reset.bus }
    1 ≤ lab.timing.probeInterval.toNat ∧ (alone.bus.cycle = false ∧ (lab.shuttle 0).presence = .online)
      ∧ ((at1 two true).bus.pos = some 0 ∧ ((at1 two true).shuttle 1).presence = .absent)
      ∧ (at1 two true).look = { (at1 two true).bus with next := some 1 }
      ∧ (at1 two false).look = { two.bus with pos := none, next := some 0, cycle := true, probeCount := 1 }
      ∧ alone.look = { alone.bus with next := some 1, cycle := true, probeCycle := true, probeCount := 7 }
      ∧ ((at1 State.reset false).bus.cycle = true ∧ ∀ k, (State.reset.shuttle k).presence = .unmapped)
      ∧ State.reset.bus.cycle = false ∧ (alone.anyPolled = true ∧ alone.bus.turn = .idle)
      ∧ State.reset.anyPolled = false ∧ (turnOf 0 lab).bus.turn ≠ .idle
      ∧ (lab.bus.next = some 0 ∧ lab.Rests) ∧ (levelIn .service lab).nextStands = false
      ∧ State.reset.wantLook.work.look = true := by decide +kernel

/-- The hypotheses about the scheduler in SlotMapWrites, in LEVEL-SERVICE and in CycleOrder: with a level polled, with none,
and during a turn. -/
theorem test_meets_SchedulerFollows :
    SchedulerFollows lab ∧ SchedulerFollows State.reset ∧ SchedulerFollows (turnOf 0 lab) := by
  refine ⟨⟨?_, ?_, ?_, ?_⟩, ⟨?_, ?_, ?_, ?_⟩, ⟨?_, ?_, ?_, ?_⟩⟩ <;> decide +kernel

/-- The turn of the only level that is polled ends with no answer: its cycle ends and counts, and the next begins with the
same level (R137, R138). -/
theorem test_cycle_ends_with_turn :
    (after .turnStartLimit (turnOf 0 lab)).map (fun t => (t.bus, t.work)) =
      some ({ State.reset.bus with next := some 0, cycle := true, probeCount := 1 }, Work.done) := by decide +kernel

/-- The only level that is polled sends a STATE that does not match at a turn of a probe cycle: it is in SERVICE, its cycle
ends, and no other begins (R138, R149). -/
theorem test_service_ends_cycle :
    let s := turnOf 0 (ear lab)
    (after (.shuttleState 0 0 ⟨2, 1, 0, []⟩) { s with bus := { s.bus with probeCycle := true, probeCount := 7 } }).map
      (fun t => ((t.shuttle 0).presence, t.bus)) = some (.service, State.reset.bus) := by decide +kernel

/-- The level that was to have the next turn goes into SERVICE before it: the next one has the turn (log 53). -/
theorem test_next_lost :
    (after (.levelServiceOn hdr 1) (ear (lab.setShuttle 1 ⟨.returning, 0, false, 0, []⟩))).map (fun t => t.bus) =
      some { lab.bus with next := some 1 } := by decide +kernel

theorem test_meets_TurnFrames :
    let boxed := lab.setShuttle 0 ⟨.online, 0, false, 3, [⟨tel 0x28 (.go 2 0x21 []), false⟩]⟩
    let queued : State := { lab with bus := { lab.bus with queue := [⟨0, tel 0x60 (.raw []), false⟩] } }
    let sending : State := { lab with bus := { lab.bus with turn := .sending 0 (tel 0x10 .nothing) } }
    let order : State := { queued with bus := { queued.bus with turn := .sending 0 (tel 0x60 (.raw [])) } }
    lab.bus.turn = .idle ∧ lab.bus.next = some 0 ∧ State.reset.bus.next = none ∧ State.reset.bus.turn = .idle
      ∧ (boxed.shuttle 0).box = [⟨tel 0x28 (.go 2 0x21 []), false⟩] ∧ (lab.shuttle 0).box = []
      ∧ ((levelIn .returning lab).shuttle 0).presence = .returning
      ∧ queued.bus.queue = [] ++ ⟨0, tel 0x60 (.raw []), false⟩ :: []
      ∧ sending.bus.turn = .sending 0 (tel 0x10 .nothing) ∧ order.bus.turn = .sending 0 (tel 0x60 (.raw [])) := by
  decide +kernel

theorem test_meets_MachineTelegrams :
    Rx.ready.take idleChars = (.hunt, .sound ⟨1, 0, 1, 1, 0x11, 0, []⟩) ∧ (1 : Byte) = Party.station (.shuttle 0)
      ∧ (1 : Byte) ≠ Party.station (.shuttle 1) ∧ partyTelOf (.shuttle 0) 0x11 [] = some .idle
      ∧ partyTelOf (.shuttle 0) 0x11 [1] = none ∧ (turnOf 0 (ear lab)).bus.turn = .awaiting 0
      ∧ (turnOf 0 (ear lab)).bus.rx = .ready ∧ ((ear lab).link .a).rx = .ready ∧ (ear lab).store.unique = 1
      ∧ (ear lab).store.upstream.length < 48 ∧ ¬ 0x60 ≤ (0x14 : Byte).toNat ∧ 0x60 ≤ (0x60 : Byte).toNat
      ∧ partyTelOf (.lift .a) 0x36 [1, 0, 0, 0, 7] = some (.unload [7])
      ∧ partyTelOf (.lift .a) 0x36 [2, 0, 0, 0, 7] = none := by decide +kernel

/-- A report upward that arrives on lift link A, character by character, stands in the upstream queue as it came. -/
theorem test_report_upward :
    (match (Tel.mk 0 0 1 41 0x60 5 (.raw [3])).characters with
      | first :: rest => (after (.discardedTelegram (.link .a) first rest) (ear lab)).map (fun t => t.store.upstream)
      | [] => none) = some [⟨0, 0, 1, 41, 0x60, 5, .raw [3]⟩] := by decide +kernel

theorem test_meets_MissesAndAbsence :
    let s := turnOf 0 lab
    let begun : State := { s with bus := { s.bus with rx := .receiving [6] } }
    let third := turnOf 0 (lab.setShuttle 0 ⟨.online, 2, false, 3, []⟩)
    s.Rests ∧ s.bus.rx = .ready ∧ begun.bus.rx ≠ .ready ∧ lab.bus.turn = .idle
      ∧ (s.shuttle 0).presence = .online ∧ min 15 ((s.shuttle 0).miss + 1) < s.timing.missThreshold.toNat
      ∧ third.timing.missThreshold.toNat ≤ min 15 ((third.shuttle 0).miss + 1)
      ∧ (withEntry waiting third).entryOf (.shuttle 0) = some (2, waiting)
      ∧ (withEntry fetching third).entryOf (.shuttle 0) = some (2, fetching) ∧ third.entryOf (.shuttle 0) = none
      ∧ third.store.upstream.length + (third.waitingFor 0).length ≤ 62 ∧ third.store.noticeWait = none
      ∧ ((levelIn .service s).shuttle 0).presence = .service := by decide +kernel

theorem test_meets_StatesOfParties_shuttle :
    let b : StateBody := ⟨1, 1, 5, []⟩
    let s := turnOf 0 (ear lab)
    b.fits = true ∧ b.kind = 1 ∧ b.station.toNat = (0 : Level).val + 1
      ∧ (((levelIn .absent s).heard (.shuttle 0)).shuttle 0).presence = .returning
      ∧ ((s.heard (.shuttle 0)).shuttle 0).presence = .online
      ∧ (((levelIn .service s).heard (.shuttle 0)).shuttle 0).presence = .service
      ∧ ((s.setShuttle 0 ⟨.returning, 0, true, 3, []⟩).shuttle 0).mark = true
      ∧ (⟨1, 2, 5, []⟩ : StateBody).station.toNat ≠ (0 : Level).val + 1 := by decide +kernel

/-- Hypotheses of ActTimersExpire, ConfirmTimersExpire and OtherTimersExpire. -/
theorem test_meets_Expiries :
    (claimed.entry 2 = some fetching ∧ fetching.phase.isGranted = true ∧ fetching.timer = 0 ∧ claimed.mode ≠ .halt)
      ∧ ((withEntry waiting lab).entry 2 = some waiting ∧ waiting.phase = .waiting .full ∧ waiting.timer = 0)
      ∧ ((withEntry confirming lab).entry 2 = some confirming ∧ confirming.phase = .confirming ∧ confirming.timer = 0)
      ∧ (((visiting lab).lift .a).visit = some ⟨0, 1, 1, 13000, 0, 8⟩
        ∧ (withEntry confirming (visiting lab)).entryOf (.lift .a) = some (2, confirming)
        ∧ (visiting lab).entryOf (.lift .a) = none)
      ∧ (inMode .halt claimed).mode = .halt ∧ claimed.Rests
      ∧ ((lab.setLift .a { lab.lift .a with askTimer := some 0 }).lift .a).askTimer = some 0
      ∧ (lab.lift .a).askTimer ≠ some 0 := by decide +kernel

/-- Lift A FETCHES tote 1 from A-1: GRANTED, its act timer run out. -/
def liftFetching : Entry := entryOfParty (.lift .a) .fetch (.granted 4) [⟨⟨1, 0, 0⟩, some (0, .a1), .none⟩] 0

/-- The aisle in DRAIN with lift A in a visit and its entry at handle 2, the last of all. -/
def draining : State := inMode .drain (withEntry liftFetching (visiting lab))

/-- Hypotheses of ActTimersExpire about visits: in DRAIN the entry of a lift in a visit, the last entry and visit, or not
the last; a queue with a place, and one without. -/
theorem test_meets_ActTimersExpire_drain :
    draining.Rests ∧ draining.entry 2 = some liftFetching ∧ liftFetching.phase.isGranted = true ∧ liftFetching.timer = 0
      ∧ draining.mode = .drain ∧ (draining.lift .a).visit = some ⟨0, 1, 1, 13000, 0, 8⟩
      ∧ (draining.link .a).down.length < 8 ∧ (∀ k, k ≠ 2 → draining.entry k = none) ∧ (draining.lift .b).visit = none
      ∧ (liftFetching.items.filterMap (fun i => i.slot)).Nodup
      ∧ ((inMode .drain (withEntry fetching (visiting lab))).lift .a).visit ≠ none
      ∧ (let full := draining.setLink .a ⟨.hunt, 0, List.replicate 8 ⟨tel 0x29 .nothing, true, false⟩⟩
        8 ≤ (full.link .a).down.length) := by decide +kernel

/-- The act expiry of the last entry in DRAIN: its visit ends with a VISIT-END that carries the tag of the VISIT-OPEN, and
the aisle is in CONFIG when ACT TIMEOUT is raised. -/
theorem test_drain_expiry : (after (.actTimerExpiry 2) (ear draining)).map (fun t =>
    (t.mode, (t.lift .a).visit, (t.link .a).down.map (fun i => (i.tel.kind, i.tel.tag, i.tel.body)))) =
    some (.config, none, [(0x32, 8, .visit 1 1 1)]) := by decide +kernel

/-- Hypotheses of Completions in DRAIN: the last entry, a lift's in its visit, and one that is not the last. -/
theorem test_meets_Completions_drain :
    draining.entry 2 = some liftFetching ∧ draining.mode = .drain ∧ (∀ k, k ≠ 2 → draining.entry k = none)
      ∧ (∀ y, liftFetching.party ≠ .lift y → (draining.lift y).visit = none)
      ∧ (draining.complete 2 liftFetching 4 [1]).mode = .config ∧ fetching.party ≠ .lift .a
      ∧ ((inMode .drain (visiting claimed)).lift .a).visit ≠ none :=
  ⟨by decide +kernel, rfl, by decide +kernel, fun y => by cases y <;> decide +kernel, by decide +kernel, by decide,
    by decide +kernel⟩

theorem test_meets_RaisingsAndLatches :
    let once := lab.setFaultRec .order (some ⟨255, none, 1, none, 1⟩)
    lab.faultRec .order = none ∧ once.faultRec .order = some ⟨255, none, 1, none, 1⟩ ∧ lab.disposition .route = .note
      ∧ lab.disposition .actTimeout = .fence ∧ lab.disposition .order = .halt ∧ lab.mode = .run
      ∧ (inMode .config lab).mode = .config
      ∧ (let s := lab.raise .order (some (.lift .a))
        s.work.touched = false ∧ s.work.raises = [⟨.order, some (.lift .a)⟩])
      ∧ (lab.setLatchBit (.shuttle 0) true).latch (.shuttle 0) = true ∧ lab.latch (.shuttle 0) = false
      ∧ lab.entryOf (.shuttle 0) = none ∧ (withEntry waiting lab).entryOf (.shuttle 0) = some (2, waiting)
      ∧ (let s := claimed.setShuttle 0 ⟨.online, 0, false, 3, [⟨tel 0x28 (.go 2 0x21 []), false⟩]⟩
        s.entryOf (.shuttle 0) = some (2, fetching) ∧ s.goUnsent (.shuttle 0) 2 = true)
      ∧ claimed.goUnsent (.shuttle 0) 2 = false := by decide +kernel

theorem test_meets_NoticesAreMade :
    let queued : State := { lab with store := { lab.store with upstream := [tel 0x54 .nothing] } }
    let waits : State := { lab with store := { lab.store with noticeWait := some (tel 0x54 .nothing) } }
    let full : State := { lab with store := { lab.store with upstream := List.replicate 64 (tel 0x60 .nothing) } }
    (lab.notices.enabled.get .doubt = true
      ∧ ({ lab with notices := NoticeUnit.make (Flags.all false) (Flags.all false) } : State).notices.enabled.get .doubt = false)
      ∧ (∃ m ∈ queued.store.upstream, m.kind = 0x54) ∧ waits.store.noticeWait ≠ none
      ∧ ((∀ m ∈ lab.store.upstream, m.kind ≠ 0x54) ∧ lab.store.noticeWait = none ∧ lab.upstreamUsed < 64)
      ∧ ((∀ m ∈ full.store.upstream, m.kind ≠ 0x54) ∧ 64 ≤ full.upstreamUsed) := by decide +kernel

theorem test_meets_FaultAndNoticeClears :
    let s := lab.setFaultRec .stopInput (some ⟨1, none, 1, none, 1⟩)
    (12 : Byte) = FaultClass.byte .stopInput ∧ s.leadFault = some .stopInput ∧ lab.leadFault = none
      ∧ (s.setStop true).modeCtl.stop = true ∧ s.modeCtl.stop = false ∧ 12 < (13 : Byte).toNat ∧ 42 < (43 : Byte).toNat
      ∧ (42 : Byte) = Party.station (.lift .b) ∧ lab.latch (.lift .b) = false
      ∧ (lab.setLatchBit (.lift .b) true).latch (.lift .b) = true ∧ 64 ≤ (64 : Byte).toNat ∧ (63 : Byte).toNat < 64 := by
  decide +kernel

/-- A map byte that maps slots without an IN slot, or names code 7. -/
def badMapBytes : List Byte := [4, 64]

theorem test_meets_SlotMapWrites :
    let map : List Byte := 63 :: List.replicate 39 0
    map.length = 40 ∧ (inMode .config lab).mode = .config ∧ lab.mode ≠ .config
      ∧ (∀ b ∈ map, b.getLsbD 6 = false ∧ b.getLsbD 7 = false ∧ (b = 0 ∨ b.getLsbD 0 = true))
      ∧ (∀ b ∈ badMapBytes, b.getLsbD 6 = true ∨ (b ≠ 0 ∧ b.getLsbD 0 = false ∧ b.getLsbD 1 = false))
      ∧ (List.replicate 39 (0 : Byte)).length ≠ 40 := by decide +kernel

/-- The cases of the bus in SlotMapWrites and in LEVEL-SERVICE, with `test_meets_SchedulerFollows`: a level polled, which
has the next turn, or none. -/
theorem test_meets_FirstPolled :
    let none1 : State := { levelIn .service lab with bus := State.reset.bus }
    (lab.shuttle 0).presence = .online ∧ (∀ n, (State.reset.shuttle n).presence = .unmapped) ∧ lab.bus.turn = .idle
      ∧ lab.bus.next = some 0 ∧ (turnOf 0 lab).bus.turn ≠ .idle ∧ State.reset.levelMapped 0 = false
      ∧ (∀ n, (none1.shuttle n).presence = .service ∨ (none1.shuttle n).presence = .unmapped)
      ∧ (none1.bus.turn = .idle ∧ none1.bus.next = none ∧ none1.bus.cycle = false ∧ none1.bus.pos = none
        ∧ none1.bus.probeCycle = false)
      ∧ (let two := lab.setShuttle 1 ⟨.online, 0, false, 0, []⟩
        two.bus.next ≠ some 1 ∧ SchedulerFollows two) := by decide +kernel

theorem test_meets_RouteTableWrites :
    let w : RowBytes := ⟨1, 41, 42, 8, 0, 1, 0, 127⟩
    (w.routed = 1 ∧ w.primary = 41 ∧ w.alternate = 42 ∧ w.window.toNat ≤ 8 ∧ w.lowMark.toNat ≤ 127)
      ∧ (¬ (9 : Byte).toNat ≤ 8 ∧ ¬ (128 : Byte).toNat ≤ 127 ∧ ¬ 1 ≤ (0 : Byte).toNat)
      ∧ ((2 : Byte) ≠ 0 ∧ (2 : Byte) ≠ 1) ∧ ((43 : Byte) ≠ 41 ∧ (43 : Byte) ≠ 42 ∧ (43 : Byte) ≠ 0)
      ∧ (lab.stream 3).row.alternate ≠ some .b ∧ lab.custody 3 .a = false ∧ lab.custody 0 .a = true
      ∧ (lab.stream 3).row.primary = .a ∧ (lab.stream 3).row.alternate = none
      ∧ (16 : Byte).toNat = (16 : StreamNo).val ∧ (0 : Byte).toNat = (0 : StreamNo).val ∧ 16 < (17 : Byte).toNat := by
  decide +kernel

theorem test_meets_TableWrites :
    timingInRange lab.timing = true ∧ timingInRange { lab.timing with probeInterval := 65 } = false
      ∧ ({ lab.timing with tick := 2 } : Timing).tick ≠ lab.timing.tick ∧ (12 : Byte) = FaultClass.byte .stopInput
      ∧ (1 : Byte) = FaultClass.byte .linkCheck ∧ (2 : Byte) = Disposition.byte .halt ∧ 2 < (3 : Byte).toNat
      ∧ FaultClass.all.Nodup ∧ ¬ [(1 : Byte), 1].Nodup ∧ 63 < (64 : Byte).toNat ∧ (63 : Byte).toNat ≤ 63
      ∧ (1 : Byte) = ResumeMode.byte .reissue ∧ (3 : Byte) ≠ 1 ∧ (3 : Byte) ≠ 2
      ∧ timingInRange { lab.timing with tick := 3 } = false ∧ timingInRange { lab.timing with visitPer := 0 } = false := by
  decide +kernel

theorem test_meets_TableReads :
    (16 : Byte).toNat = (16 : StreamNo).val ∧ 16 < (17 : Byte).toNat ∧ 8 < (9 : Byte).toNat := by decide

theorem test_meets_ModeSets :
    resumeOf 0 = some none ∧ resumeOf 1 = some (some .reissue) ∧ resumeOf 2 = some (some .revoke) ∧ 2 < (3 : Byte).toNat
      ∧ (inMode .config lab).mode = .config ∧ (∃ n, (inMode .config lab).levelMapped n = true)
      ∧ (∀ n, State.reset.levelMapped n = false) ∧ lab.mode = .run ∧ (∀ k, lab.entry k = none)
      ∧ ¬ (∀ k, claimed.entry k = none) ∧ (inMode .drain claimed).mode = .drain ∧ (inMode .halt claimed).mode = .halt
      ∧ (lab.setStop true).modeCtl.stop = true ∧ lab.modeCtl.stop = false ∧ (∀ c, lab.faultRec c = none) :=
  ⟨rfl, rfl, rfl, by decide, rfl, ⟨0, by decide +kernel⟩, by decide +kernel, rfl, by decide +kernel, by decide +kernel, rfl, rfl,
    rfl, rfl, fun c => by cases c <;> decide +kernel⟩

/-- Lift A's confirmation of tote 1 with its one tote decided. -/
def decided (c : Conf) (wait : Bool) : Entry :=
  { entryOfParty (.lift .a) .fetch .confirming [⟨⟨1, 0, 0⟩, none, c⟩] 0 with wait := wait }

/-- Hypotheses of the clauses of DrainsAndReissues on WAITING and CONFIRMING entries. -/
theorem test_meets_DrainsAndReissues_confirming :
    let s (e : Entry) : State := ear (inMode .halt (visiting (withEntry e lab)))
    (s (decided .confirmed false)).entry 2 = some (decided .confirmed false)
      ∧ (∃ v ∈ ((s confirming).lift .a).visit, v.level = 0) ∧ (∃ i ∈ confirming.items, i.conf = .asked)
      ∧ ((s confirming).slot 0 .a1).ready = some ⟨⟨1, 0, 0⟩, 4⟩ ∧ (s confirming).eligible ⟨1, 0, 0⟩ = true
      ∧ (∀ i ∈ (decided .denied true).items, i.conf ≠ .asked) ∧ waiting.isWaiting = true := by decide +kernel

/-- A resume with REISSUE grants a confirmed tote, and refuses a lift whose tote was denied. -/
theorem test_reissue_resolves :
    let s (e : Entry) : State := ear (inMode .halt (visiting (withEntry e lab)))
    (after (.resumeReissue hdr) (s (decided .confirmed false))).map
        (fun t => ((t.entry 2).map (fun e => (e.phase.isGranted, e.timer)), ((t.link .a).down.map (fun i => i.tel.kind))))
      = some (some (true, 3700), [0x28])
    ∧ (after (.resumeReissue hdr) (s (decided .denied false))).map
        (fun t => (t.entry 2, ((t.link .a).down.map (fun i => i.tel.kind)))) = some (none, [0x2A]) := by decide +kernel

/-- Hypotheses of DrainsAndReissues and RevokeAndCleanupEmptyTheTable; `test_takes` has the request. -/
theorem test_meets_DrainsReissuesAndRevokes :
    let s := ear claimed
    OneEntryEach s ∧ ClaimsOwned s ∧ (∀ y, (s.link y).down.length ≤ 6) ∧ s.mode = .run ∧ (inMode .halt s).mode = .halt
      ∧ (∃ e ∈ s.entry 2, e.phase.isGranted = true) ∧ (∀ c, s.faultRec c = none) ∧ s.modeCtl.stop = false
      ∧ s.latch (.shuttle 0) = false ∧ (s.setLatchBit (.shuttle 0) true).latch (.shuttle 0) = true :=
  ⟨by decide +kernel, test_meets_ClaimsStayOwned.1, fun y => by cases y <;> decide, rfl, rfl, by decide +kernel,
    fun c => by cases c <;> decide +kernel, rfl, by decide +kernel, by decide +kernel⟩

/-- A GRANTED entry of a latched party with its claim, and a slot without a claim. -/
theorem test_meets_DoubtedSlots :
    let s := (inMode .halt (ear claimed)).setLatchBit (.shuttle 0) true
    s.entry 2 = some fetching ∧ fetching.phase = .granted 4 ∧ s.latch fetching.party = true
      ∧ s.slot 0 .in2 = .opened (some ⟨⟨5, 0, 1⟩, 3⟩) (some ⟨.fetch, 2, 5⟩) ∧ (s.slot 0 .in1).claim = none
      ∧ ((after (.resumeReissue hdr) s).map (fun t => (t.slot 0 .in2, t.notices.pending.doubt)))
        = some (.doubt (some ⟨⟨5, 0, 1⟩, 3⟩) .revoked none none, true) := by decide +kernel

/-- Lift A in its visit waits, as does the shuttle of level 1. -/
def bothWait : State :=
  ear (visiting ((withEntry waiting lab).setEntry 3 (some (entryOfParty (.lift .a) .fetch (.waiting .empty) [] 9))))

/-- The telegrams of an entry into DRAIN: a REFUSE DRAINING to each party, and the VISIT-END of the lift. -/
theorem test_drain_tells : (after (.entryIntoDrain hdr 0) bothWait).map (fun t =>
    ((t.link .a).down.map (fun i => (i.tel.kind, i.tel.tag, i.tel.body)), (t.shuttle 0).box.map (fun i => i.tel.body))) =
    some ([(0x2A, 6, .refuse 0x21 .draining 3), (0x32, 8, .visit 1 1 1)], [.refuse 0x20 .draining 2]) := by decide +kernel

/-- A GRANTED fetch of tote 2 by lift A, whose latch is set, its release entry pledged. -/
def latchedFetch : State :=
  (inMode .halt (ear (listed (withEntry { liftFetching with items := [⟨⟨2, 3, 0⟩, some (0, .a1), .none⟩] } lab)))).setLatchBit
    (.lift .a) true

/-- A resume with REISSUE revokes it: REFUSE REVOKED, its pledge removed. -/
theorem test_reissue_revokes_latched :
    (latchedFetch.stream 3).list = [⟨1, true, false⟩, ⟨2, false, true⟩]
      ∧ (after (.resumeReissue hdr) latchedFetch).map (fun t => ((t.link .a).down.map (fun i => i.tel.body), (t.stream 3).list))
        = some ([.refuse 0x21 .revoked 2], [⟨1, true, false⟩, ⟨2, false, false⟩]) := by decide +kernel

/-- A cleanup of the same in a visit: REFUSE REVOKED and VISIT-END, the pledge removed. -/
theorem test_cleanup_tells : (after (.cleanupIntoConfig hdr 0) (visiting latchedFetch)).map (fun t =>
    ((t.link .a).down.map (fun i => i.tel.body), (t.stream 3).list)) =
    some ([.refuse 0x21 .revoked 2, .visit 1 1 1], [⟨1, true, false⟩, ⟨2, false, false⟩]) := by decide +kernel

theorem test_meets_StreamAppends :
    (1 : Byte).toNat = (1 : StreamNo).val ∧ 16 < (17 : Byte).toNat ∧ [(4 : ToteId)] ≠ [] ∧ (0 : ToteId) ∉ [(4 : ToteId)]
      ∧ (0 : ToteId) ∈ [(0 : ToteId)] ∧ (List.replicate 11 (4 : ToteId)).length ≤ 11 := by decide

theorem test_meets_StreamCutsAndUnbars :
    let l := ((listed lab).stream 3).list
    (l.map (fun e => e.id)).Nodup ∧ (∃ e ∈ l, e.id = 1 ∧ e.barred = true) ∧ (∀ e ∈ l, e.id = 2 → e.barred = false)
      ∧ (3 : Byte).toNat = (3 : StreamNo).val := by decide +kernel

theorem test_meets_DecisionsAndResolutions :
    let s := visiting (listed (withEntry confirming lab))
    (2 : Byte).toNat = (2 : Handle).val ∧ s.entry 2 = some confirming ∧ confirming.phase = .confirming
      ∧ (∃ i ∈ confirming.items, i.tote.id = 1 ∧ i.conf = .asked) ∧ (confirming.items.map (fun j => j.tote.id)).Nodup
      ∧ (∃ r ∈ (s.stream 3).list, r.id = 1) ∧ (∀ r ∈ (lab.stream 3).list, r.id ≠ 1) ∧ lab.entry 2 = none
      ∧ (s.lift .a).visit = some ⟨0, 1, 1, 13000, 0, 8⟩
      ∧ (s.slot 0 .a1).ready = some ⟨⟨1, 0, 0⟩, 4⟩ ∧ s.eligible ⟨1, 0, 0⟩ = true := by decide +kernel

theorem test_meets_CensusAndSlotSets :
    lab.slot 0 .a2 ≠ .off ∧ (lab.slot 0 .a2).claim = none ∧ lab.slot 1 .a2 = .off ∧ (claimed.slot 0 .in2).claim ≠ none
      ∧ (validTote ⟨9, 0, 0⟩ = true ∧ SlotCode.outLift .a2 ≠ none) ∧ lab.inCensus 9 (some (0, .a2)) = false
      ∧ lab.inCensus 1 (some (0, .a2)) = true ∧ lab.inCensus 1 (some (0, .a1)) = false ∧ validTote ⟨9, 17, 0⟩ = false
      ∧ (40 : Byte).toNat = (39 : Level).val + 1 ∧ (6 : Byte) = SlotCode.byte .b2 ∧ 6 < (7 : Byte).toNat
      ∧ 40 < (41 : Byte).toNat ∧ (2 : Byte) ≠ 1 ∧ (2 : Byte) ≠ 3 := by decide +kernel

theorem test_meets_Services :
    (1 : Byte).toNat = (0 : Level).val + 1 ∧ lab.levelMapped 0 = true ∧ lab.levelMapped 1 = false
      ∧ claimed.entryOf (.shuttle 0) = some (2, fetching) ∧ lab.entryOf (.shuttle 0) = none
      ∧ (lab.shuttle 0).presence = .online ∧ ((levelIn .service lab).shuttle 0).presence = .service
      ∧ lab.Entryless (.lift .a) ∧ (lab.lift .a).visit = none ∧ ((visiting lab).lift .a).visit ≠ none
      ∧ ((liftIn .service lab).lift .a).presence = .service ∧ ((ear lab).link .a).down.length < 8 :=
  ⟨by decide, by decide +kernel, by decide +kernel, by decide +kernel, by decide +kernel, by decide +kernel, by decide +kernel,
    by unfold State.Entryless; decide +kernel, rfl, by decide, rfl, by decide⟩

/-- Hypotheses of SlotStreamAndLiftReads, TransferAndFaultReads and PresenceAndStatusReads; `test_takes` has the request. -/
theorem test_meets_Reads :
    (40 : Byte).toNat = (39 : Level).val + 1 ∧ (1 : Byte) = SlotCode.byte .in1 ∧ ((0 : Level) ≤ 6 ∧ (6 : Level).val < 0 + 7)
      ∧ (0 : Level).val + 7 ≤ (7 : Level).val ∧ (16 : Byte).toNat = (16 : StreamNo).val
      ∧ (lab.lift .a).carriage.length ≤ 2 ∧ (31 : Byte).toNat ≤ 31 ∧ 31 < (32 : Byte).toNat
      ∧ claimed.entry 2 = some fetching ∧ (∀ j : Handle, j < 2 → claimed.entry j = none) ∧ (∀ j, lab.entry j = none)
      ∧ (12 : Byte) = FaultClass.byte .stopInput ∧ (0 : Level).val + 10 ≤ (10 : Level).val ∧ (9 : Level).val < 0 + 10
      ∧ (42 : Byte) ≠ 0 ∧ (42 : Byte).toNat ≤ 42 ∧ 42 < (43 : Byte).toNat := by decide +kernel

/-! ### Small steps -/

theorem test_tick : (after .tick lab).map (fun t => t.time) = some 11 := by decide +kernel
theorem test_stop : (after .stopInputAsserted lab).map (fun t => (t.mode, t.modeCtl.motion)) = some (.halt, false) := by
  decide +kernel
theorem test_summary : ((after (.statusSummary hdr) (ear lab)).map (fun t => t.store.upstream.length)) = some 1 := by
  decide +kernel
theorem test_nextCall : ((after (.nextCall .a 3) (ear lab)).map (fun t => (t.link .a).down.map (fun i => i.tel.body)))
    = some [.visit 1 1 1] := by decide +kernel

/-- The POLL of aisle 5 to level 12 with tag 3 (06_telegrams_and_links.md, 6.1). -/
theorem test_poll_bytes : (Tel.mk 5 12 5 0 0x10 3 .nothing).bytes = [6, 5, 12, 5, 0, 0x10, 3, 0xFF, 0xD0] := by decide +kernel

/-- Level 22 and lift B as section 11.3 gives them, at 51000. -/
def twin : State :=
  let s : State := { ear lab with time := 51000 }
  let s := (s.setSlot 21 .b1 (.opened (some ⟨⟨76002, 4, 0⟩, 50100⟩) none)).setSlot 21 .b2
    (.opened (some ⟨⟨76001, 4, 0⟩, 50400⟩) none)
  let s := s.setStream 4 { s.stream 4 with
    row := ⟨true, .b, none, 2, .refuse, false, .deny, 3⟩
    active := .b
    list := [⟨76001, false, false⟩, ⟨76002, false, false⟩, ⟨76003, false, false⟩] }
  s.setLift .b { s.lift .b with visit := some ⟨21, 0, 2, 13000, 13000, 9⟩ }

/-- The ask of section 11.3: handle 0, granted 76001 at B-2 and 76002 at B-1, 4900 ticks, both pledged. -/
theorem test_twin_ask : (after (.fetchAsk (.lift .b) 6 0 2) twin).map (fun t => decide (
    (t.entry 0).map (fun e => e.items) = some [⟨⟨76001, 4, 0⟩, some (21, .b2), .none⟩, ⟨⟨76002, 4, 0⟩, some (21, .b1), .none⟩]
      ∧ (t.entry 0).map (fun e => e.phase) = some (.granted 51000) ∧ (t.entry 0).map (fun e => e.timer) = some 4900
      ∧ (t.stream 4).list.map (fun e => e.pledged) = [true, true, false] ∧ (t.lift .b).calls = [])) = some true := by
  decide +kernel

/-- The completion of section 11.3 at 53000: carriage, released count, low marker, end of the visit. -/
theorem test_twin_fetched :
    ((after (.fetchAsk (.lift .b) 6 0 2) twin).bind (fun t =>
      after (.fetched (.lift .b) 6 0 [76001, 76002]) (ear { t with time := 53000 }))).map (fun t => decide (
    (t.lift .b).carriage.map (fun r => r.id) = [76001, 76002] ∧ (t.stream 4).list.map (fun e => e.id) = [76003]
      ∧ (t.stream 4).released = 2 ∧ (t.stream 4).lowMarker = true ∧ (t.stats[(Party.lift .b).idx]).last = 2000
      ∧ (t.lift .b).visit = none)) = some true := by decide +kernel

/-- The expiry of section 11.4: DOUBT with the expired claim, the latch set, two classes of notice. -/
theorem test_expiry : (after (.actTimerExpiry 2) claimed).map (fun t =>
    (t.slot 0 .in2, t.entry 2, t.lastExpiredOf (.shuttle 0), t.latch (.shuttle 0), t.notices.pending.doubt,
      t.notices.pending.fault)) =
    some (.doubt (some ⟨⟨5, 0, 1⟩, 3⟩) .actTimeout (some ⟨.shuttle 0, 2, .fetch, 5⟩) none, none, some 2, true, true, true) := by
  decide +kernel

end Sys2Proof.Tests
end

/-! ## NEXT-CALL (R76)

The rules of the lift checks (R60, R76), of the free IN slots and the fitted level, and of the answer, then the statement
put together from them. -/

namespace Sys2Proof.Machine

/-! ### Lists of checks -/

/-- A check that fails decides. -/
@[simp] theorem firstFailure_fail (r : Reason) (cs : List (Bool × Reason)) :
    firstFailure ((true, r) :: cs) = some r := rfl

/-- A check that passes leaves the decision to those behind it. -/
@[simp] theorem firstFailure_pass (r : Reason) (cs : List (Bool × Reason)) :
    firstFailure ((false, r) :: cs) = firstFailure cs := rfl

/-- Where every check passes there is no failure. -/
@[simp] theorem firstFailure_nil : firstFailure [] = none := rfl

@[simp] theorem checkOfRefusal_some (r : Reason) : checkOfRefusal (some r) = (true, r) := rfl

@[simp] theorem checkOfRefusal_none : checkOfRefusal none = (false, .void) := rfl

/-! ### Codes and slots -/

/-- A byte names level `n` when it is the level's number (R2). -/
theorem levelOf_eq_some_iff (b : Byte) (n : Level) : levelOf b = some n ↔ b.toNat = n.val + 1 := by
  unfold levelOf
  split
  · simp only [Option.some.injEq, Fin.ext_iff]
    omega
  · simp only [reduceCtorEq, false_iff]
    omega

/-- The byte of a level is the one byte that names it. -/
theorem eq_levelByte_iff (b : Byte) (n : Level) : b = levelByte n ↔ b.toNat = n.val + 1 := by
  have hn : (levelByte n).toNat = n.val + 1 := by
    simp only [levelByte, byte, BitVec.toNat_ofNat]
    omega
  rw [← hn, BitVec.toNat_inj]

/-- A tote whose destination byte names a level is inbound (R3). -/
theorem isInbound_of_level {r : ToteRec} {n : Level} (h : r.dest.toNat = n.val + 1) : isInbound r = true := by
  have : r.dest ≠ 0 := by
    intro h0
    simp [h0] at h
  simpa [isInbound] using this

theorem Slot.isFree_iff (v : Slot) : v.isFree = true ↔ v = .opened none none := by
  rcases v with _ | ⟨_ | _, _ | _⟩ | _ | _ <;> simp [Slot.isFree]

/-! ### Counts of a carriage -/

/-- The carried totes bound for a tote's destination level are those of its destination (R67, R76). -/
theorem LiftRec.boundFor_dest (l : LiftRec) {r : ToteRec} {n : Level} (hd : r.dest.toNat = n.val + 1) :
    l.boundFor (levelByte n) = (l.carriage.filter (fun q => q.dest = r.dest)).length := by
  rw [LiftRec.boundFor, ← (eq_levelByte_iff r.dest n).mpr hd]
  congr 1
  refine List.filter_congr fun q _ => ?_
  by_cases hq : q.dest = r.dest
  · simp [hq, isInbound_of_level (hq ▸ hd : q.dest.toNat = n.val + 1)]
  · simp [hq]

theorem LiftRec.noCall_eq (l : LiftRec) :
    l.noCall = if (l.carriage.filter (fun q => q.dest = 0)).length = 2 then .full else .empty := by
  simp [LiftRec.noCall, isInbound]

namespace State

/-- A party has no entry exactly when the search of the table finds none (R25). -/
theorem entryOf_eq_none_iff (s : State) (p : Party) : s.entryOf p = none ↔ s.Entryless p := by
  simp only [entryOf, entries, List.find?_eq_none, List.mem_filterMap, List.mem_finRange, true_and,
    decide_eq_true_eq, Entryless, Option.mem_def]
  constructor
  · intro h k e he
    exact h (k, e) ⟨k, by rw [he]; rfl⟩
  · rintro h ⟨k, e⟩ ⟨j, hj⟩
    obtain ⟨f, hf, heq⟩ := Option.map_eq_some_iff.mp hj
    obtain ⟨rfl, rfl⟩ := Prod.mk.inj heq
    exact h j f hf

/-- A level has an IN slot that is OPEN, empty and unclaimed (R76). -/
abbrev HasFreeIn (s : State) (n : Level) : Prop :=
  s.slot n .in1 = .opened none none ∨ s.slot n .in2 = .opened none none

theorem freeIn_eq (s : State) (n : Level) :
    s.freeIn n = [SlotCode.in1, .in2].filter (fun c => decide (s.slot n c = .opened none none)) := by
  refine List.filter_congr fun c _ => ?_
  rw [Bool.eq_iff_iff, Slot.isFree_iff, decide_eq_true_eq]

theorem freeIn_eq_nil_iff (s : State) (n : Level) : s.freeIn n = [] ↔ ¬ s.HasFreeIn n := by
  simp [freeIn_eq, HasFreeIn]

/-! ### The level a carried tote asks for -/

/-- The destination level of a carried tote, while it has a free IN slot (R76, case 1). -/
def openDest (s : State) (r : ToteRec) : Option Level :=
  if isInbound r then
    match levelOf r.dest with
    | some n => if (s.freeIn n).isEmpty then none else some n
    | none => none
  else none

theorem openDest_eq_some_iff (s : State) (r : ToteRec) (n : Level) :
    s.openDest r = some n ↔ r.dest.toNat = n.val + 1 ∧ s.HasFreeIn n := by
  have hfree (m : Level) : (s.freeIn m).isEmpty = true ↔ ¬ s.HasFreeIn m := by
    rw [List.isEmpty_iff, freeIn_eq_nil_iff]
  constructor
  · intro h
    unfold openDest at h
    split at h
    · split at h
      next m hm =>
        split at h
        · contradiction
        next hne =>
          obtain rfl := Option.some.inj h
          exact ⟨(levelOf_eq_some_iff _ _).mp hm, not_not.mp (mt (hfree m).mpr hne)⟩
      · contradiction
    · contradiction
  · rintro ⟨hd, hf⟩
    have hl : levelOf r.dest = some n := (levelOf_eq_some_iff _ _).mpr hd
    have hne : ¬ (s.freeIn n).isEmpty = true := fun h => (hfree n).mp h hf
    simp only [openDest, isInbound_of_level hd, hl, if_true, if_neg hne]

theorem openDest_eq_none_iff (s : State) (r : ToteRec) :
    s.openDest r = none ↔ ∀ m : Level, r.dest.toNat = m.val + 1 → ¬ s.HasFreeIn m := by
  simp only [Option.eq_none_iff_forall_ne_some, ne_eq, openDest_eq_some_iff, not_and]

theorem placeLevel_eq (s : State) (x : Lift) : s.placeLevel x = (s.lift x).carriage.findSome? s.openDest := rfl

/-- Case 1 of R76 takes the first carried tote whose destination has a free IN slot. -/
theorem placeLevel_of_first {s : State} {x : Lift} {before after : List ToteRec} {r : ToteRec} {n : Level}
    (hc : (s.lift x).carriage = before ++ r :: after) (hd : r.dest.toNat = n.val + 1) (hf : s.HasFreeIn n)
    (hb : ∀ q ∈ before, ∀ m : Level, q.dest.toNat = m.val + 1 → ¬ s.HasFreeIn m) :
    s.placeLevel x = some n := by
  rw [placeLevel_eq, List.findSome?_eq_some_iff]
  exact ⟨before, r, after, hc, (s.openDest_eq_some_iff r n).mpr ⟨hd, hf⟩,
    fun q hq => (s.openDest_eq_none_iff q).mpr (hb q hq)⟩

/-- Case 1 of R76 does not apply when no carried tote has a destination with a free IN slot. -/
theorem placeLevel_eq_none {s : State} {x : Lift}
    (h : ∀ q ∈ (s.lift x).carriage, ∀ m : Level, q.dest.toNat = m.val + 1 → ¬ s.HasFreeIn m) :
    s.placeLevel x = none := by
  rw [placeLevel_eq, List.findSome?_eq_none_iff]
  exact fun q hq => (s.openDest_eq_none_iff q).mpr (h q hq)

/-! ### The advice -/

/-- Case 1 of R76: p is fitted to the free IN slots, f to the places free after the placing. -/
theorem advice_of_placeLevel {s : State} {x : Lift} {n : Level} (h : s.placeLevel x = some n) :
    let p := min ((s.lift x).boundFor (levelByte n)) (s.freeIn n).length
    s.advice x
      = some ⟨n, p, min (s.fetchables x n).length (2 - ((s.lift x).carriage.length - p))⟩ := by
  simp [advice, h]

/-- Case 2 of R76: the head of the call queue, with f fitted to the free places. -/
theorem advice_of_call {s : State} {x : Lift} {c : Call} {cs : List Call} (hn : s.placeLevel x = none)
    (hc : (s.lift x).calls = c :: cs) (hl : (s.lift x).carriage.length < 2) :
    s.advice x
      = some ⟨c.level, 0, min (2 - (s.lift x).carriage.length) (s.fetchables x c.level).length⟩ := by
  have hfree : ¬ 2 - (s.lift x).carriage.length = 0 := by omega
  simp only [advice, hn, hc, LiftRec.freePlaces, hfree, if_false]

/-- Case 3 of R76: no call waits or no place is free. -/
theorem advice_eq_none {s : State} {x : Lift} (hn : s.placeLevel x = none)
    (h : (s.lift x).calls = [] ∨ 2 ≤ (s.lift x).carriage.length) : s.advice x = none := by
  cases hc : (s.lift x).calls with
  | nil => simp only [advice, hn, hc]
  | cons c cs =>
    have hfull : 2 - (s.lift x).carriage.length = 0 := by
      have := h.resolve_left (by simp [hc])
      omega
    simp only [advice, hn, hc, LiftRec.freePlaces, hfull, if_true]

/-! ### The checks, in order -/

theorem callFailure_of_presence {s : State} {x : Lift} {r : Reason} (h : (s.lift x).presence.refusal = some r) :
    s.callFailure x = some r := by
  simp [callFailure, h]

section Online

variable {s : State} {x : Lift} (hp : (s.lift x).presence = .online)
include hp

theorem callFailure_of_visit (hv : (s.lift x).visit ≠ none) : s.callFailure x = some .inVisit := by
  simp [callFailure, hp, LiftPresence.refusal, Option.isSome_iff_ne_none.mpr hv]

variable (hv : (s.lift x).visit = none)
include hv

theorem callFailure_of_mode {r : Reason} (hm : s.mode.refusal = some r) : s.callFailure x = some r := by
  simp [callFailure, hp, LiftPresence.refusal, hv, hm]

variable (hm : s.mode = .run)
include hm

theorem callFailure_of_latch (hl : s.latch (.lift x) = true) : s.callFailure x = some .partyFault := by
  simp [callFailure, hp, LiftPresence.refusal, hv, hm, Mode.refusal, hl]

variable (hl : s.latch (.lift x) = false)
include hl

theorem callFailure_of_entry (he : ¬ s.Entryless (.lift x)) : s.callFailure x = some .busy := by
  have hsome := Option.isSome_iff_ne_none.mpr (mt (s.entryOf_eq_none_iff (.lift x)).mp he)
  simp [callFailure, hp, LiftPresence.refusal, hv, hm, Mode.refusal, hl, hsome]

theorem callFailure_eq_none (he : s.Entryless (.lift x)) : s.callFailure x = none := by
  simp [callFailure, hp, LiftPresence.refusal, hv, hm, Mode.refusal, hl, (s.entryOf_eq_none_iff _).mpr he]

end Online

/-! ### The answer -/

/-- A reception on a lift's link changes neither what the checks nor what the advice look at. -/
theorem callFailure_heard_lift (s : State) (x : Lift) : (s.heard (.lift x)).callFailure x = s.callFailure x := rfl

theorem advice_heard_lift (s : State) (x : Lift) : (s.heard (.lift x)).advice x = s.advice x := rfl

end State

/-- A NEXT-CALL that is received is answered in the state its reception leaves (R76, R118). -/
theorem exec_nextCall {s : State} {x : Lift} (hh : Hears s (.lift x)) (tag : Byte) :
    exec (.nextCall x tag) s = .next ((s.heard (.lift x)).answerCall x tag).finish :=
  congrArg done (telegram_of_hears s (.lift x) tag 0 .nextCall hh (Nat.zero_le 48))

section Answer

variable {s : State} {x : Lift} (hh : Hears s (.lift x)) (tag : Byte)
include hh

/-- The first check that fails gives the reason of the REFUSE (R76). -/
theorem exec_nextCall_of_failure {r : Reason} (hf : s.callFailure x = some r) :
    exec (.nextCall x tag) s
      = .next ((s.heard (.lift x)).sendLift x (s.toward (.lift x) 0x2A tag (.refuse 0x33 r 255))).finish := by
  rw [exec_nextCall hh, State.answerCall, State.callFailure_heard_lift, hf]
  rfl

variable (hf : s.callFailure x = none)
include hf

/-- The advice of R76 is sent as a CALL. -/
theorem exec_nextCall_of_advice {n : Level} {p f : Nat} (ha : s.advice x = some ⟨n, p, f⟩) :
    exec (.nextCall x tag) s
      = .next ((s.heard (.lift x)).sendLift x (s.toward (.lift x) 0x34 tag
          (.visit (BitVec.ofNat 8 (n.val + 1)) (BitVec.ofNat 8 p) (BitVec.ofNat 8 f)))).finish := by
  rw [exec_nextCall hh, State.answerCall, State.callFailure_heard_lift, hf, State.advice_heard_lift, ha]
  rfl

/-- Without advice the REFUSE carries the reason of case 3 (R76). -/
theorem exec_nextCall_of_no_advice (ha : s.advice x = none) :
    exec (.nextCall x tag) s
      = .next ((s.heard (.lift x)).sendLift x (s.toward (.lift x) 0x2A tag
          (.refuse 0x33 (s.lift x).noCall 255))).finish := by
  rw [exec_nextCall hh, State.answerCall, State.callFailure_heard_lift, hf, State.advice_heard_lift, ha]
  rfl

end Answer

/-- Settles O33: the checks of R76 in order by the `callFailure` rules, then its three cases by the `advice` rules. -/
theorem nextCalls : Obligations.NextCalls := by
  unfold Obligations.NextCalls
  intro s x tag hh u a l refused called hasFree
  have refuses {r : Reason} (hf : s.callFailure x = some r) : exec a s = refused r :=
    exec_nextCall_of_failure hh tag hf
  refine ⟨s.freeIn_eq, ?returning, ?service, ?visiting, fun hp hv => ⟨?config, ?halt, ?drain, ?latched, ?busy, ?passed⟩⟩
  case returning => exact fun hp => refuses (State.callFailure_of_presence (congrArg LiftPresence.refusal hp))
  case service => exact fun hp => refuses (State.callFailure_of_presence (congrArg LiftPresence.refusal hp))
  case visiting => exact fun hp hv => refuses (State.callFailure_of_visit hp hv)
  case config => exact fun hm => refuses (State.callFailure_of_mode hp hv (congrArg Mode.refusal hm))
  case halt => exact fun hm => refuses (State.callFailure_of_mode hp hv (congrArg Mode.refusal hm))
  case drain => exact fun hm => refuses (State.callFailure_of_mode hp hv (congrArg Mode.refusal hm))
  case latched => exact fun hm hl => refuses (State.callFailure_of_latch hp hv hm hl)
  case busy => exact fun hm hl he => refuses (State.callFailure_of_entry hp hv hm hl he)
  case passed =>
    intro hm hl he
    have hpass : s.callFailure x = none := State.callFailure_eq_none hp hv hm hl he
    have calls {n : Level} {p f : Nat} (ha : s.advice x = some ⟨n, p, f⟩) : exec a s = called n p f :=
      exec_nextCall_of_advice hh tag hpass ha
    refine ⟨?place, fun hnone => ?_⟩
    case place =>
      intro before r after n hc hd hf hb p
      refine calls ?_
      rw [State.advice_of_placeLevel (State.placeLevel_of_first hc hd hf hb), LiftRec.boundFor_dest _ hd]
    have hlevel : s.placeLevel x = none := State.placeLevel_eq_none hnone
    refine ⟨?call, ?uncalled⟩
    case call =>
      intro c cs hc hfree
      exact calls (State.advice_of_call hlevel hc hfree)
    case uncalled =>
      intro h
      have hrefused := exec_nextCall_of_no_advice hh tag hpass (State.advice_eq_none hlevel h)
      rw [LiftRec.noCall_eq] at hrefused
      exact hrefused

end Sys2Proof.Machine

/-! ## Index, eligibility and stray (R89 to R91)

The first standing of an ID in a release list, what the model's two searches of that list find, then eligibility and stray
of a tote of stream 0 and of a sequenced stream. -/

namespace Sys2Proof.Machine

/-! ### The stream of a tote -/

/-- A byte names stream `i` when it is the stream's number. -/
theorem streamOf_eq_some_iff (b : Byte) (i : StreamNo) : streamOf b = some i ↔ b.toNat = i.val := by
  unfold streamOf
  split
  · simp only [Option.some.injEq, Fin.ext_iff]
  · simp only [reduceCtorEq, false_iff]
    omega

theorem toteStream_eq_some_iff (r : ToteRec) (i : StreamNo) : toteStream r = some i ↔ r.stream.toNat = i.val :=
  streamOf_eq_some_iff r.stream i

/-! ### The searches of a release list -/

/-- Entry `e` stands at position `k` of a release list and is the first there with the ID (R89). -/
structure StandsAt (l : List RelEntry) (id : ToteId) (k : Nat) (e : RelEntry) : Prop where
  get : l[k]? = some e
  id_eq : e.id = id
  first : ∀ j f, j < k → l[j]? = some f → f.id ≠ id

/-- The index is the position of the first entry with the ID. -/
theorem relIndex_eq_some_iff (l : List RelEntry) (id : ToteId) (k : Nat) :
    relIndex l id = some k ↔ ∃ e, StandsAt l id k e := by
  rw [relIndex, List.findIdx?_eq_some_iff_getElem]
  constructor
  · rintro ⟨hk, hid, hfirst⟩
    refine ⟨l[k], List.getElem?_eq_getElem hk, of_decide_eq_true hid, fun j f hj hf => ?_⟩
    obtain ⟨_, rfl⟩ := List.getElem?_eq_some_iff.mp hf
    exact of_decide_eq_false (Bool.eq_false_iff.mpr (hfirst j hj))
  · rintro ⟨e, hget, hid, hfirst⟩
    obtain ⟨hk, rfl⟩ := List.getElem?_eq_some_iff.mp hget
    exact ⟨hk, decide_eq_true hid,
      fun j hj hj' => hfirst j _ hj (List.getElem?_eq_getElem (hj.trans hk)) (of_decide_eq_true hj')⟩

/-- An ID without an index stands nowhere in the list. -/
theorem relIndex_eq_none_iff (l : List RelEntry) (id : ToteId) : relIndex l id = none ↔ ∀ e ∈ l, e.id ≠ id := by
  simp only [relIndex, List.findIdx?_eq_none_iff, decide_eq_false_iff_not, ne_eq]

/-- The entry of an ID is the one at its index: the two searches stop at the same place. -/
theorem relEntry_eq_bind_relIndex (l : List RelEntry) (id : ToteId) :
    relEntry l id = (relIndex l id).bind (fun k => l[k]?) :=
  List.find?_eq_bind_findIdx?_getElem?

theorem searches_eq_some_iff (l : List RelEntry) (id : ToteId) (k : Nat) (e : RelEntry) :
    (relIndex l id = some k ∧ relEntry l id = some e) ↔ StandsAt l id k e := by
  constructor
  · rintro ⟨hk, he⟩
    rw [relEntry_eq_bind_relIndex, hk, Option.bind_some] at he
    obtain ⟨f, hf⟩ := (relIndex_eq_some_iff l id k).mp hk
    obtain rfl : f = e := Option.some.inj (hf.get.symm.trans he)
    exact hf
  · intro h
    have hk : relIndex l id = some k := (relIndex_eq_some_iff l id k).mpr ⟨e, h⟩
    exact ⟨hk, by rw [relEntry_eq_bind_relIndex, hk, Option.bind_some, h.get]⟩

namespace State

/-! ### Stream 0 -/

theorem eligible_of_stream_zero (s : State) {r : ToteRec} (hr : toteStream r = some 0) : s.eligible r = true := by
  simp [eligible, hr]

theorem isStray_of_stream_zero (s : State) {r : ToteRec} (hr : toteStream r = some 0) : s.isStray r = false := by
  simp [isStray, hr]

/-! ### Sequenced streams -/

section Sequenced

variable (s : State) {r : ToteRec} {i : StreamNo} (hr : toteStream r = some i) (hi : i ≠ 0)
include hr hi

/-- The window and the bar decide for an ID that stands in its stream's list (R90). -/
theorem eligible_iff_of_standsAt {k : Nat} {e : RelEntry} (h : StandsAt (s.stream i).list r.id k e) :
    s.eligible r = true ↔ k < (s.stream i).row.window.toNat ∧ e.barred = false := by
  obtain ⟨hk, he⟩ := (searches_eq_some_iff _ _ _ _).mpr h
  simp [eligible, hr, hi, hk, he]

/-- A tote whose ID is not in its stream's list is a stray (R91). -/
theorem isStray_iff : s.isStray r = true ↔ ∀ e ∈ (s.stream i).list, e.id ≠ r.id := by
  rw [← relIndex_eq_none_iff]
  simp [isStray, hr, hi]

theorem eligible_of_relIndex_none (h : relIndex (s.stream i).list r.id = none) : s.eligible r = false := by
  simp [eligible, hr, hi, h]

/-- The rule of R90: an ID that stands has its window and bar looked at, and one that does not is not eligible. -/
theorem eligible_iff : s.eligible r = true ↔ ∃ k e, StandsAt (s.stream i).list r.id k e
    ∧ k < (s.stream i).row.window.toNat ∧ e.barred = false := by
  constructor
  · intro h
    cases hk : relIndex (s.stream i).list r.id with
    | none => simp [s.eligible_of_relIndex_none hr hi hk] at h
    | some k =>
      obtain ⟨e, he⟩ := (relIndex_eq_some_iff _ _ _).mp hk
      exact ⟨k, e, he, (s.eligible_iff_of_standsAt hr hi he).mp h⟩
  · rintro ⟨k, e, he, h⟩
    exact (s.eligible_iff_of_standsAt hr hi he).mpr h

end Sequenced

end State

/-- Settles O22: stream 0 by its own rules, a sequenced stream by the first standing of the ID in its release list. -/
theorem eligibility : Obligations.Eligibility := by
  unfold Obligations.Eligibility
  refine fun s r => ⟨fun h0 => ?unsequenced, fun i hi hs => ?sequenced⟩
  case unsequenced =>
    have hr : toteStream r = some 0 := (toteStream_eq_some_iff r 0).mpr (by simp [h0])
    exact ⟨s.eligible_of_stream_zero hr, s.isStray_of_stream_zero hr⟩
  case sequenced =>
    have hr : toteStream r = some i := (toteStream_eq_some_iff r i).mpr hs
    refine ⟨(s.eligible_iff hr hi).trans ⟨?_, ?_⟩, s.isStray_iff hr hi⟩
    · rintro ⟨k, e, ⟨hget, hid, hfirst⟩, hwindow, hbar⟩
      exact ⟨k, e, hget, hid, hbar, hwindow, hfirst⟩
    · rintro ⟨k, e, hget, hid, hbar, hwindow, hfirst⟩
      exact ⟨k, e, ⟨hget, hid, hfirst⟩, hwindow, hbar⟩

end Sys2Proof.Machine

/-! ## Transfer table read and fault read (R182, R187)

What a request comes to that changes nothing, the sets of marks of Table 10-2, the search for the lowest entry from a handle
on, the bytes of an entry and the number of a fault class; then the two reads, and the statement put together from them. -/

namespace Sys2Proof.Machine

/-! ### Requests that change nothing -/

namespace State

/-- A request in execution has left nothing to do, so that the end of a step changes nothing. -/
theorem executing_finish {s : State} (hs : s.work = Work.done) (tag : Byte) (answer : Bool) (q : Req) :
    (s.executing tag answer q).finish = s.executing tag answer q := by
  have hwork : (s.executing tag answer q).work = { Work.done with reserved := answer } := by simp only [executing, hs]
  apply finish_of_idle <;> rw [hwork] <;> rfl

end State

/-- A request that is taken and whose execution changes nothing leaves its ANSWER alone (R133, R184). -/
theorem requested_of_unchanged {s : State} {h : StoreHdr} {answer : Bool} {q : Req} {a : Answer} (ht : Takes s h answer)
    (hexec : (s.storeHunt.executing h.tag answer q).execReq q = (s.storeHunt.executing h.tag answer q, a))
    (hdata : ∀ (t : State) d, t.answerData q d = d) :
    requested h q s = .next ((s.storeHunt.executing h.tag answer q).executed h.tag answer q.code a.1 a.2) := by
  rw [requested, requested_of_takes s h answer q ht, hexec, hdata, State.executing_finish (s := s.storeHunt) ht.rests]

/-- The transfer table read that is taken is answered with what it finds, and changes nothing (R187). -/
theorem exec_transferTableRead {s : State} {h : StoreHdr} {answer : Bool} {b : Byte} {r : Option Reason} {d : List Byte}
    (ht : Takes s h answer) (hread : s.readTransfers b = (r, d)) :
    exec (.transferTableRead h b) s
      = .next ((s.storeHunt.executing h.tag answer (.transferRead b)).executed h.tag answer 0x55 r d) :=
  requested_of_unchanged (q := .transferRead b) ht (congrArg (Prod.mk _) hread) (fun _ _ => rfl)

/-- The fault read that is taken is answered with what it finds, and changes nothing (R182). -/
theorem exec_faultRead {s : State} {h : StoreHdr} {answer : Bool} {b : Byte} {r : Option Reason} {d : List Byte}
    (ht : Takes s h answer) (hread : s.readFaults b = (r, d)) :
    exec (.faultRead h b) s
      = .next ((s.storeHunt.executing h.tag answer (.faultRead b)).executed h.tag answer 0x56 r d) :=
  requested_of_unchanged (q := .faultRead b) ht (congrArg (Prod.mk _) hread) (fun _ _ => rfl)

/-! ### Sets of marks (Table 10-2) -/

/-- The number whose bits are the marks, the first mark lowest. -/
def markNumber (marks : List Bool) : Nat := marks.foldr (fun b acc => 2 * acc + (if b then 1 else 0)) 0

theorem markNumber_cons (b : Bool) (marks : List Bool) : markNumber (b :: marks) = Nat.bit b (markNumber marks) := by
  cases b <;> simp [markNumber, Nat.bit_val]

/-- Bit `k` is mark `k`, and beyond the marks no bit is set. -/
theorem testBit_markNumber (marks : List Bool) (k : Nat) : (markNumber marks).testBit k = marks[k]?.getD false := by
  induction marks generalizing k with
  | nil => simp [markNumber]
  | cons b marks ih =>
    rw [markNumber_cons]
    cases k with
    | zero => simp
    | succ k => simp [Nat.testBit_bit_succ, ih]

/-- The marks as a word of `n` bits. -/
def markWord (n : Nat) (marks : List Bool) : BitVec n := BitVec.ofNat n (markNumber marks)

theorem getLsbD_markWord {n : Nat} {marks : List Bool} (hlen : marks.length ≤ n) (k : Nat) :
    (markWord n marks).getLsbD k = marks[k]?.getD false := by
  rw [markWord, BitVec.getLsbD_ofNat, testBit_markNumber]
  by_cases hk : k < n
  · simp [hk]
  · simp [hk, List.getElem?_eq_none (hlen.trans (not_lt.mp hk))]

/-- Byte `i` of a number is byte `i` of any word of it that reaches so far. -/
theorem byte_div_eq_extractLsb' {n i : Nat} (m : Nat) (hi : 8 * i + 8 ≤ n) :
    byte (m / 256 ^ i) = (BitVec.ofNat n m).extractLsb' (8 * i) 8 := by
  have hpow : (256 : Nat) ^ i = 2 ^ (8 * i) := by rw [pow_mul]; rfl
  apply BitVec.eq_of_getLsbD_eq
  intro k hk
  have hn : 8 * i + k < n := by omega
  simp only [byte, hpow, BitVec.getLsbD_ofNat, BitVec.getLsbD_extractLsb', Nat.testBit_div_two_pow, hk, hn,
    Nat.add_comm k, decide_true, Bool.true_and]

/-- A set of marks is the bytes of its word, high byte first. -/
theorem markSet_eq (n : Nat) (marks : List Bool) :
    markSet n marks = (List.range n).reverse.map (fun i => (markWord (8 * n) marks).extractLsb' (8 * i) 8) := by
  refine List.map_congr_left fun i hi => byte_div_eq_extractLsb' (markNumber marks) ?_
  have : i < n := by simpa using hi
  omega

/-- A set in four bytes is a word. -/
theorem markSet_four (marks : List Bool) : markSet 4 marks = be32 (markWord 32 marks) := markSet_eq 4 marks

/-- Byte `i` of the low bytes of a word is byte `i` of the word. -/
theorem extractLsb'_of_low {n i m : Nat} (w : BitVec n) (hi : 8 * i + 8 ≤ m) :
    (w.extractLsb' 0 m).extractLsb' (8 * i) 8 = w.extractLsb' (8 * i) 8 := by
  apply BitVec.eq_of_getElem_eq
  intro k hk
  have hm : 8 * i + k < m := by omega
  simp [hm]

/-- A set in six bytes is two bytes and a word. -/
theorem markSet_six (marks : List Bool) :
    markSet 6 marks = [(markWord 48 marks).extractLsb' 40 8, (markWord 48 marks).extractLsb' 32 8]
      ++ be32 ((markWord 48 marks).extractLsb' 0 32) := by
  have hlow (i : Nat) (hi : 8 * i + 8 ≤ 32) := extractLsb'_of_low (markWord 48 marks) hi
  rw [markSet_eq, be32, hlow 3 (by decide), hlow 2 (by decide), hlow 1 (by decide), hlow 0 (by decide)]
  rfl

namespace State

/-- The handles in use as a word, handle 0 lowest (R187). -/
def handleWord (s : State) : BitVec 32 := markWord 32 (allHandles.map (fun h => (s.entry h).isSome))

theorem handleSet_eq (s : State) : s.handleSet = be32 s.handleWord := markSet_four _

theorem getLsbD_handleWord (s : State) (k : Handle) : s.handleWord.getLsbD k.val = (s.entry k).isSome := by
  rw [handleWord, getLsbD_markWord (by simp [allHandles])]
  simp [allHandles]

/-- The latches as a word, the party of station 1 lowest (R182). -/
def latchWord (s : State) : BitVec 48 := markWord 48 ((List.finRange 42).map (fun i => s.faults.latches[i]))

theorem latchSet_eq (s : State) :
    s.latchSet = [s.latchWord.extractLsb' 40 8, s.latchWord.extractLsb' 32 8] ++ be32 (s.latchWord.extractLsb' 0 32) :=
  markSet_six _

theorem getLsbD_latchWord (s : State) (j : Nat) :
    s.latchWord.getLsbD j = if hj : j < 42 then s.faults.latches[j] else false := by
  rw [latchWord, getLsbD_markWord (by simp)]
  by_cases hj : j < 42 <;> simp [hj]

/-! ### The lowest entry from a handle on -/

theorem mem_entries_iff (s : State) (k : Handle) (e : Entry) : (k, e) ∈ s.entries ↔ s.entry k = some e := by
  simp [entries]

/-- Nothing is found when no handle from the one named on is in use. -/
theorem find?_entries_eq_none {s : State} {n : Nat} (hnone : ∀ k : Handle, n ≤ k.val → s.entry k = none) :
    s.entries.find? (fun x => n ≤ x.1.val) = none := by
  rw [List.find?_eq_none]
  rintro ⟨k, e⟩ hmem hle
  have hk := (s.mem_entries_iff k e).mp hmem
  simp [hnone k (of_decide_eq_true hle)] at hk

/-- A handle is looked for when it is in use and not below the one named. -/
theorem any_entry (s : State) (n : Nat) (h : Handle) :
    ((s.entry h).map (fun e => (h, e))).any (fun x => n ≤ x.1.val) = ((s.entry h).isSome && n ≤ h.val) := by
  cases s.entry h <;> simp

/-- The entries stand in the order of their handles, so that the first found has the lowest. -/
theorem find?_entries_eq_some {s : State} {n : Nat} {k : Handle} {e : Entry} (hk : s.entry k = some e) (hn : n ≤ k.val)
    (hfirst : ∀ j : Handle, n ≤ j.val → j < k → s.entry j = none) :
    s.entries.find? (fun x => n ≤ x.1.val) = some (k, e) := by
  have hfind : (List.finRange 32).find? (fun h => (s.entry h).isSome && n ≤ h.val) = some k := by
    rw [List.find?_eq_some_iff_getElem]
    refine ⟨by simp [hk, hn], k.val, by simp, by simp, fun j hj => ?_⟩
    by_cases hle : n ≤ j
    · simp [hfirst ⟨j, hj.trans k.isLt⟩ hle hj]
    · simp [hle]
  simp only [entries, List.find?_filterMap, any_entry, hfind, Option.bind_some, hk, Option.map_some]

end State

/-! ### The transfer table read (R187) -/

theorem Kind.ask_eq (k : Kind) : k.ask = if k = .place then 0x20 else 0x21 := by
  cases k <;> rfl

theorem markByte_decide (p : Prop) [Decidable p] : markByte p = if p then 1 else 0 := by
  simp only [markByte, decide_eq_true_eq]

namespace State

theorem readTransfers_of_beyond (s : State) {b : Byte} (hb : 31 < b.toNat) :
    s.readTransfers b = (some .badCount, []) := if_pos hb

/-- With no handle in use from the one named on, the set stands alone. -/
theorem readTransfers_of_none {s : State} {b : Byte} (hb : b.toNat ≤ 31)
    (hnone : ∀ k : Handle, b.toNat ≤ k.val → s.entry k = none) : s.readTransfers b = (none, s.handleSet) := by
  rw [readTransfers, if_neg (not_lt.mpr hb), find?_entries_eq_none hnone]

theorem readTransfers_of_first {s : State} {b : Byte} {k : Handle} {e : Entry} (hb : b.toNat ≤ 31)
    (hk : s.entry k = some e) (hle : b.toNat ≤ k.val)
    (hfirst : ∀ j : Handle, b.toNat ≤ j.val → j < k → s.entry j = none) :
    s.readTransfers b = (none, s.handleSet ++ e.bytes k (s.mode = .halt)) := by
  rw [readTransfers, if_neg (not_lt.mpr hb), find?_entries_eq_some hk hle hfirst]

end State

/-! ### Fault classes and the fault read (R171, R182) -/

theorem FaultClass.toNat_byte (c : FaultClass) : c.byte.toNat = c.idx.val + 1 := by
  simp only [FaultClass.byte, Machine.byte, BitVec.toNat_ofNat]
  omega

/-- The number of a class names the class. -/
theorem classOf_byte (c : FaultClass) : classOf c.byte = some c := by
  cases c <;> rfl

/-- No class has a number but 1 to 12. -/
theorem classOf_eq_none {b : Byte} (hb : b = 0 ∨ 12 < b.toNat) : classOf b = none := by
  rw [classOf, List.find?_eq_none]
  intro c _ hc
  obtain rfl := of_decide_eq_true hc
  have hbyte := c.toNat_byte
  rcases hb with h0 | h12
  · rw [h0] at hbyte
    exact absurd hbyte (Nat.succ_ne_zero _).symm
  · omega

namespace State

theorem readFaults_of_no_class (s : State) {b : Byte} (hb : b = 0 ∨ 12 < b.toNat) :
    s.readFaults b = (some .badCount, []) := by
  rw [readFaults, classOf_eq_none hb]

theorem readFaults_of_class (s : State) (c : FaultClass) :
    s.readFaults c.byte = (none, [leadByte s.leadFault] ++ s.latchSet
      ++ ((FaultClass.all.drop (c.byte.toNat - 1)).take 3).flatMap (fun k => faultBytes (s.faultRec k))) := by
  rw [readFaults, classOf_byte, FaultClass.toNat_byte, Nat.add_sub_cancel]

end State

/-- Settles O59: the transfer table read by what its search finds, the fault read by the class its byte names. -/
theorem transferAndFaultReads : Obligations.TransferAndFaultReads := by
  unfold Obligations.TransferAndFaultReads
  intro s h answer b ht x y optional whole station
  have hoption {α : Type} (n : Nat) (f : α → List Byte) (o : Option α) :
      optionBytes n f o = optional n (o.map f) := by cases o <;> rfl
  have hwhole (k : Handle) (e : Entry) : e.bytes k (s.mode = .halt) = whole k e := by
    obtain ⟨party, kind, phase, wait, tag, askStamp, count, items, timer⟩ := e
    unfold Entry.bytes Item.bytes
    simp only [Kind.ask_eq, hoption, markByte_decide]
    cases phase <;> rfl
  refine ⟨fun hb => ?beyond, fun hb => ⟨s.handleWord, s.getLsbD_handleWord, fun hnone => ?alone, ?first⟩,
    fun hb => ?noClass, fun k hk => ⟨s.latchWord, s.getLsbD_latchWord, ?known⟩⟩
  case beyond => exact exec_transferTableRead ht (s.readTransfers_of_beyond hb)
  case alone =>
    rw [← s.handleSet_eq]
    exact exec_transferTableRead ht (State.readTransfers_of_none hb hnone)
  case first =>
    intro k e hk hle hfirst
    rw [← s.handleSet_eq, ← hwhole]
    exact exec_transferTableRead ht (State.readTransfers_of_first hb hk hle hfirst)
  case noClass => exact exec_faultRead ht (s.readFaults_of_no_class hb)
  case known =>
    subst hk
    refine exec_faultRead ht ((s.readFaults_of_class k).trans ?_)
    rw [s.latchSet_eq, ← List.append_assoc]
    rfl

end Sys2Proof.Machine

/-! ## What a step can do to what the invariants look at

`Seen` is the part of a state that the invariants of O3 to O7 look at. A block's operation is a run of moves on it (`Move`),
an event a run of acts (`Act`); each invariant is shown to be kept by a move and by an act, once. -/

namespace Sys2Proof.Machine

/-! ### What is looked at -/

/-- The numbers of telegrams in the queues; of the level downstream queue the levels in their order. -/
structure Loads where
  upstream : Nat
  nfWait : Nat
  queue : List Level
  box : Level → Nat
  down : Lift → Nat
  forwarded : Lift → Nat

/-- The receivers and the transmitter of the store line. -/
structure Ports where
  storeRx : Rx
  storeTx : StoreTx
  linkRx : Lift → Rx
  busRx : Rx

/-- What the scheduler goes by, with the look that is due. -/
structure Sched where
  pos : Option Level
  next : Option Level
  cycle : Bool
  probeCycle : Bool
  included : Level → Bool → Bool
  look : Bool

/-- What the invariants look at. -/
structure Seen where
  time : Stamp
  pending : List Instr
  requests : Nat
  reserved : Bool
  tables : Tables
  table : Handle → Option Entry
  claim : Level → SlotCode → Option Claim
  visit : Lift → Bool
  mode : Mode
  motion : Bool
  flags : Flags
  attention : Bool
  asks : List Tel
  loads : Loads
  ports : Ports
  turn : Turn
  sched : Sched

/-- The numbers of telegrams in the queues of a state. -/
def State.loads (s : State) : Loads where
  upstream := s.store.upstream.length
  nfWait := s.store.nfWait.length
  queue := s.bus.queue.map (fun i => i.level)
  box := fun n => (s.shuttle n).box.length
  down := fun x => (s.link x).down.length
  forwarded := fun x => ((s.link x).down.filter (fun i => !i.own)).length

/-- The receivers and the store line transmitter of a state. -/
def State.ports (s : State) : Ports where
  storeRx := s.store.rx
  storeTx := s.store.tx
  linkRx := fun x => (s.link x).rx
  busRx := s.bus.rx

/-- What the scheduler of a state goes by. -/
def State.sched (s : State) : Sched where
  pos := s.bus.pos
  next := s.bus.next
  cycle := s.bus.cycle
  probeCycle := s.bus.probeCycle
  included := fun n => (s.shuttle n).presence.included
  look := s.work.look

/-- What the invariants look at in a state. -/
def State.seen (s : State) : Seen where
  time := s.time
  pending := s.pending
  requests := s.requests.length
  reserved := s.work.reserved
  tables := s.tables
  table := s.entry
  claim := fun n c => (s.slot n c).claim
  visit := fun x => (s.lift x).visit.isSome
  mode := s.mode
  motion := s.modeCtl.motion
  flags := s.notices.pending
  attention := s.notices.attention
  asks := s.unsentAsks
  loads := s.loads
  ports := s.ports
  turn := s.bus.turn
  sched := s.sched

namespace Seen

/-! ### The invariants of what is looked at -/

/-- No queue but that of unsent CONFIRM-ASKs holds more than its places and shares. -/
def Places (a : Seen) : Prop :=
  a.loads.upstream + (if a.reserved then 1 else 0) ≤ 64 ∧ a.loads.nfWait ≤ 16 ∧ a.requests ≤ 4
    ∧ a.loads.queue.length ≤ 32 ∧ (∀ n, a.loads.queue.count n ≤ 4) ∧ (∀ n, a.loads.box n ≤ 2)
    ∧ ∀ x, a.loads.down x ≤ 8 ∧ a.loads.forwarded x ≤ 6

/-- The outputs follow the mode and the flags. -/
def Outputs (a : Seen) : Prop :=
  a.motion = a.mode.permits ∧ a.attention = (a.flags.both a.tables.enabled).any

/-- Classes 9 and 12 are at HALT. -/
def AtHalt (a : Seen) : Prop :=
  a.tables.dispositions[FaultClass.ungrantedAct.idx] = .halt ∧ a.tables.dispositions[FaultClass.stopInput.idx] = .halt

/-- A party has at most one entry. -/
def OneEach (a : Seen) : Prop :=
  ∀ h k e f, a.table h = some e → a.table k = some f → e.party = f.party → h = k

/-- In CONFIG there is no entry and no open visit. -/
def EmptyInConfig (a : Seen) : Prop :=
  a.mode = .config → (∀ h, a.table h = none) ∧ ∀ x, a.visit x = false

/-- The unsent CONFIRM-ASKs about an entry. -/
def asksOf (a : Seen) (h : Handle) : List Tel := a.asks.filter (fun t => t.asksAbout h)

/-- The most CONFIRM-ASKs that a handle may have unsent. -/
def askShare (e : Option Entry) : Nat :=
  match e with
  | some e => if e.confirmsLift then e.items.length else 0
  | none => 0

/-- Each unsent CONFIRM-ASK is about a tote of a CONFIRMING entry of a lift. -/
def AsksHeld (a : Seen) : Prop :=
  (∀ h, (a.asksOf h).length ≤ askShare (a.table h))
    ∧ (∀ t ∈ a.asks, ∃ h : Handle, t.asksAbout h = true)
    ∧ ∀ h e, a.table h = some e → e.confirmsLift = true → e.items.length ≤ 2

/-- An entry owns the claim of a slot. -/
def Owns (e : Entry) (n : Level) (c : SlotCode) (k : Claim) : Prop :=
  e.phase.isGranted = true ∧ e.kind = k.kind ∧ ∃ i ∈ e.items, i.slot = some (n, c) ∧ i.tote.id = k.toteId

/-- Each claim has the entry that owns it. -/
def Owned (a : Seen) : Prop :=
  ∀ n c k, a.claim n c = some k → ∃ e, a.table k.handle = some e ∧ Owns e n c k

/-- The receiver of a port. -/
def rx (a : Seen) : Port → Rx
  | .storeLine => if a.ports.storeTx = .idle then a.ports.storeRx else .hunt
  | .link x => a.ports.linkRx x
  | .levelBus => match a.turn with
    | .awaiting _ => a.ports.busRx
    | .idle => .hunt
    | .sending _ _ => .hunt

/-- A receiver that is in RECEIVING holds the first bytes of a telegram that has not ended. -/
def Unended (r : Rx) : Prop := ∀ held, r = .receiving held → held ≠ [] ∧ judgeBytes held = none

/-- The receivers are in the states that transmitter, turn and bytes allow. -/
def Receivers (a : Seen) : Prop :=
  (a.ports.storeTx ≠ .idle → a.ports.storeRx = .hunt)
    ∧ (a.ports.busRx ≠ .hunt ↔ ∃ n, a.turn = .awaiting n)
    ∧ ∀ port, Unended (a.rx port)

/-- What holds of the scheduler also in the middle of an event. -/
def Cycling (a : Seen) : Prop :=
  (a.turn ≠ .idle → a.sched.cycle = true ∧ a.sched.next = none)
    ∧ (∀ n, a.sched.next = some n → a.sched.cycle = true ∧ ∀ m, a.sched.pos = some m → m < n)
    ∧ (a.sched.cycle = false → a.sched.pos = none ∧ a.sched.probeCycle = false)

/-- The level found for the next turn is included; with none found no level is polled and no cycle is under way. -/
def Found (a : Seen) : Prop :=
  (∀ n, a.sched.next = some n → a.sched.included n a.sched.probeCycle = true)
    ∧ (a.turn = .idle → a.sched.next = none → a.sched.cycle = false ∧ ∀ n, a.sched.included n true = false)

/-- The scheduler has its next level, or a look is due. -/
def Ready (a : Seen) : Prop := a.Cycling ∧ (a.sched.look = false → a.Found)

end Seen

/-! ### Moves -/

/-- An entry of a party may be put at a handle: the party has it there already, or in RUN the handle is free and the party
has none. -/
def Seen.Accepts (a : Seen) (h : Handle) (p : Party) : Prop :=
  (∃ e0, a.table h = some e0 ∧ e0.party = p)
    ∨ (a.mode = .run ∧ a.table h = none ∧ ∀ k f, a.table k = some f → f.party ≠ p)

/-- The entry of a handle, if there is one, is not GRANTED. -/
def Seen.Ungranted (a : Seen) (h : Handle) : Prop := ∀ e, a.table h = some e → e.phase.isGranted = false

/-- No unsent CONFIRM-ASK can be about the handle: its entry is no lift's in CONFIRMING, or there is none. -/
def Seen.Unasked (a : Seen) (h : Handle) : Prop :=
  (∀ e, a.table h = some e → e.confirmsLift = false) ∨ a.asksOf h = []

/-- An entry of a party may take the handle and enter a phase: the handle accepts it, and neither a claim nor an unsent
CONFIRM-ASK can be left from the phase before. -/
structure Seen.Fits (a : Seen) (h : Handle) (p : Party) : Prop where
  accepts : a.Accepts h p
  ungranted : a.Ungranted h
  unasked : a.Unasked h

/-- What a block's operation can do to what the invariants look at. -/
inductive Move : Seen → Seen → Prop
  /-- An entry goes on in its phase. -/
  | change {a : Seen} (h : Handle) (e0 e : Entry) (old : a.table h = some e0) (party : e0.party = e.party)
      (granted : e.phase.isGranted = e0.phase.isGranted)
      (owns : e0.phase.isGranted = true → e.kind = e0.kind ∧ e.items = e0.items)
      (confirms : e.confirmsLift = e0.confirmsLift) (length : e.items.length = e0.items.length) :
      Move a { a with table := Function.update a.table h (some e) }
  /-- An entry waits. -/
  | wait {a : Seen} (h : Handle) (e : Entry) (fits : a.Fits h e.party)
      (waits : e.isWaiting = true) : Move a { a with table := Function.update a.table h (some e) }
  /-- An entry is granted, with claims of its own. -/
  | grant {a : Seen} (h : Handle) (e : Entry) (claim : Level → SlotCode → Option Claim)
      (fits : a.Fits h e.party) (granted : e.phase.isGranted = true)
      (claims : ∀ n c k, claim n c = some k → a.claim n c = some k ∨ (k.handle = h ∧ Seen.Owns e n c k)) :
      Move a { a with table := Function.update a.table h (some e), claim := claim }
  /-- A lift's entry enters CONFIRMING, with CONFIRM-ASKs that stay unsent. -/
  | confirm {a : Seen} (h : Handle) (e : Entry) (asks : List Tel) (fits : a.Fits h e.party) (confirms : e.confirmsLift = true) (two : e.items.length ≤ 2)
      (length : asks.length ≤ e.items.length) (about : ∀ t ∈ asks, t.asksAbout h = true) :
      Move a { a with table := Function.update a.table h (some e), asks := a.asks ++ asks }
  /-- An entry is removed with its claims and its unsent CONFIRM-ASKs. -/
  | remove {a : Seen} (h : Handle) (e : Entry) (claim : Level → SlotCode → Option Claim) (old : a.table h = some e)
      (claims : ∀ n c k, claim n c = some k →
        a.claim n c = some k ∧ (k.handle = h → ∀ i ∈ e.items, i.slot ≠ some (n, c))) :
      Move a { a with
        table := Function.update a.table h none, claim := claim, asks := a.asks.filter (fun t => !t.asksAbout h) }
  /-- Claims go, and unsent CONFIRM-ASKs. -/
  | drop {a : Seen} (claim : Level → SlotCode → Option Claim) (asks : List Tel)
      (claims : ∀ n c k, claim n c = some k → a.claim n c = some k) (sub : asks.Sublist a.asks) :
      Move a { a with claim := claim, asks := asks }
  /-- The timers of the entries run. -/
  | timers {a : Seen} (f : Entry → Ticks) :
      Move a { a with table := fun h => (a.table h).map (fun e => { e with timer := f e }) }
  /-- A visit opens, in RUN, or ends. -/
  | visit {a : Seen} (x : Lift) (v : Bool) (run : v = true → a.mode = .run) :
      Move a { a with visit := Function.update a.visit x v }
  /-- The mode changes with the motion permit; to CONFIG with nothing under way. -/
  | mode {a : Seen} (m : Mode) (empty : m = .config → (∀ h, a.table h = none) ∧ ∀ x, a.visit x = false) :
      Move a { a with mode := m, motion := m.permits }
  /-- The notice flags change with the attention output. -/
  | flags {a : Seen} (f : Flags) : Move a { a with flags := f, attention := (f.both a.tables.enabled).any }
  /-- Telegrams join and leave the queues. -/
  | loads {a : Seen} (l : Loads) (places : a.Places → Seen.Places { a with loads := l }) : Move a { a with loads := l }

/-- A run of moves. -/
abbrev Moves : Seen → Seen → Prop := Relation.ReflTransGen Move

namespace Seen

/-! ### Each move keeps each invariant -/

theorem Places.move {a b : Seen} (m : Move a b) (h : a.Places) : b.Places := by
  cases m with
  | loads l places => exact places h
  | _ => exact h

theorem Outputs.move {a b : Seen} (m : Move a b) (h : a.Outputs) : b.Outputs := by
  cases m with
  | mode m => exact ⟨rfl, h.2⟩
  | flags f => exact ⟨h.1, rfl⟩
  | _ => exact h

theorem OneEach.update {a : Seen} (h : a.OneEach) {j : Handle} {e : Entry} (accepts : a.Accepts j e.party) :
    Seen.OneEach { a with table := Function.update a.table j (some e) } := by
  have other {k : Handle} {f : Entry} (hk : k ≠ j) (hf : a.table k = some f) : f.party ≠ e.party := by
    rcases accepts with ⟨e0, h0, hp⟩ | ⟨-, -, hfree⟩
    · exact fun heq => hk (h k j f e0 hf h0 (heq.trans hp.symm))
    · exact hfree k f hf
  intro k l f g hf hg hp
  simp only [Function.update_apply] at hf hg
  split at hf <;> split at hg
  · simp_all
  · cases hf; exact absurd hp.symm (other ‹_› hg)
  · cases hg; exact absurd hp (other ‹_› hf)
  · exact h k l f g hf hg hp

theorem OneEach.move {a b : Seen} (m : Move a b) (h : a.OneEach) : b.OneEach := by
  cases m with
  | change j e0 e old party => exact h.update (.inl ⟨e0, old, party⟩)
  | wait j e fits => exact h.update fits.accepts
  | grant j e claim fits => exact h.update fits.accepts
  | confirm j e asks fits => exact h.update fits.accepts
  | remove j e claim old =>
    intro k l f g hf hg hp
    simp only [Function.update_apply] at hf hg
    split at hf <;> split at hg <;> first | contradiction | exact h k l f g hf hg hp
  | timers f =>
    intro k l e g he hg hp
    obtain ⟨e', he', rfl⟩ := Option.map_eq_some_iff.mp he
    obtain ⟨g', hg', rfl⟩ := Option.map_eq_some_iff.mp hg
    exact h k l e' g' he' hg' hp
  | _ => exact h

theorem EmptyInConfig.not_accepts {a : Seen} (h : a.EmptyInConfig) {j : Handle} {p : Party} (accepts : a.Accepts j p) :
    a.mode ≠ .config := by
  intro hc
  rcases accepts with ⟨e0, h0, -⟩ | ⟨hr, -⟩
  · simp [(h hc).1 j] at h0
  · simp [hc] at hr

theorem EmptyInConfig.move {a b : Seen} (m : Move a b) (h : a.EmptyInConfig) : b.EmptyInConfig := by
  cases m with
  | change j e0 e old party => exact fun hc => absurd hc (h.not_accepts (.inl ⟨e0, old, party⟩))
  | wait j e fits => exact fun hc => absurd hc (h.not_accepts fits.accepts)
  | grant j e claim fits => exact fun hc => absurd hc (h.not_accepts fits.accepts)
  | confirm j e asks fits => exact fun hc => absurd hc (h.not_accepts fits.accepts)
  | remove j e claim old => exact fun hc => by simp [(h hc).1 j] at old
  | timers f => exact fun hc => ⟨fun k => by simp [(h hc).1 k], (h hc).2⟩
  | visit x v run =>
    refine fun hc => ⟨(h hc).1, fun y => ?_⟩
    cases v with
    | true => simp [run rfl] at hc
    | false =>
      by_cases hy : y = x
      · simp [hy]
      · simpa [hy] using (h hc).2 y
  | mode m empty => exact empty
  | _ => exact h

theorem Entry.confirmsLift_of_waiting {e : Entry} (h : e.isWaiting = true) : e.confirmsLift = false := by
  unfold Entry.isWaiting at h
  unfold Entry.confirmsLift
  split at h <;> simp_all

theorem Entry.confirmsLift_of_granted {e : Entry} (h : e.phase.isGranted = true) : e.confirmsLift = false := by
  unfold Phase.isGranted at h
  unfold Entry.confirmsLift
  split at h <;> simp_all

theorem Entry.granted_of_waiting {e : Entry} (h : e.isWaiting = true) : e.phase.isGranted = false := by
  unfold Entry.isWaiting at h
  unfold Phase.isGranted
  split at h <;> simp_all

theorem Entry.granted_of_confirmsLift {e : Entry} (h : e.confirmsLift = true) : e.phase.isGranted = false := by
  unfold Entry.confirmsLift at h
  unfold Phase.isGranted
  split at h <;> simp_all

/-- With the table changed at one handle, what is to be shown of that handle alone. -/
theorem AsksHeld.update {a : Seen} (h : a.AsksHeld) (j : Handle) (o : Option Entry)
    (share : (a.asksOf j).length ≤ askShare o) (two : ∀ e, o = some e → e.confirmsLift = true → e.items.length ≤ 2) :
    Seen.AsksHeld { a with table := Function.update a.table j o } := by
  obtain ⟨hshare, habout, htwo⟩ := h
  refine ⟨fun k => ?_, habout, fun k e hk => ?_⟩
  · by_cases hkj : k = j
    · subst hkj; simpa [asksOf] using share
    · simpa [asksOf, hkj] using hshare k
  · by_cases hkj : k = j
    · subst hkj; exact two e (by simpa using hk)
    · exact htwo k e (by simpa [hkj] using hk)

theorem AsksHeld.asksOf_of_unasked {a : Seen} (h : a.AsksHeld) {j : Handle} (hu : a.Unasked j) : a.asksOf j = [] := by
  rcases hu with hu | hu
  · have hs : askShare (a.table j) = 0 := by
      cases hj : a.table j with
      | none => rfl
      | some e => simp [askShare, hu e hj]
    have := h.1 j
    rw [hs] at this
    exact List.eq_nil_of_length_eq_zero (Nat.le_zero.mp this)
  · exact hu

/-- A handle is known by its byte. -/
theorem handleByte_inj {h k : Handle} (he : handleByte h = handleByte k) : h = k := by
  have := congrArg BitVec.toNat he
  simp only [handleByte, byte, BitVec.toNat_ofNat] at this
  exact Fin.ext (by omega)

/-- A CONFIRM-ASK is about one handle. -/
theorem asksAbout_inj {t : Tel} {h k : Handle} (hh : t.asksAbout h = true) (hk : t.asksAbout k = true) : h = k := by
  unfold Tel.asksAbout at hh hk
  split at hh
  · simp only [decide_eq_true_eq] at hh
    simp_all only [decide_eq_true_eq]
    exact handleByte_inj hk
  · contradiction

theorem AsksHeld.filter {a : Seen} (h : a.AsksHeld) {l : List Tel} (sub : l.Sublist a.asks) :
    Seen.AsksHeld { a with asks := l } :=
  ⟨fun k => ((sub.filter _).length_le).trans (h.1 k), fun t ht => h.2.1 t (sub.subset ht), h.2.2⟩

theorem AsksHeld.move {a b : Seen} (m : Move a b) (h : a.AsksHeld) : b.AsksHeld := by
  cases m with
  | change j e0 e old party granted owns confirms length =>
    refine h.update j (some e) ?_ ?_
    · have := h.1 j
      rwa [old, askShare, ← confirms, ← length] at this
    · rintro _ ⟨⟩ hc
      exact length ▸ h.2.2 j e0 old (confirms ▸ hc)
  | wait j e fits waits =>
    refine h.update j (some e) (by simp [h.asksOf_of_unasked fits.unasked]) ?_
    rintro _ ⟨⟩ hc
    simp [Entry.confirmsLift_of_waiting waits] at hc
  | grant j e claim fits granted =>
    refine h.update j (some e) (by simp [h.asksOf_of_unasked fits.unasked]) ?_
    rintro _ ⟨⟩ hc
    simp [Entry.confirmsLift_of_granted granted] at hc
  | confirm j e asks fits confirms two length about =>
    obtain ⟨hshare, habout, htwo⟩ := h.update j (some e) (by simp [h.asksOf_of_unasked fits.unasked]) (by rintro _ ⟨⟩ _; exact two)
    refine ⟨fun k => ?_, fun t ht => ?_, htwo⟩
    · by_cases hk : k = j
      · subst hk
        have hnone : List.filter (fun t => t.asksAbout k) a.asks = [] := h.asksOf_of_unasked fits.unasked
        simpa [asksOf, hnone, askShare, confirms] using (List.length_filter_le _ _).trans length
      · have hnone : asks.filter (fun t => t.asksAbout k) = [] :=
          List.filter_eq_nil_iff.mpr fun t ht htk => hk (asksAbout_inj htk (about t ht))
        simpa [asksOf, hnone] using hshare k
    · rcases List.mem_append.mp ht with ht | ht
      · exact habout t ht
      · exact ⟨j, about t ht⟩
  | remove j e claim old =>
    have hf := h.filter (l := a.asks.filter (fun t => !t.asksAbout j)) List.filter_sublist
    refine hf.update j none ?_ (by simp)
    simp [asksOf, List.filter_filter]
  | drop claim asks claims sub => exact h.filter sub
  | timers f =>
    obtain ⟨hshare, habout, htwo⟩ := h
    refine ⟨fun k => (hshare k).trans ?_, habout, fun k e hk hc => ?_⟩
    · dsimp only
      cases a.table k with
      | none => simp [askShare]
      | some e => exact le_of_eq rfl
    · obtain ⟨e', he', rfl⟩ := Option.map_eq_some_iff.mp hk
      exact htwo k e' he' hc
  | _ => exact h

theorem Owned.update {a : Seen} (h : a.Owned) {j : Handle} (o : Option Entry) {claim : Level → SlotCode → Option Claim}
    (claims : ∀ n c k, claim n c = some k → (a.claim n c = some k ∧ (k.handle = j → ∃ e, o = some e ∧ Owns e n c k))
      ∨ (k.handle = j ∧ ∃ e, o = some e ∧ Owns e n c k)) :
    Seen.Owned { a with table := Function.update a.table j o, claim := claim } := by
  intro n c k hk
  rcases claims n c k hk with ⟨hold, hj⟩ | ⟨hj, e, he, hown⟩
  · by_cases hkj : k.handle = j
    · obtain ⟨e, he, hown⟩ := hj hkj
      exact ⟨e, by simp [hkj, he], hown⟩
    · obtain ⟨e, he, hown⟩ := h n c k hold
      exact ⟨e, by simpa [hkj] using he, hown⟩
  · exact ⟨e, by simp [hj, he], hown⟩

/-- The entry of a claim is GRANTED. -/
theorem Owned.not_ungranted {a : Seen} (h : a.Owned) {n : Level} {c : SlotCode} {k : Claim} (hk : a.claim n c = some k) :
    ¬ a.Ungranted k.handle := by
  intro hu
  obtain ⟨e, he, hg, -⟩ := h n c k hk
  simp [hu e he] at hg

theorem Owned.move {a b : Seen} (m : Move a b) (h : a.Owned) : b.Owned := by
  cases m with
  | change j e0 e old party granted owns =>
    refine h.update (some e) fun n c k hk => .inl ⟨hk, fun hj => ⟨e, rfl, ?_⟩⟩
    obtain ⟨e', he', hg, hkind, i, hi, hslot⟩ := h n c k hk
    obtain rfl : e0 = e' := Option.some.inj (old.symm.trans (hj ▸ he'))
    obtain ⟨hk', hi'⟩ := owns hg
    exact ⟨granted.trans hg, hk'.trans hkind, i, hi' ▸ hi, hslot⟩
  | wait j e fits =>
    exact h.update (some e) fun n c k hk => .inl ⟨hk, fun hj => absurd (hj ▸ fits.ungranted) (h.not_ungranted hk)⟩
  | grant j e claim fits granted claims =>
    refine h.update (some e) fun n c k hk => (claims n c k hk).imp (fun hold => ⟨hold, fun hj => ?_⟩) fun hnew => ⟨hnew.1, e, rfl, hnew.2⟩
    exact absurd (hj ▸ fits.ungranted) (h.not_ungranted hold)
  | confirm j e asks fits =>
    exact h.update (some e) fun n c k hk => .inl ⟨hk, fun hj => absurd (hj ▸ fits.ungranted) (h.not_ungranted hk)⟩
  | remove j e claim old claims =>
    refine h.update none fun n c k hk => .inl ⟨(claims n c k hk).1, fun hj => ?_⟩
    obtain ⟨hold, hout⟩ := claims n c k hk
    obtain ⟨e', he', -, -, i, hi, hslot, -⟩ := h n c k hold
    obtain rfl : e = e' := Option.some.inj (old.symm.trans (hj ▸ he'))
    exact absurd hslot (hout hj i hi)
  | drop claim asks claims => exact fun n c k hk => h n c k (claims n c k hk)
  | timers f =>
    intro n c k hk
    obtain ⟨e, he, hown⟩ := h n c k hk
    exact ⟨{ e with timer := f e }, by simp [he], hown⟩
  | _ => exact h

end Seen

/-- What no move changes. -/
structure Move.Unmoved (a b : Seen) : Prop where
  time : b.time = a.time
  pending : b.pending = a.pending
  requests : b.requests = a.requests
  reserved : b.reserved = a.reserved
  tables : b.tables = a.tables
  ports : b.ports = a.ports
  turn : b.turn = a.turn
  sched : b.sched = a.sched

theorem Move.unmoved {a b : Seen} (m : Move a b) : Unmoved a b := by
  cases m <;> exact ⟨rfl, rfl, rfl, rfl, rfl, rfl, rfl, rfl⟩

theorem Moves.unmoved {a b : Seen} (m : Moves a b) : Move.Unmoved a b := by
  induction m with
  | refl => exact ⟨rfl, rfl, rfl, rfl, rfl, rfl, rfl, rfl⟩
  | tail _ m ih =>
    obtain ⟨h1, h2, h3, h4, h5, h6, h7, h8⟩ := m.unmoved
    exact ⟨h1.trans ih.time, h2.trans ih.pending, h3.trans ih.requests, h4.trans ih.reserved, h5.trans ih.tables,
      h6.trans ih.ports, h7.trans ih.turn, h8.trans ih.sched⟩

/-! ### Acts -/

/-- What an event can do to what the invariants look at: runs of moves of the blocks, and what the ports, the scheduler and
the management unit do. The first mark says whether a request may be executed, the second whether ports may change. -/
inductive Act : Bool → Bool → Seen → Seen → Prop
  /-- A block's operation. -/
  | moves {r p : Bool} {a b : Seen} (m : Moves a b) : Act r p a b
  /-- Receivers, transmitter and turn change. -/
  | ports {r : Bool} {a : Seen} (p : Ports) (t : Turn) (sc : Sched)
      (receivers : a.Receivers → Seen.Receivers { a with ports := p, turn := t, sched := sc })
      (ready : a.Ready → Seen.Ready { a with ports := p, turn := t, sched := sc }) :
      Act r true a { a with ports := p, turn := t, sched := sc }
  /-- Presence or cycle changes, then a block's operation is done, and the look falls due or is over. -/
  | scheduled {r p : Bool} {a b : Seen} (sc : Sched) (look : Bool) (m : Moves { a with sched := sc } b)
      (ready : a.Ready → Seen.Ready { a with sched := { sc with look := look } }) :
      Act r p a { b with sched := { b.sched with look := look } }
  /-- A table is written. -/
  | write {p : Bool} {a : Seen} (tables : Tables) (attention : Bool)
      (halts : a.AtHalt → Seen.AtHalt { a with tables := tables, attention := attention })
      (outputs : a.Outputs → Seen.Outputs { a with tables := tables, attention := attention }) :
      Act true p a { a with tables := tables, attention := attention }
  /-- Requests join and leave the management input queue, places of the upstream queue are kept for ANSWERs. -/
  | requests {p : Bool} {a : Seen} (n : Nat) (reserved : Bool) (l : Loads)
      (places : a.Places → Seen.Places { a with requests := n, reserved := reserved, loads := l }) :
      Act true p a { a with requests := n, reserved := reserved, loads := l }

/-- A run of acts. -/
abbrev Acts (r p : Bool) : Seen → Seen → Prop := Relation.ReflTransGen (Act r p)

/-- What moves keep, a run of them keeps. -/
theorem Moves.keep {P : Seen → Prop} (hP : ∀ a b, Move a b → P a → P b) {a b : Seen} (m : Moves a b) (h : P a) : P b := by
  induction m with
  | refl => exact h
  | tail _ m ih => exact hP _ _ m ih

/-- What acts keep, a run of them keeps. -/
theorem Acts.keep {r p : Bool} {P : Seen → Prop} (hP : ∀ a b, Act r p a b → P a → P b) {a b : Seen} (m : Acts r p a b) (h : P a) :
    P b := by
  induction m with
  | refl => exact h
  | tail _ m ih => exact hP _ _ m ih

namespace Seen

theorem Places.act {r p : Bool} {a b : Seen} (m : Act r p a b) (h : a.Places) : b.Places := by
  cases m with
  | moves m => exact m.keep (fun _ _ => Places.move) h
  | scheduled sc look m => exact (m.keep (fun _ _ => Places.move) h : Places _)
  | requests n reserved l places => exact places h
  | _ => exact h

theorem Outputs.act {r p : Bool} {a b : Seen} (m : Act r p a b) (h : a.Outputs) : b.Outputs := by
  cases m with
  | moves m => exact m.keep (fun _ _ => Outputs.move) h
  | scheduled sc look m => exact (m.keep (fun _ _ => Outputs.move) h : Outputs _)
  | write t v halts outputs => exact outputs h
  | _ => exact h

/-- Classes 9 and 12 depend on the tables alone. -/
theorem AtHalt.congr {a b : Seen} (ht : b.tables = a.tables) (h : a.AtHalt) : b.AtHalt := by
  unfold AtHalt
  rwa [ht]

theorem AtHalt.act {r p : Bool} {a b : Seen} (m : Act r p a b) (h : a.AtHalt) : b.AtHalt := by
  cases m with
  | moves m => exact h.congr m.unmoved.tables
  | scheduled sc look m => exact h.congr m.unmoved.tables
  | write t v halts => exact halts h
  | _ => exact h

theorem OneEach.act {r p : Bool} {a b : Seen} (m : Act r p a b) (h : a.OneEach) : b.OneEach := by
  cases m with
  | moves m => exact m.keep (fun _ _ => OneEach.move) h
  | scheduled sc look m => exact (m.keep (fun _ _ => OneEach.move) h : OneEach _)
  | _ => exact h

theorem EmptyInConfig.act {r p : Bool} {a b : Seen} (m : Act r p a b) (h : a.EmptyInConfig) : b.EmptyInConfig := by
  cases m with
  | moves m => exact m.keep (fun _ _ => EmptyInConfig.move) h
  | scheduled sc look m => exact (m.keep (fun _ _ => EmptyInConfig.move) h : EmptyInConfig _)
  | _ => exact h

theorem AsksHeld.act {r p : Bool} {a b : Seen} (m : Act r p a b) (h : a.AsksHeld) : b.AsksHeld := by
  cases m with
  | moves m => exact m.keep (fun _ _ => AsksHeld.move) h
  | scheduled sc look m => exact (m.keep (fun _ _ => AsksHeld.move) h : AsksHeld _)
  | _ => exact h

theorem Owned.act {r p : Bool} {a b : Seen} (m : Act r p a b) (h : a.Owned) : b.Owned := by
  cases m with
  | moves m => exact m.keep (fun _ _ => Owned.move) h
  | scheduled sc look m => exact (m.keep (fun _ _ => Owned.move) h : Owned _)
  | _ => exact h

/-- The receivers depend on ports and turn alone. -/
theorem Receivers.congr {a b : Seen} (hp : b.ports = a.ports) (ht : b.turn = a.turn) (h : a.Receivers) : b.Receivers := by
  obtain ⟨h1, h2, h3⟩ := h
  have hrx (port : Port) : b.rx port = a.rx port := by cases port <;> simp [rx, hp, ht]
  exact ⟨by rwa [hp], by rwa [hp, ht], fun port => hrx port ▸ h3 port⟩

/-- The scheduler's invariant depends on turn and scheduler alone. -/
theorem Ready.congr {a b : Seen} (ht : b.turn = a.turn) (hs : b.sched = a.sched) (h : a.Ready) : b.Ready := by
  unfold Ready Cycling Found at *
  rwa [ht, hs]

theorem Receivers.act {r p : Bool} {a b : Seen} (m : Act r p a b) (h : a.Receivers) : b.Receivers := by
  cases m with
  | moves m => exact h.congr m.unmoved.ports m.unmoved.turn
  | scheduled sc look m => exact h.congr m.unmoved.ports m.unmoved.turn
  | ports p t sc receivers => exact receivers h
  | _ => exact h

theorem Ready.act {r p : Bool} {a b : Seen} (m : Act r p a b) (h : a.Ready) : b.Ready := by
  cases m with
  | moves m => exact h.congr m.unmoved.turn m.unmoved.sched
  | scheduled sc look m ready => 
    refine Ready.congr ?_ ?_ (ready h)
    · exact m.unmoved.turn
    · exact congrArg (fun sc : Sched => { sc with look := look }) m.unmoved.sched
  | ports p t sc receivers ready => exact ready h
  | _ => exact h

end Seen

/-- No act changes the aisle time or the queue of waiting commands. -/
theorem Act.clock {r p : Bool} {a b : Seen} (m : Act r p a b) : b.time = a.time ∧ b.pending = a.pending := by
  cases m with
  | moves m => exact ⟨m.unmoved.time, m.unmoved.pending⟩
  | scheduled sc look m => exact ⟨m.unmoved.time, m.unmoved.pending⟩
  | _ => exact ⟨rfl, rfl⟩

/-- Where no request is executed the tables stay, and the place kept for an ANSWER. -/
theorem Act.tables {p : Bool} {a b : Seen} (m : Act false p a b) : b.tables = a.tables ∧ b.reserved = a.reserved := by
  cases m with
  | moves m => exact ⟨m.unmoved.tables, m.unmoved.reserved⟩
  | scheduled sc look m => exact ⟨m.unmoved.tables, m.unmoved.reserved⟩
  | _ => exact ⟨rfl, rfl⟩

/-- Where no port may change the receivers and the transmitter stay. -/
theorem Act.ports_eq {r : Bool} {a b : Seen} (m : Act r false a b) : b.ports = a.ports := by
  cases m with
  | moves m => exact m.unmoved.ports
  | scheduled sc look m => exact m.unmoved.ports
  | _ => rfl

/-- What is allowed without a request is allowed with one. -/
theorem Act.with_request {r p : Bool} {a b : Seen} (m : Act false p a b) : Act r p a b := by
  cases m with
  | moves m => exact .moves m
  | scheduled sc look m ready => exact .scheduled sc look m ready
  | ports p t sc receivers ready => exact .ports p t sc receivers ready

/-- What is allowed without a change of ports is allowed with one. -/
theorem Act.with_ports {r p : Bool} {a b : Seen} (m : Act r false a b) : Act r p a b := by
  cases m with
  | moves m => exact .moves m
  | scheduled sc look m ready => exact .scheduled sc look m ready
  | write t v halts outputs => exact .write t v halts outputs
  | requests n v l places => exact .requests n v l places

/-- What an event does: acts, after which no place is kept for an ANSWER where none was kept before. -/
structure Event (r p : Bool) (s t : State) : Prop where
  acts : Acts r p s.seen t.seen
  reserved : s.work.reserved = false → t.work.reserved = false

namespace Event

theorem trans {r p : Bool} {s t u : State} (h : Event r p s t) (k : Event r p t u) : Event r p s u :=
  ⟨h.acts.trans k.acts, fun hs => k.reserved (h.reserved hs)⟩

theorem refl {r p : Bool} {s : State} : Event r p s s := ⟨.refl, id⟩

/-- Acts without a request are an event. -/
theorem of_acts {r p : Bool} {s t : State} (m : Acts false p s.seen t.seen) : Event r p s t := by
  refine ⟨Relation.ReflTransGen.mono (fun _ _ => Act.with_request) _ _ m, fun hs => ?_⟩
  have : t.seen.reserved = s.seen.reserved :=
    m.keep (P := fun b => b.reserved = s.seen.reserved) (fun _ _ m h => m.tables.2.trans h) rfl
  exact this.trans hs

/-- An event without a request is one also where a request may be executed. -/
theorem with_request {r p : Bool} {s t : State} (h : Event false p s t) : Event r p s t :=
  ⟨Relation.ReflTransGen.mono (fun _ _ => Act.with_request) _ _ h.acts, h.reserved⟩

/-- An event that changes no port is one also where ports may change. -/
theorem with_ports {r p : Bool} {s t : State} (h : Event r false s t) : Event r p s t :=
  ⟨Relation.ReflTransGen.mono (fun _ _ => Act.with_ports) _ _ h.acts, h.reserved⟩

/-- An event that changes no port leaves the ports. -/
theorem ports_eq {r : Bool} {s t : State} (h : Event r false s t) : t.ports = s.ports :=
  h.acts.keep (P := fun b => b.ports = s.ports) (fun _ _ m h => m.ports_eq.trans h) rfl

end Event

end Sys2Proof.Machine

/-! ## The operations of the blocks as runs of moves

One lemma for each operation, in the order of the model's files. -/

namespace Sys2Proof.Machine

/-- The operation from `s` to `t` is a run of moves. -/
def Runs (s t : State) : Prop := Moves s.seen t.seen

theorem Runs.refl {s : State} : Runs s s := Relation.ReflTransGen.refl

theorem Runs.trans {s t u : State} (h : Runs s t) (k : Runs t u) : Runs s u := Relation.ReflTransGen.trans h k

/-- An operation on what no invariant looks at. -/
theorem Runs.of_eq {s t : State} (h : t.seen = s.seen) : Runs s t := by
  unfold Runs
  rw [h]

/-- An operation that is one move. -/
theorem Runs.of_move {s t : State} {b : Seen} (m : Move s.seen b) (h : t.seen = b) : Runs s t := by
  unfold Runs
  rw [h]
  exact .single m

/-- What is left to do later is not looked at. -/
theorem Runs.touch {s t : State} (h : Runs s t) : Runs s t.touch := h
theorem Runs.wantReeval {s t : State} (h : Runs s t) : Runs s t.wantReeval := h
theorem Runs.raise {s t : State} (h : Runs s t) (c : FaultClass) (p : Option Party) : Runs s (t.raise c p) := h

/-- A fold of an operation. -/
theorem Runs.foldl {α : Type} {f : State → α → State} (hf : ∀ s a, Runs s (f s a)) (l : List α) (s : State) :
    Runs s (l.foldl f s) := by
  induction l generalizing s with
  | nil => exact .refl
  | cons a l ih => exact (hf s a).trans (ih _)

/-! ### Moves of one queue -/

namespace Move

theorem down {a : Seen} (x : Lift) (d f : Nat)
    (h : a.loads.down x ≤ 8 ∧ a.loads.forwarded x ≤ 6 → d ≤ 8 ∧ f ≤ 6) :
    Move a { a with loads := { a.loads with
      down := Function.update a.loads.down x d, forwarded := Function.update a.loads.forwarded x f } } := by
  refine .loads _ fun ⟨h1, h2, h3, h4, h5, h6, h7⟩ => ⟨h1, h2, h3, h4, h5, h6, fun y => ?_⟩
  by_cases hy : y = x
  · subst hy; simpa using h (h7 y)
  · simpa [hy] using h7 y

theorem box {a : Seen} (n : Level) (d : Nat) (h : a.loads.box n ≤ 2 → d ≤ 2) :
    Move a { a with loads := { a.loads with box := Function.update a.loads.box n d } } := by
  refine .loads _ fun ⟨h1, h2, h3, h4, h5, h6, h7⟩ => ⟨h1, h2, h3, h4, h5, fun m => ?_, h7⟩
  by_cases hm : m = n
  · subst hm; simpa using h (h6 m)
  · simpa [hm] using h6 m

theorem upstream {a : Seen} (u : Nat)
    (h : a.loads.upstream + (if a.reserved then 1 else 0) ≤ 64 → u + (if a.reserved then 1 else 0) ≤ 64) :
    Move a { a with loads := { a.loads with upstream := u } } :=
  .loads _ fun ⟨h1, hr⟩ => ⟨h h1, hr⟩

theorem nfWait {a : Seen} (w : Nat) (h : a.loads.nfWait ≤ 16 → w ≤ 16) :
    Move a { a with loads := { a.loads with nfWait := w } } :=
  .loads _ fun ⟨h1, h2, hr⟩ => ⟨h1, h h2, hr⟩

theorem queue {a : Seen} (q : List Level)
    (h : a.loads.queue.length ≤ 32 → (∀ n, a.loads.queue.count n ≤ 4) → q.length ≤ 32 ∧ ∀ n, q.count n ≤ 4) :
    Move a { a with loads := { a.loads with queue := q } } :=
  .loads _ fun ⟨h1, h2, h3, h4, h5, hr⟩ => ⟨h1, h2, h3, (h h4 h5).1, (h h4 h5).2, hr⟩

/-- Telegrams leave the level downstream queue. -/
theorem queue_sub {a : Seen} {q : List Level} (h : q.Sublist a.loads.queue) :
    Move a { a with loads := { a.loads with queue := q } } :=
  queue q fun h4 h5 => ⟨h.length_le.trans h4, fun n => (h.count_le n).trans (h5 n)⟩

/-- A claim goes, or claims stay. -/
theorem claims {a : Seen} {claim : Level → SlotCode → Option Claim} (h : ∀ n c k, claim n c = some k → a.claim n c = some k) :
    Move a { a with claim := claim } := .drop claim a.asks h (List.Sublist.refl _)

end Move

namespace State

/-! ### What is seen of an update -/

theorem entry_setEntry (s : State) (h : Handle) (o : Option Entry) :
    (s.setEntry h o).entry = Function.update s.entry h o := by
  funext k
  by_cases hk : k = h
  · subst hk; simp
  · rw [entry_setEntry_ne _ _ _ _ (Ne.symm hk), Function.update_of_ne hk]

theorem seen_setEntry (s : State) (h : Handle) (o : Option Entry) :
    (s.setEntry h o).seen = { s.seen with table := Function.update s.entry h o } :=
  congrArg (fun t => { s.seen with table := t }) (s.entry_setEntry h o)

theorem seen_setLink (s : State) (x : Lift) (v : LinkRec) (hrx : v.rx = (s.link x).rx) :
    (s.setLink x v).seen = { s.seen with loads := { s.loads with
      down := Function.update s.loads.down x v.down.length
      forwarded := Function.update s.loads.forwarded x (v.down.filter (fun i => !i.own)).length } } := by
  have hp : (s.setLink x v).ports = s.ports := by
    refine congrArg (fun f => { s.ports with linkRx := f }) (funext fun y => ?_)
    by_cases hy : y = x
    · subst hy; simpa using hrx
    · rw [link_setLink_ne _ _ _ _ (Ne.symm hy)]
  have hl : (s.setLink x v).loads = { s.loads with
      down := Function.update s.loads.down x v.down.length
      forwarded := Function.update s.loads.forwarded x (v.down.filter (fun i => !i.own)).length } := by
    have hy (y : Lift) : (s.setLink x v).link y = Function.update s.link x v y := by
      by_cases hy : y = x
      · subst hy; simp
      · rw [link_setLink_ne _ _ _ _ (Ne.symm hy), Function.update_of_ne hy]
    refine congrArg₂ (fun d f => { s.loads with down := d, forwarded := f }) (funext fun y => ?_) (funext fun y => ?_) <;>
      rw [hy] <;> by_cases h : y = x <;> simp [h, loads]
  calc (s.setLink x v).seen = { s.seen with loads := (s.setLink x v).loads, ports := (s.setLink x v).ports } := rfl
    _ = _ := by rw [hp, hl]; rfl

theorem shuttle_setShuttle (s : State) (n : Level) (v : ShuttleRec) :
    (s.setShuttle n v).shuttle = Function.update s.shuttle n v := by
  funext m
  by_cases hm : m = n
  · subst hm; simp
  · rw [shuttle_setShuttle_ne _ _ _ _ (Ne.symm hm), Function.update_of_ne hm]

/-- What is seen of a change of a level's record. -/
theorem seen_setShuttle (s : State) (n : Level) (v : ShuttleRec) :
    (s.setShuttle n v).seen = { s.seen with
      loads := { s.loads with box := Function.update s.loads.box n v.box.length }
      sched := { s.sched with included := Function.update s.sched.included n v.presence.included } } := by
  have hb : (fun m => ((s.setShuttle n v).shuttle m).box.length) = Function.update s.loads.box n v.box.length := by
    rw [shuttle_setShuttle]; funext m; by_cases hm : m = n <;> simp [hm, loads]
  have hi : (fun m => ((s.setShuttle n v).shuttle m).presence.included)
      = Function.update s.sched.included n v.presence.included := by
    rw [shuttle_setShuttle]; funext m; by_cases hm : m = n <;> simp [hm, sched]
  calc (s.setShuttle n v).seen = { s.seen with
        loads := { s.loads with box := fun m => ((s.setShuttle n v).shuttle m).box.length }
        sched := { s.sched with included := fun m => ((s.setShuttle n v).shuttle m).presence.included } } := rfl
    _ = _ := by rw [hb, hi]

/-- What is seen of a change of a level's answer box. -/
theorem seen_setShuttle_box (s : State) (n : Level) (v : ShuttleRec) (hp : v.presence.included = (s.shuttle n).presence.included) :
    (s.setShuttle n v).seen = { s.seen with loads := { s.loads with box := Function.update s.loads.box n v.box.length } } := by
  have h : Function.update s.sched.included n v.presence.included = s.sched.included := by
    rw [hp]; exact Function.update_eq_self n s.sched.included
  rw [seen_setShuttle, h]; rfl

theorem lift_setLift (s : State) (x : Lift) (v : LiftRec) : (s.setLift x v).lift = Function.update s.lift x v := by
  funext y
  by_cases hy : y = x
  · subst hy; simp
  · rw [lift_setLift_ne _ _ _ _ (Ne.symm hy), Function.update_of_ne hy]

theorem seen_setLift (s : State) (x : Lift) (v : LiftRec) :
    (s.setLift x v).seen = { s.seen with visit := Function.update s.seen.visit x v.visit.isSome } := by
  refine congrArg (fun f => { s.seen with visit := f }) ?_
  rw [lift_setLift]; funext y; by_cases hy : y = x <;> simp [hy, seen]

/-- A lift's record changed but for whether a visit is open. -/
theorem seen_setLift_same (s : State) (x : Lift) (v : LiftRec) (hv : v.visit.isSome = (s.lift x).visit.isSome) :
    (s.setLift x v).seen = s.seen := by
  rw [seen_setLift, hv]
  have : Function.update s.seen.visit x (s.lift x).visit.isSome = s.seen.visit := Function.update_eq_self x s.seen.visit
  rw [this]

theorem stream_setStream (s : State) (i : StreamNo) (v : Stream) :
    (s.setStream i v).stream = Function.update s.stream i v := by
  funext k
  by_cases hk : k = i
  · subst hk; simp
  · rw [stream_setStream_ne _ _ _ _ (Ne.symm hk), Function.update_of_ne hk]

/-- A stream changed but for its row. -/
theorem tables_setStream (s : State) (i : StreamNo) (v : Stream) (hv : v.row = (s.stream i).row) :
    (s.setStream i v).tables = s.tables := by
  refine congrArg (fun f => { s.tables with rows := f }) (funext fun k => ?_)
  rw [stream_setStream]
  by_cases hk : k = i
  · subst hk; simpa using hv
  · simp [hk]

theorem seen_setStream (s : State) (i : StreamNo) (v : Stream) (hv : v.row = (s.stream i).row) :
    (s.setStream i v).seen = s.seen :=
  congrArg (fun t => { s.seen with tables := t }) (s.tables_setStream i v hv)

/-- The claims after a write of one slot. -/
theorem claim_setSlot (s : State) (n : Level) (c : SlotCode) (v : Slot) (m : Level) (d : SlotCode) :
    ((s.setSlot n c v).slot m d).claim = if (n, c) = (m, d) then v.claim else (s.slot m d).claim := by
  split
  · rename_i h
    obtain ⟨rfl, rfl⟩ := Prod.mk.inj h
    simp
  · rw [slot_setSlot_ne _ _ _ _ _ _ ‹_›]

theorem seen_setSlot (s : State) (n : Level) (c : SlotCode) (v : Slot) :
    (s.setSlot n c v).seen
      = { s.seen with claim := fun m d => if (n, c) = (m, d) then v.claim else (s.slot m d).claim } :=
  congrArg (fun f => { s.seen with claim := f }) (funext fun m => funext fun d => s.claim_setSlot n c v m d)

@[simp] theorem seen_touch (s : State) : s.touch.seen = s.seen := rfl
@[simp] theorem seen_wantReeval (s : State) : s.wantReeval.seen = s.seen := rfl
@[simp] theorem seen_raise (s : State) (c : FaultClass) (p : Option Party) : (s.raise c p).seen = s.seen := rfl
@[simp] theorem seen_setFaultRec (s : State) (c : FaultClass) (r : Option FaultRec) : (s.setFaultRec c r).seen = s.seen := rfl
@[simp] theorem seen_setLatchBit (s : State) (p : Party) (b : Bool) : (s.setLatchBit p b).seen = s.seen := rfl
@[simp] theorem seen_setLastExpired (s : State) (p : Party) (h : Option Handle) : (s.setLastExpired p h).seen = s.seen := rfl
@[simp] theorem seen_enterStat (s : State) (p : Party) (d : Stamp) : (s.enterStat p d).seen = s.seen := rfl

/-- A slot loses its claim or keeps it. -/
theorem runs_setSlot (s : State) (n : Level) (c : SlotCode) (v : Slot) (hv : v.claim = none ∨ v.claim = (s.slot n c).claim) :
    Runs s (s.setSlot n c v) := by
  refine .of_move (Move.claims fun m d k hk => ?_) (s.seen_setSlot n c v)
  split at hk
  · rename_i h
    obtain ⟨rfl, rfl⟩ := Prod.mk.inj h
    rcases hv with hv | hv <;> rw [hv] at hk
    · contradiction
    · exact hk
  · exact hk

/-- What is seen of a link with a longer or shorter queue. -/
theorem runs_setLink (s : State) (x : Lift) (v : LinkRec) (hrx : v.rx = (s.link x).rx)
    (h : (s.link x).down.length ≤ 8 ∧ ((s.link x).down.filter (fun i => !i.own)).length ≤ 6 →
      v.down.length ≤ 8 ∧ (v.down.filter (fun i => !i.own)).length ≤ 6) : Runs s (s.setLink x v) :=
  .of_move (Move.down x _ _ h) (s.seen_setLink x v hrx)

/-- Telegrams leave a lift's downstream queue. -/
theorem runs_setLink_sub (s : State) (x : Lift) (v : LinkRec) (hrx : v.rx = (s.link x).rx)
    (h : v.down.Sublist (s.link x).down) : Runs s (s.setLink x v) :=
  s.runs_setLink x v hrx fun ⟨h8, h6⟩ => ⟨h.length_le.trans h8, (h.filter _).length_le.trans h6⟩

/-- The controller's own telegram joins a lift's downstream queue that has a place. -/
theorem runs_setLink_own (s : State) (x : Lift) (t : Tel) (hp : (s.link x).down.length < Config.liftQueuePlaces) :
    Runs s (s.setLink x { s.link x with down := (s.link x).down ++ [{ tel := t, own := true, begun := false }] }) := by
  refine s.runs_setLink x _ rfl fun ⟨_, h6⟩ => ⟨?_, by simpa using h6⟩
  simpa [Config.liftQueuePlaces] using hp

theorem runs_setShuttle_box (s : State) (n : Level) (v : ShuttleRec) (hp : v.presence.included = (s.shuttle n).presence.included)
    (h : (s.shuttle n).box.length ≤ 2 → v.box.length ≤ 2) : Runs s (s.setShuttle n v) :=
  .of_move (Move.box n _ h) (s.seen_setShuttle_box n v hp)

/-! ### Telegrams -/

theorem runs_sendLift (s : State) (x : Lift) (t : Tel) : Runs s (s.sendLift x t) := by
  unfold sendLift
  dsimp only
  split
  · exact s.runs_setLink_own x t ‹_›
  · exact .refl

theorem runs_sendStateAsk (s : State) (x : Lift) : Runs s (s.sendStateAsk x) := by
  unfold sendStateAsk
  dsimp only
  split
  · exact s.runs_setLink_own x _ ‹_›
  · exact .refl

theorem length_replaceFirst {α : Type} (f : α → Bool) (v : α) (l : List α) : (replaceFirst f v l).length = l.length := by
  induction l with
  | nil => rfl
  | cons x l ih => unfold replaceFirst; split <;> simp [ih]

theorem length_putBox (box : List BoxItem) (t : Tel) (a : Option Handle) (h : box.length ≤ 2) :
    (putBox box t a).length ≤ 2 := by
  have hplace : (if box.length < Config.boxPlaces then box ++ [BoxItem.mk t false]
      else box.drop 1 ++ [BoxItem.mk t false]).length ≤ 2 := by
    unfold Config.boxPlaces
    split <;> simp <;> omega
  unfold putBox
  dsimp only
  split
  · split
    · rwa [length_replaceFirst]
    · exact hplace
  · exact hplace

theorem runs_sendShuttle (s : State) (n : Level) (t : Tel) (a : Option Handle) : Runs s (s.sendShuttle n t a) := by
  unfold sendShuttle
  dsimp only
  split
  case h_1 | h_2 => exact .refl
  all_goals exact s.runs_setShuttle_box n _ rfl fun h => length_putBox _ _ _ h

theorem runs_sendParty (s : State) (p : Party) (t : Tel) (a : Option Handle) : Runs s (s.sendParty p t a) := by
  cases p with
  | shuttle n => exact s.runs_sendShuttle n t a
  | lift x => exact s.runs_sendLift x t

theorem runs_refuse (s : State) (p : Party) (k : Byte) (r : Reason) (h tag : Byte) (a : Option Handle) :
    Runs s (s.refuse p k r h tag a) := s.runs_sendParty p _ a

theorem runs_refuseLift (s : State) (x : Lift) (k : Byte) (r : Reason) (tag : Byte) : Runs s (s.refuseLift x k r tag) :=
  s.runs_refuse _ _ _ _ _ _

theorem runs_sendGo (s : State) (h : Handle) (e : Entry) : Runs s (s.sendGo h e) := s.runs_sendParty _ _ _

theorem runs_sendHold (s : State) (h : Handle) (e : Entry) (r : Reason) : Runs s (s.sendHold h e r) := s.runs_sendParty _ _ _

theorem placeFree_iff (s : State) : s.placeFree = true ↔ s.store.upstream.length + (if s.work.reserved then 1 else 0) < 64 := by
  rw [placeFree, decide_eq_true_iff]
  rfl

theorem runs_pushUpstream (s : State) (t : Tel) (h : s.placeFree = true) : Runs s (s.pushUpstream t) := by
  refine .of_move (Move.upstream (s.store.upstream.length + 1) fun _ => ?_) ?_
  · have := s.placeFree_iff.mp h
    show s.store.upstream.length + 1 + (if s.work.reserved then 1 else 0) ≤ 64
    omega
  · exact congrArg (fun u => { s.seen with loads := { s.loads with upstream := u } }) (List.length_append ..)

theorem runs_sendNotForwarded (s : State) (r : Reason) (t : Tel) : Runs s (s.sendNotForwarded r t) := by
  unfold sendNotForwarded
  dsimp only
  split
  · exact s.runs_pushUpstream _ ‹_›
  · split
    · rename_i h
      refine .of_move (Move.nfWait (s.store.nfWait.length + 1) fun _ => ?_) ?_
      · exact h
      · exact congrArg (fun w => { s.seen with loads := { s.loads with nfWait := w } }) (List.length_append ..)
    · exact .refl

theorem seen_refreshNotice (s : State) : s.refreshNotice.seen = s.seen :=
  congrArg (fun u => { s.seen with loads := { s.loads with upstream := u } }) (List.length_map _)

theorem runs_makeNotice (s : State) : Runs s s.makeNotice := by
  unfold makeNotice
  dsimp only
  split
  · exact .of_eq s.seen_refreshNotice
  · split
    · exact s.runs_pushUpstream _ ‹_›
    · exact .refl

theorem runs_handFlag (s : State) (f : Flag) : Runs s (s.handFlag f) := by
  have hflag : Runs s { s with notices := NoticeUnit.make (s.notices.pending.put f) s.notices.enabled } :=
    .of_move (.flags (s.notices.pending.put f)) rfl
  unfold handFlag
  dsimp only
  split
  · exact hflag.trans (runs_makeNotice _)
  · exact hflag

theorem runs_setMode (s : State) (m : Mode)
    (h : m = .config → (∀ k, s.entry k = none) ∧ ∀ x, (s.lift x).visit = none) : Runs s (s.setMode m) := by
  refine .trans (.of_move (.mode m fun hm => ?_) rfl)
    (runs_handFlag { s with modeCtl := { s.modeCtl with mode := m, motion := m.permits } } .mode)
  obtain ⟨h1, h2⟩ := h hm
  exact ⟨h1, fun x => by simp [seen, h2 x]⟩

theorem runs_recordFault (s : State) (r : Raise) : Runs s (s.recordFault r) := by
  unfold recordFault
  split
  · exact runs_handFlag (s.setFaultRec _ _) .fault
  · exact .refl

theorem runs_flushQueue (s : State) (f : LevelItem → Bool) :
    Runs s { s with bus := { s.bus with queue := s.bus.queue.filter f } } :=
  .of_move (Move.queue_sub (List.filter_sublist.map _)) rfl

theorem runs_notForwardAll {α : Type} (g : α → Tel) (r : Reason) (l : List α) (s : State) :
    Runs s (l.foldl (fun s i => s.sendNotForwarded r (g i)) s) :=
  .foldl (fun s i => s.runs_sendNotForwarded r (g i)) l s

theorem runs_flushLevel (s : State) (n : Level) (r : Reason) : Runs s (s.flushLevel n r) :=
  (s.runs_flushQueue _).trans (runs_notForwardAll (fun i : LevelItem => i.tel) r _ _)

theorem runs_emptyBox (s : State) (n : Level) : Runs s (s.emptyBox n) :=
  s.runs_setShuttle_box n _ rfl fun _ => Nat.zero_le _

theorem runs_flushLift (s : State) (x : Lift) : Runs s (s.flushLift x) :=
  (s.runs_setLink_sub x { s.link x with down := (s.link x).down.filter (fun i => i.own || i.begun) } rfl
    List.filter_sublist).trans (runs_notForwardAll (fun i : DownItem => i.tel) .service _ _)

theorem runs_withdrawGos (s : State) (p : Party) : Runs s (s.withdrawGos p) := by
  cases p with
  | shuttle n => exact s.runs_setShuttle_box n _ rfl fun h => (List.length_filter_le _ _).trans h
  | lift x => exact s.runs_setLink_sub x _ rfl List.filter_sublist

theorem runs_withdrawAllGos (s : State) : Runs s s.withdrawAllGos := by
  unfold withdrawAllGos
  refine .trans (.trans (Runs.foldl (fun s n => ?_) allLevels s) (runs_withdrawGos _ _)) (runs_withdrawGos _ _)
  split
  · exact .refl
  · exact s.runs_withdrawGos _

theorem runs_enterHalt (s : State) : Runs s s.enterHalt := by
  have hhalt : Runs s (s.setMode .halt).withdrawAllGos :=
    (s.runs_setMode .halt fun h => nomatch h).trans (runs_withdrawAllGos _)
  unfold enterHalt
  split
  case h_1 | h_2 => exact .refl
  all_goals exact hhalt

end State

end Sys2Proof.Machine

namespace Sys2Proof.Machine

namespace State

/-! ### Streams -/

theorem seen_changeRel (s : State) (i : StreamNo) (id : ToteId) (f : RelEntry → RelEntry) :
    (s.changeRel i id f).seen = s.seen := s.seen_setStream i _ rfl

/-- A fold of an operation on what no invariant looks at. -/
theorem seen_foldl {α : Type} {f : State → α → State} (hf : ∀ s a, (f s a).seen = s.seen) (l : List α) (s : State) :
    (l.foldl f s).seen = s.seen := by
  induction l generalizing s with
  | nil => rfl
  | cons a l ih => rw [List.foldl_cons, ih, hf]

theorem seen_pledge (s : State) (items : List Item) : (s.pledge items).seen = s.seen := by
  refine seen_foldl (fun s i => ?_) items s
  split
  · split
    · rfl
    · exact s.seen_changeRel _ _ _
  · rfl

theorem seen_unpledge (s : State) (items : List Item) : (s.unpledge items).seen = s.seen := by
  refine seen_foldl (fun s i => ?_) items s
  split
  · split
    · rfl
    · exact s.seen_changeRel _ _ _
  · rfl

theorem seen_bar (s : State) (r : ToteRec) : (s.bar r).seen = s.seen := by
  unfold bar
  split
  · split
    · rfl
    · exact s.seen_changeRel _ _ _
  · rfl

theorem seen_deliver (s : State) (r : ToteRec) : (s.deliver r).seen = s.seen := by
  unfold deliver
  split
  · split
    · rfl
    · exact s.seen_setStream _ _ rfl
  · rfl

theorem runs_setStream (s : State) (i : StreamNo) (v : Stream) (hv : v.row = (s.stream i).row) : Runs s (s.setStream i v) :=
  .of_eq (s.seen_setStream i v hv)

/-- A lift's record changed but for whether a visit is open. -/
theorem runs_setLift_same (s : State) (x : Lift) (v : LiftRec) (hv : v.visit.isSome = (s.lift x).visit.isSome) :
    Runs s (s.setLift x v) := .of_eq (s.seen_setLift_same x v hv)

theorem runs_shrinkList (s : State) (i : StreamNo) (l : List RelEntry) : Runs s (s.shrinkList i l) := by
  unfold shrinkList
  dsimp only
  split
  · refine .trans ?_ (runs_handFlag _ _)
    exact .of_eq (s.seen_setStream i _ rfl)
  · exact .of_eq (s.seen_setStream i _ rfl)

theorem seen_evalStream (s : State) (i : StreamNo) : (s.evalStream i).seen = s.seen := by
  unfold evalStream
  dsimp only
  split
  · split
    · exact s.seen_setStream i _ rfl
    · rfl
  · split <;> exact s.seen_setStream i _ rfl

theorem seen_evalStreams (s : State) : s.evalStreams.seen = s.seen := seen_foldl seen_evalStream _ s

theorem seen_updateCalls (s : State) : s.updateCalls.seen = s.seen :=
  congrArg (fun f => { s.seen with visit := f }) (funext fun x => by cases x <;> rfl)

/-! ### Slots -/

/-- An operation that changes slots alone. -/
theorem foldl_slots_eq {α : Type} {f : State → α → State} (hf : ∀ s a, f s a = { s with slots := (f s a).slots })
    (l : List α) (s : State) : l.foldl f s = { s with slots := (l.foldl f s).slots } := by
  induction l generalizing s with
  | nil => rfl
  | cons a l ih =>
    rw [List.foldl_cons, ih (f s a), hf s a]

theorem takeClaim_eq (s : State) (n : Level) (c : SlotCode) (k : Claim) :
    s.takeClaim n c k = { s with slots := (s.takeClaim n c k).slots } := by
  unfold takeClaim
  split <;> rfl

theorem takeClaims_eq (s : State) (h : Handle) (k : Kind) (items : List Item) :
    s.takeClaims h k items = { s with slots := (s.takeClaims h k items).slots } := by
  refine foldl_slots_eq (fun s i => ?_) items s
  split
  · exact s.takeClaim_eq _ _ _
  · rfl

theorem releaseClaim_eq (s : State) (n : Level) (c : SlotCode) (h : Handle) :
    s.releaseClaim n c h = { s with slots := (s.releaseClaim n c h).slots } := by
  unfold releaseClaim
  split
  · split <;> rfl
  all_goals rfl

theorem releaseClaims_eq (s : State) (h : Handle) (items : List Item) :
    s.releaseClaims h items = { s with slots := (s.releaseClaims h items).slots } := by
  refine foldl_slots_eq (fun s i => ?_) items s
  split
  · exact s.releaseClaim_eq _ _ _
  · rfl

/-- A claim that stands after one has been taken stood before, or is the one taken. -/
theorem claim_takeClaim {s : State} {n m : Level} {c d : SlotCode} {k q : Claim}
    (h : ((s.takeClaim n c k).slot m d).claim = some q) :
    (s.slot m d).claim = some q ∨ (q = k ∧ (n, c) = (m, d)) := by
  unfold takeClaim at h
  split at h
  · rw [claim_setSlot] at h
    split at h
    · cases h; exact .inr ⟨rfl, ‹_›⟩
    · exact .inl h
  all_goals exact .inl h

theorem takeClaims_cons_some (s : State) (h : Handle) (k : Kind) {i : Item} {n : Level} {c : SlotCode} (items : List Item)
    (hi : i.slot = some (n, c)) : s.takeClaims h k (i :: items)
      = (s.takeClaim n c { kind := k, handle := h, toteId := i.tote.id }).takeClaims h k items := by
  simp [takeClaims, hi]

theorem takeClaims_cons_none (s : State) (h : Handle) (k : Kind) {i : Item} (items : List Item) (hi : i.slot = none) :
    s.takeClaims h k (i :: items) = s.takeClaims h k items := by
  simp [takeClaims, hi]

/-- A claim that stands after an entry's items have been claimed stood before, or is one for an item. -/
theorem claim_takeClaims {s : State} {h : Handle} {kind : Kind} {items : List Item} {n : Level} {c : SlotCode} {q : Claim}
    (hq : ((s.takeClaims h kind items).slot n c).claim = some q) :
    (s.slot n c).claim = some q
      ∨ (q.handle = h ∧ q.kind = kind ∧ ∃ i ∈ items, i.slot = some (n, c) ∧ i.tote.id = q.toteId) := by
  induction items generalizing s with
  | nil => exact .inl hq
  | cons i items ih =>
    have later {u : State} (hu : ((u.takeClaims h kind items).slot n c).claim = some q) : (u.slot n c).claim = some q
        ∨ (q.handle = h ∧ q.kind = kind ∧ ∃ j ∈ i :: items, j.slot = some (n, c) ∧ j.tote.id = q.toteId) :=
      (ih hu).imp id fun ⟨h1, h2, j, hj, h3⟩ => ⟨h1, h2, j, List.mem_cons_of_mem _ hj, h3⟩
    cases hi : i.slot with
    | none => exact later (s.takeClaims_cons_none h kind items hi ▸ hq)
    | some a =>
      obtain ⟨m, d⟩ := a
      rcases later (s.takeClaims_cons_some h kind items hi ▸ hq) with h1 | h1
      · rcases claim_takeClaim h1 with h1 | ⟨rfl, heq⟩
        · exact .inl h1
        · exact .inr ⟨rfl, rfl, i, List.mem_cons_self, hi.trans (congrArg some heq), rfl⟩
      · exact .inr h1

theorem claim_releaseClaim {s : State} {n m : Level} {c d : SlotCode} {h : Handle} {q : Claim}
    (hq : ((s.releaseClaim n c h).slot m d).claim = some q) :
    (s.slot m d).claim = some q ∧ (q.handle = h → (n, c) ≠ (m, d)) := by
  unfold releaseClaim at hq
  split at hq
  next content k hk =>
    split at hq
    next hkh =>
      rw [claim_setSlot] at hq
      split at hq
      · contradiction
      · exact ⟨hq, fun _ => ‹_›⟩
    next hkh =>
      refine ⟨hq, fun hqh heq => hkh ?_⟩
      obtain ⟨rfl, rfl⟩ := Prod.mk.inj heq
      rw [hk] at hq
      cases hq
      exact hqh
  all_goals
    rename_i hs
    refine ⟨hq, fun _ heq => ?_⟩
    obtain ⟨rfl, rfl⟩ := Prod.mk.inj heq
    rw [hs] at hq
    contradiction

theorem releaseClaims_cons_some (s : State) (h : Handle) {i : Item} {n : Level} {c : SlotCode} (items : List Item)
    (hi : i.slot = some (n, c)) : s.releaseClaims h (i :: items) = (s.releaseClaim n c h).releaseClaims h items := by
  simp [releaseClaims, hi]

theorem releaseClaims_cons_none (s : State) (h : Handle) {i : Item} (items : List Item) (hi : i.slot = none) :
    s.releaseClaims h (i :: items) = s.releaseClaims h items := by
  simp [releaseClaims, hi]

/-- After the claims of an entry's items have been released, a claim of that entry stands at none of their slots. -/
theorem claim_releaseClaims {s : State} {h : Handle} {items : List Item} {n : Level} {c : SlotCode} {q : Claim}
    (hq : ((s.releaseClaims h items).slot n c).claim = some q) :
    (s.slot n c).claim = some q ∧ (q.handle = h → ∀ i ∈ items, i.slot ≠ some (n, c)) := by
  induction items generalizing s with
  | nil => exact ⟨hq, by simp⟩
  | cons i items ih =>
    cases hi : i.slot with
    | none =>
      obtain ⟨h1, hrest⟩ := ih (s.releaseClaims_cons_none h items hi ▸ hq)
      exact ⟨h1, fun hqh => List.forall_mem_cons.mpr ⟨by simp [hi], hrest hqh⟩⟩
    | some a =>
      obtain ⟨m, d⟩ := a
      obtain ⟨h1, hrest⟩ := ih (s.releaseClaims_cons_some h items hi ▸ hq)
      obtain ⟨h2, hne⟩ := claim_releaseClaim h1
      exact ⟨h2, fun hqh => List.forall_mem_cons.mpr
        ⟨fun heq => hne hqh (Option.some.inj (hi.symm.trans heq)), hrest hqh⟩⟩

theorem runs_doubtClaim (s : State) (n : Level) (c : SlotCode) (h : Handle) (p : Party) (d : DoubtCause) :
    Runs s (s.doubtClaim n c h p d) := by
  unfold doubtClaim
  split
  · split
    · exact s.runs_setSlot n c _ (.inl rfl)
    · exact .refl
  all_goals exact .refl

theorem runs_doubtClaims (s : State) (h : Handle) (p : Party) (d : DoubtCause) (items : List Item) :
    Runs s (s.doubtClaims h p d items) := by
  refine Runs.foldl (fun s i => ?_) items s
  split
  · exact s.runs_doubtClaim _ _ _ _ _
  · exact .refl

theorem runs_doubtEntry (s : State) (h : Handle) (e : Entry) (d : DoubtCause) : Runs s (s.doubtEntry h e d) :=
  s.runs_doubtClaims h e.party d e.items

theorem runs_moveSlots (s : State) (k : Kind) (items : List Item) : Runs s (s.moveSlots k items) := by
  refine Runs.foldl (fun s i => ?_) items s
  split
  · exact s.runs_setSlot _ _ _ (.inl rfl)
  · exact .refl

theorem claim_report (p : Party) (h : Handle) (id : ToteId) (v : Slot) : (v.report p h id).claim = v.claim := by
  unfold Slot.report
  split <;> try rfl
  split <;> rfl

theorem claim_reportAll (p : Party) (h : Handle) (ids : List ToteId) (v : Slot) :
    (ids.foldl (fun v id => v.report p h id) v).claim = v.claim := by
  induction ids generalizing v with
  | nil => rfl
  | cons id ids ih => rw [List.foldl_cons, ih, claim_report]

/-- An item of a vector with every item changed. -/
@[simp] theorem getElem_vmap {α β : Type} {n : Nat} (v : Vector α n) (f : Fin n → α → β) (i : Nat) (hi : i < n) :
    (vmap v f)[i] = f ⟨i, hi⟩ v[i] := by
  simp [vmap]

/-- A slot after a change of every slot. -/
theorem slot_vmap (s : State) (f : Level → SlotCode → Slot → Slot) (n : Level) (c : SlotCode) :
    State.slot { s with slots := vmap s.slots (fun n l => l.map (f n)) } n c = f n c (s.slot n c) := by
  unfold slot
  simp only [Fin.getElem_fin, getElem_vmap]
  cases c <;> rfl

theorem seen_reportTotes (s : State) (p : Party) (h : Handle) (ids : List ToteId) : (s.reportTotes p h ids).seen = s.seen := by
  refine congrArg (fun f => { s.seen with claim := f }) (funext fun n => funext fun c => ?_)
  show (State.slot { s with slots := _ } n c).claim = _
  rw [s.slot_vmap (fun _ _ v => ids.foldl (fun v id => v.report p h id) v) n c, claim_reportAll]

/-! ### The table after a telegram and other operations -/

theorem entry_of_seen {s t : State} (h : t.seen = s.seen) : t.entry = s.entry := congrArg Seen.table h

theorem table_foldl {α : Type} {f : State → α → State} (hf : ∀ s a, (f s a).table = s.table) (l : List α) (s : State) :
    (l.foldl f s).table = s.table := by
  induction l generalizing s with
  | nil => rfl
  | cons a l ih => rw [List.foldl_cons, ih, hf]

theorem entry_of_table {s t : State} (h : t.table = s.table) (k : Handle) : t.entry k = s.entry k := by
  unfold entry
  rw [h]

@[simp] theorem table_sendLift (s : State) (x : Lift) (t : Tel) : (s.sendLift x t).table = s.table := by
  unfold sendLift
  dsimp only
  split <;> rfl

@[simp] theorem table_sendShuttle (s : State) (n : Level) (t : Tel) (a : Option Handle) :
    (s.sendShuttle n t a).table = s.table := by
  unfold sendShuttle
  dsimp only
  split <;> rfl

@[simp] theorem table_sendParty (s : State) (p : Party) (t : Tel) (a : Option Handle) :
    (s.sendParty p t a).table = s.table := by cases p <;> simp [sendParty]

@[simp] theorem table_refuse (s : State) (p : Party) (k : Byte) (r : Reason) (h tag : Byte) (a : Option Handle) :
    (s.refuse p k r h tag a).table = s.table := by simp [refuse]

@[simp] theorem table_makeNotice (s : State) : s.makeNotice.table = s.table := by
  unfold makeNotice
  dsimp only
  split
  · rfl
  · split <;> rfl

@[simp] theorem table_handFlag (s : State) (f : Flag) : (s.handFlag f).table = s.table := by
  unfold handFlag
  dsimp only
  split
  · rw [table_makeNotice]
  · rfl

@[simp] theorem table_setMode (s : State) (m : Mode) : (s.setMode m).table = s.table := by
  unfold setMode
  rw [table_handFlag]

@[simp] theorem table_checkDrain (s : State) : s.checkDrain.table = s.table := by
  unfold checkDrain
  split
  · rw [table_setMode]
  · rfl

@[simp] theorem table_withdrawGos (s : State) (p : Party) : (s.withdrawGos p).table = s.table := by
  cases p <;> rfl

@[simp] theorem table_releaseClaims (s : State) (h : Handle) (items : List Item) :
    (s.releaseClaims h items).table = s.table := by rw [releaseClaims_eq]

@[simp] theorem table_unpledge (s : State) (items : List Item) : (s.unpledge items).table = s.table := by
  refine table_foldl (fun s i => ?_) items s
  split
  · split <;> rfl
  · rfl

@[simp] theorem table_doubtClaims (s : State) (h : Handle) (p : Party) (d : DoubtCause) (items : List Item) :
    (s.doubtClaims h p d items).table = s.table := by
  refine table_foldl (fun s i => ?_) items s
  split
  · unfold doubtClaim
    split
    · split <;> rfl
    all_goals rfl
  · rfl

@[simp] theorem table_doubtEntry (s : State) (h : Handle) (e : Entry) (d : DoubtCause) :
    (s.doubtEntry h e d).table = s.table := by simp [doubtEntry]

@[simp] theorem table_moveSlots (s : State) (k : Kind) (items : List Item) : (s.moveSlots k items).table = s.table := by
  refine table_foldl (fun s i => ?_) items s
  split <;> rfl

@[simp] theorem table_shrinkList (s : State) (i : StreamNo) (l : List RelEntry) : (s.shrinkList i l).table = s.table := by
  unfold shrinkList
  dsimp only
  split
  · rw [table_handFlag]; rfl
  · rfl

@[simp] theorem table_releaseAll (s : State) (items : List Item) : (s.releaseAll items).table = s.table := by
  refine table_foldl (fun s i => ?_) _ s
  unfold releaseFetched
  dsimp only
  split
  · rfl
  · rw [setStream_table, table_shrinkList]

@[simp] theorem table_moveCarriage (s : State) (p : Party) (k : Kind) (items : List Item) :
    (s.moveCarriage p k items).table = s.table := by
  unfold moveCarriage
  dsimp only
  repeat' split
  all_goals simp

@[simp] theorem table_enterStat (s : State) (p : Party) (d : Stamp) : (s.enterStat p d).table = s.table := rfl

@[simp] theorem table_dropConfirmAsks (s : State) (h : Handle) : (s.dropConfirmAsks h).table = s.table := rfl

/-- The entry found for a party is in the table. -/
theorem entry_of_entryOf {s : State} {p : Party} {h : Handle} {e : Entry} (hf : s.entryOf p = some (h, e)) :
    s.entry h = some e ∧ e.party = p := by
  obtain ⟨hp, hmem⟩ := And.intro (List.find?_some hf) (List.mem_of_find?_eq_some hf)
  exact ⟨(s.mem_entries_iff h e).mp hmem, of_decide_eq_true hp⟩

/-! ### Removal of an entry, end of a visit -/

theorem entry_eq_none_of_isEmpty {s : State} (h : s.entries.isEmpty = true) (k : Handle) : s.entry k = none := by
  rw [Option.eq_none_iff_forall_ne_some]
  intro e he
  have := (s.mem_entries_iff k e).mpr he
  rw [List.isEmpty_iff.mp h] at this
  contradiction

theorem visit_eq_none_of_openVisits {s : State} (h : s.openVisits = 0) (x : Lift) : (s.lift x).visit = none := by
  have := List.filter_eq_nil_iff.mp (List.eq_nil_of_length_eq_zero h) x (by cases x <;> simp [bothLifts])
  simpa using this

theorem runs_checkDrain (s : State) : Runs s s.checkDrain := by
  unfold checkDrain
  split
  next h =>
    obtain ⟨-, he, hv⟩ := h
    exact s.runs_setMode .config fun _ => ⟨entry_eq_none_of_isEmpty he, visit_eq_none_of_openVisits hv⟩
  · exact .refl

theorem entry_removeEntry (s : State) (h : Handle) (e : Entry) :
    (s.removeEntry h e).entry = Function.update s.entry h none := by
  have htable : (s.removeEntry h e).table = s.table.set h none := by
    unfold removeEntry
    dsimp only
    rw [table_checkDrain, wantReeval_table]
    show (Vector.set (State.table (State.dropConfirmAsks _ h)) h none) = _
    rw [table_dropConfirmAsks]
    split <;> simp
  rw [← entry_setEntry]
  funext k
  exact entry_of_table htable k

theorem entry_refuseEntry (s : State) (h : Handle) (e : Entry) (r : Reason) :
    (s.refuseEntry h e r).entry = Function.update s.entry h none := by
  unfold refuseEntry
  rw [entry_removeEntry]
  congr 1
  funext k
  exact entry_of_table (s.table_refuse _ _ _ _ _ _) k

theorem runs_removeEntry {s : State} {h : Handle} {e : Entry} (he : s.entry h = some e) : Runs s (s.removeEntry h e) := by
  unfold removeEntry
  dsimp only
  refine .trans ?_ (runs_checkDrain _)
  refine .of_move (Move.remove h e (fun n c => ((s.releaseClaims h e.items).slot n c).claim) he
    fun n c k hk => claim_releaseClaims hk) ?_
  have hseen : (if e.isLiftFetch && e.phase.isGranted then (s.releaseClaims h e.items).unpledge e.items
      else s.releaseClaims h e.items).seen
      = { s.seen with claim := fun n c => ((s.releaseClaims h e.items).slot n c).claim } := by
    have hrel : (s.releaseClaims h e.items).seen
        = { s.seen with claim := fun n c => ((s.releaseClaims h e.items).slot n c).claim } := by
      rw [releaseClaims_eq]; rfl
    split
    · rw [seen_unpledge, hrel]
    · exact hrel
  generalize (if e.isLiftFetch && e.phase.isGranted then (s.releaseClaims h e.items).unpledge e.items
    else s.releaseClaims h e.items) = u at hseen ⊢
  rw [seen_wantReeval, seen_setEntry]
  show { u.seen with table := Function.update u.seen.table h none, asks := u.seen.asks.filter (fun t => !t.asksAbout h) } = _
  rw [hseen]

theorem runs_refuseEntry {s : State} {h : Handle} {e : Entry} (he : s.entry h = some e) (r : Reason) :
    Runs s (s.refuseEntry h e r) := by
  refine (s.runs_refuse _ _ _ _ _ _).trans (runs_removeEntry ?_)
  rw [entry_of_table (s.table_refuse _ _ _ _ _ _), he]

theorem runs_endVisit (s : State) (x : Lift) (t : Option Byte) : Runs s (s.endVisit x t) := by
  have closed (u : State) : Runs u (u.setLift x { u.lift x with visit := none }) :=
    .of_move (Move.visit x false (by simp)) (u.seen_setLift x _)
  unfold endVisit
  split
  · exact .refl
  · exact (s.runs_sendLift x _).trans ((closed _).trans (runs_checkDrain _))

/-! ### Grants, holds, confirmations -/

theorem Fits.of_waiting {s : State} {h : Handle} {e : Entry} (he : s.entry h = some e) (hw : e.isWaiting = true) :
    s.seen.Fits h e.party where
  accepts := .inl ⟨e, he, rfl⟩
  ungranted f hf := by
    obtain rfl : e = f := Option.some.inj (he.symm.trans hf)
    exact Seen.Entry.granted_of_waiting hw
  unasked := .inl fun f hf => by
    obtain rfl : e = f := Option.some.inj (he.symm.trans hf)
    exact Seen.Entry.confirmsLift_of_waiting hw

theorem Fits.of_free {s : State} {h : Handle} {p : Party} (hm : s.mode = .run) (he : s.entry h = none)
    (hp : s.Entryless p) : s.seen.Fits h p where
  accepts := .inr ⟨hm, he, hp⟩
  ungranted _ hf := nomatch he.symm.trans hf
  unasked := .inl fun _ hf => nomatch he.symm.trans hf

theorem runs_grant {s : State} {h : Handle} {e : Entry} (fits : s.seen.Fits h e.party) (items : List Item) :
    Runs s (s.grant h e items) := by
  unfold grant
  dsimp only
  refine .trans (.trans (.of_move (Move.grant h (e.granted s.time s.timing items)
    (fun n c => ((s.takeClaims h e.kind items).slot n c).claim) fits rfl ?_) ?_)
    (runs_sendGo _ _ _)) (.of_eq (seen_touch _))
  · intro n c k hk
    exact (claim_takeClaims hk).imp id fun ⟨h1, h2, h3⟩ => ⟨h1, rfl, h2.symm, h3⟩
  · have hset : ((s.takeClaims h e.kind items).setEntry h (some (e.granted s.time s.timing items))).seen
        = { s.seen with
          table := Function.update s.entry h (some (e.granted s.time s.timing items))
          claim := fun n c => ((s.takeClaims h e.kind items).slot n c).claim } := by
      rw [seen_setEntry, takeClaims_eq]; rfl
    split
    · rw [seen_pledge, hset]; rfl
    · rw [hset]; rfl

theorem runs_hold {s : State} {h : Handle} {e : Entry} (fits : s.seen.Fits h e.party) (r : Reason) :
    Runs s (s.hold h e r) :=
  .trans (.of_move (Move.wait h (e.held s.timing r) fits rfl) (seen_setEntry _ _ _)) (runs_sendHold _ _ _ _)

/-- Where only the queues have changed, they are those of the new state. -/
theorem seen_with_loads {s t : State} {l : Loads} (h : t.seen = { s.seen with loads := l }) :
    t.seen = { s.seen with loads := t.loads } := by
  rw [show t.loads = l from congrArg Seen.loads h]
  exact h

/-- What a telegram to a party changes of what is seen. -/
theorem seen_sendParty (s : State) (p : Party) (t : Tel) (a : Option Handle) :
    (s.sendParty p t a).seen = { s.seen with loads := (s.sendParty p t a).loads } := by
  cases p with
  | shuttle n =>
    unfold sendParty sendShuttle
    dsimp only
    split
    case h_1 | h_2 => rfl
    all_goals exact seen_with_loads (s.seen_setShuttle_box n _ rfl)
  | lift x =>
    unfold sendParty sendLift
    dsimp only
    split
    · exact seen_with_loads (s.seen_setLink x _ rfl)
    · rfl

/-- The CONFIRM-ASKs of an entry join the upstream queue, or stay unsent with the confirm unit (R107). -/
theorem seen_sendConfirmAsks {f : State → Item → Tel} {h : Handle} (hf : ∀ s i, (f s i).asksAbout h = true)
    (items : List Item) (s : State) : ∃ (l : List Tel) (u : Nat),
      (items.foldl (fun s i => if i.conf = .asked then s.sendConfirmAsk (f s i) else s) s).seen
        = { s.seen with asks := s.unsentAsks ++ l, loads := { s.loads with upstream := u } }
      ∧ l.length ≤ items.length ∧ (∀ t ∈ l, t.asksAbout h = true)
      ∧ (s.seen.Places → Seen.Places { s.seen with loads := { s.loads with upstream := u } }) := by
  induction items generalizing s with
  | nil => exact ⟨[], s.store.upstream.length, by simp; rfl, le_rfl, by simp, id⟩
  | cons i items ih =>
    rw [List.foldl_cons]
    by_cases hc : i.conf = .asked
    · rw [if_pos hc]
      by_cases hfree : s.placeFree = true
      · rw [sendConfirmAsk, if_pos hfree]
        obtain ⟨l, u, hseen, hlen, habout, hplaces⟩ := ih (s.pushUpstream (f s i))
        refine ⟨l, u, hseen, hlen.trans (Nat.le_succ _), habout, fun hp => ?_⟩
        exact hplaces (Moves.keep (fun _ _ => Seen.Places.move) (s.runs_pushUpstream (f s i) hfree) hp)
      · rw [sendConfirmAsk, if_neg hfree]
        obtain ⟨l, u, hseen, hlen, habout, hplaces⟩ := ih { s with unsentAsks := s.unsentAsks ++ [f s i] }
        refine ⟨f s i :: l, u, ?_, Nat.succ_le_succ hlen, List.forall_mem_cons.mpr ⟨hf s i, habout⟩, hplaces⟩
        rw [hseen, List.append_cons s.unsentAsks (f s i) l]
        rfl
    · rw [if_neg hc]
      obtain ⟨l, u, hseen, hlen, hrest⟩ := ih s
      exact ⟨l, u, hseen, hlen.trans (Nat.le_succ _), hrest⟩

theorem runs_enterConfirming {s : State} {h : Handle} {e : Entry} {x : Lift} {items : List Item}
    (fits : s.seen.Fits h e.party) (hp : e.party = .lift x) (two : items.length ≤ 2) :
    Runs s (s.enterConfirming h e items) := by
  let e' : Entry := { e with phase := .confirming, items := items, timer := s.timing.confirmLimit.zeroExtend 32 }
  let u := (s.setEntry h (some e')).sendHold h e' .confirm
  have hconfirms : e'.confirmsLift = true := by simp [e', Entry.confirmsLift, hp]
  obtain ⟨l, up, hseen, hlen, habout, hplaces⟩ :=
    seen_sendConfirmAsks (f := fun s i => s.confirmAskOf h e' i) (h := h) (fun s i => decide_eq_true rfl) items u
  have hu : u.seen = { s.seen with table := Function.update s.entry h (some e'), loads := u.loads } := by
    rw [show u.seen = { (s.setEntry h (some e')).seen with loads := u.loads } from seen_sendParty _ _ _ _, seen_setEntry]
  have hfinal : (s.enterConfirming h e items).seen = { s.seen with
      table := Function.update s.entry h (some e'), asks := s.unsentAsks ++ l
      loads := { u.loads with upstream := up } } := by
    refine Eq.trans (b := (items.foldl (fun s i => if i.conf = .asked then s.sendConfirmAsk (s.confirmAskOf h e' i) else s)
      u).seen) rfl ?_
    rw [hseen, hu, show u.unsentAsks = s.unsentAsks from congrArg Seen.asks hu]
  have hloads : Move { s.seen with table := Function.update s.entry h (some e'), asks := s.unsentAsks ++ l }
      { s.seen with
        table := Function.update s.entry h (some e'), asks := s.unsentAsks ++ l
        loads := { u.loads with upstream := up } } :=
    Move.loads { u.loads with upstream := up } fun hs => by
      have hplace := hplaces (Moves.keep (fun _ _ => Seen.Places.move) (a := (s.setEntry h (some e')).seen)
        (runs_sendHold (s.setEntry h (some e')) h e' .confirm) hs)
      rw [hu] at hplace
      exact hplace
  unfold Runs
  rw [hfinal]
  exact .trans (.single (Move.confirm h e' l fits hconfirms two hlen habout)) (.single hloads)

end State

end Sys2Proof.Machine

namespace Sys2Proof.Machine

namespace State

/-! ### The hold queue and the end of a step -/

theorem length_sortBy {α : Type} (before : α → α → Bool) (l : List α) : (sortBy before l).length = l.length := by
  have hinsert (x : α) (l : List α) : (insertBy before x l).length = l.length + 1 := by
    induction l with
    | nil => rfl
    | cons y l ih => unfold insertBy; split <;> simp [ih]
  induction l with
  | nil => rfl
  | cons x l ih => rw [sortBy, hinsert, ih, List.length_cons]

/-- Check 10 asks for confirmations for a lift alone, and of at most two totes (R36, R62). -/
theorem lift_of_verdict_confirm {s : State} {e : Entry} {items : List Item} (h : s.verdict e = .confirm items) :
    (∃ x, e.party = .lift x) ∧ items.length ≤ 2 := by
  unfold verdict at h
  split at h
  case h_1 =>
    split at h
    · contradiction
    · unfold chooseShuttlePlace at h
      repeat' split at h
      all_goals contradiction
  case h_2 =>
    unfold chooseShuttleFetch at h
    split at h <;> contradiction
  case h_3 =>
    split at h
    · contradiction
    · unfold chooseLiftPlace at h
      split at h <;> contradiction
  case h_4 _ _ x hp _ =>
    split at h
    · contradiction
    next v _ =>
      unfold chooseLiftFetch at h
      dsimp only at h
      repeat' split at h
      all_goals cases h
      refine ⟨⟨x, hp⟩, ?_⟩
      rw [List.length_map, List.length_take]
      unfold LiftRec.freePlaces
      omega

theorem isWaiting_iff (e : Entry) : e.isWaiting = true ↔ ∃ r, e.phase = .waiting r := by
  unfold Entry.isWaiting
  split <;> simp_all

theorem runs_reevalEntry (s : State) (h : Handle) : Runs s (s.reevalEntry h) := by
  unfold reevalEntry
  split
  · exact .refl
  next e he =>
    split
    next hw =>
      split
      · exact runs_refuseEntry he _
      · split
        · exact runs_grant (Fits.of_waiting he hw) _
        next items hv =>
          obtain ⟨⟨x, hx⟩, two⟩ := lift_of_verdict_confirm hv
          exact runs_enterConfirming (Fits.of_waiting he hw) hx two
        next r _ =>
          refine .of_move (Move.change h e { e with phase := .waiting r } he rfl ?_ ?_ ?_ rfl) (s.seen_setEntry h _)
          · exact (Seen.Entry.granted_of_waiting hw).symm
          · simp [Seen.Entry.granted_of_waiting hw]
          · exact (Seen.Entry.confirmsLift_of_waiting hw).symm
    · exact .refl

theorem runs_reevaluate (s : State) : Runs s s.reevaluate := by
  unfold reevaluate
  split
  · exact Runs.foldl runs_reevalEntry _ s
  · exact .refl

theorem runs_settle (s : State) : Runs s s.settle := by
  have hreeval (u : State) : Runs u (if u.work.reeval then u.reevaluate else u) := by
    split
    exacts [u.runs_reevaluate, .refl]
  have hdone (u : State) : Runs u { u with work := { u.work with touched := false, reeval := false } } := .of_eq rfl
  unfold settle
  split
  · dsimp only
    refine .trans ?_ (hdone _)
    refine .trans ?_ (.of_eq (seen_updateCalls _))
    exact .trans (.of_eq s.seen_evalStreams) (hreeval _)
  · exact .refl

theorem runs_setLatch (s : State) (p : Party) : Runs s (s.setLatch p) := by
  unfold setLatch
  split
  · exact .refl
  · dsimp only
    have hlatch : Runs s (s.setLatchBit p true) := .of_eq rfl
    split
    · exact hlatch.trans (runs_withdrawGos _ p)
    next h e he =>
      have hentry : ((s.setLatchBit p true).withdrawGos p).entry h = some e := by
        rw [entry_of_table (table_withdrawGos _ _)]
        exact (entry_of_entryOf he).1
      have hwithdrawn := hlatch.trans (runs_withdrawGos _ p)
      split
      · exact hwithdrawn.trans (runs_refuseEntry hentry _)
      · exact hwithdrawn.trans (runs_refuseEntry hentry _)
      · split
        · exact hwithdrawn.trans (runs_refuseEntry hentry _)
        · exact hwithdrawn

theorem runs_dispose (s : State) (r : Raise) : Runs s (s.dispose r) := by
  unfold dispose
  split
  · exact .refl
  · split
    · exact s.runs_setLatch _
    · exact .refl
  · exact s.runs_enterHalt

theorem runs_applyRaise (s : State) (r : Raise) : Runs s (s.applyRaise r) :=
  (s.runs_recordFault r).trans (runs_dispose _ r)

theorem runs_finishWith (k : Nat) (s : State) : Runs s (s.finishWith k) := by
  induction k generalizing s with
  | zero => exact s.runs_settle
  | succ k ih =>
    unfold finishWith
    dsimp only
    split
    · exact s.runs_settle
    next r rs _ =>
      have htake (u : State) : Runs u { u with work := { u.work with raises := rs } } := .of_eq rfl
      refine .trans ?_ (ih _)
      exact s.runs_settle.trans ((htake _).trans (runs_applyRaise _ r))

/-! ### Asks -/

theorem firstFailure_eq_none_iff (cs : List (Bool × Reason)) : firstFailure cs = none ↔ ∀ c ∈ cs, c.1 = false := by
  simp [firstFailure]

theorem checkOfRefusal_fst (r : Option Reason) : (checkOfRefusal r).1 = r.isSome := by cases r <;> rfl

theorem run_of_refusal {m : Mode} (h : m.refusal = none) : m = .run := by cases m <;> first | rfl | contradiction

theorem run_of_askGate {s : State} {p : Party} (h : s.askGate p = none) : s.mode = .run := by
  have := (firstFailure_eq_none_iff _).mp h (checkOfRefusal s.mode.refusal) List.mem_cons_self
  rw [checkOfRefusal_fst, Option.isSome_eq_false_iff, Option.isNone_iff_eq_none] at this
  exact run_of_refusal this

theorem runs_decideAsk {s : State} {h : Handle} {e : Entry} (fits : s.seen.Fits h e.party) : Runs s (s.decideAsk h e) := by
  have hclear : Runs s (s.setLastExpired e.party none) := .of_eq rfl
  have fits' : (s.setLastExpired e.party none).seen.Fits h e.party := fits
  unfold decideAsk
  split
  · exact hclear.trans (runs_grant fits' _)
  next items hv =>
    obtain ⟨⟨x, hx⟩, two⟩ := lift_of_verdict_confirm hv
    exact hclear.trans (runs_enterConfirming fits' hx two)
  · split
    · exact hclear.trans (runs_hold fits' _)
    · exact s.runs_refuse _ _ _ _ _ _

theorem runs_ask (s : State) (e : Entry) (bad : Option Reason) : Runs s (s.ask e bad) := by
  unfold ask
  split
  · exact s.runs_refuse _ _ _ _ _ _
  next hgate =>
    split
    · exact s.runs_refuse _ _ _ _ _ _
    next hnone =>
      split
      · exact s.runs_refuse _ _ _ _ _ _
      · split
        · exact s.runs_refuse _ _ _ _ _ _
        next h hfree =>
          refine runs_decideAsk (Fits.of_free (run_of_askGate hgate) ?_ ((s.entryOf_eq_none_iff _).mp hnone))
          simpa using List.find?_some hfree

theorem runs_takePlaceAsk (s : State) (p : Party) (tag wait count : Byte) (b : PlaceBody) :
    Runs s (s.takePlaceAsk p tag wait count b) := by
  unfold takePlaceAsk
  split
  · exact s.runs_ask _ _
  · exact s.runs_ask _ _
  · exact .refl
  · exact .refl

/-! ### Completions, QUIT -/

theorem runs_releaseFetched (s : State) (i : StreamNo) (items : List Item) : Runs s (s.releaseFetched i items) := by
  unfold releaseFetched
  dsimp only
  split
  · exact .refl
  · exact (s.runs_shrinkList i _).trans (runs_setStream _ i _ rfl)

theorem runs_moveCarriage (s : State) (p : Party) (k : Kind) (items : List Item) : Runs s (s.moveCarriage p k items) := by
  cases p with
  | shuttle n => exact .refl
  | lift x =>
    unfold moveCarriage
    dsimp only
    have hlift : Runs s (s.setLift x { s.lift x with carriage := carriageAfter (s.lift x).carriage k items }) :=
      .of_eq (s.seen_setLift_same x _ rfl)
    split
    · exact hlift
    · exact hlift.trans (Runs.foldl (fun s i => s.runs_releaseFetched i items) _ _)

theorem runs_countVisit (s : State) (p : Party) (k : Kind) (n : Nat) : Runs s (s.countVisit p k n) := by
  unfold countVisit
  split
  · exact .refl
  next x =>
    split
    · exact .refl
    next v hv =>
      dsimp only
      have hlift : Runs s (s.setLift x { s.lift x with visit := some (v.lower k n) }) :=
        .of_eq (s.seen_setLift_same x _ (by simp [hv]))
      split
      · exact hlift.trans (runs_endVisit _ _ _)
      · exact hlift

theorem runs_complete {s : State} {h : Handle} {e : Entry} (he : s.entry h = some e) (granted : Stamp) (ids : List ToteId) :
    Runs s (s.complete h e granted ids) := by
  unfold complete
  dsimp only
  refine .trans (.trans (s.runs_moveSlots _ _) (.trans (runs_moveCarriage _ _ _ _)
    (.trans (.of_eq (seen_enterStat _ _ _)) (runs_removeEntry ?_)))) (runs_countVisit _ _ _ _)
  rw [entry_of_table (t := State.enterStat _ _ _) (s := s) (by simp), he]

theorem runs_ungranted (s : State) (p : Party) (k : Kind) (tag handle : Byte) : Runs s (s.ungranted p k tag handle) :=
  (s.runs_refuse _ _ _ _ _ _).trans (.of_eq (seen_raise _ _ _))

theorem runs_lateReport (s : State) (p : Party) (k : Kind) (tag : Byte) (h : Handle) (ids : List ToteId) :
    Runs s (s.lateReport p k tag h ids) :=
  (s.runs_refuse _ _ _ _ _ _).trans ((Runs.of_eq (seen_reportTotes _ _ _ _)).trans (.of_eq (seen_raise _ _ _)))

/-- The entry found for a party whose handle is the one named. -/
theorem entry_of_entryOf_filter {s : State} {p : Party} {f : Handle × Entry → Bool} {h : Handle} {e : Entry}
    (hf : (s.entryOf p).filter f = some (h, e)) : s.entry h = some e :=
  (entry_of_entryOf (Option.filter_eq_some_iff.mp hf).1).1

theorem runs_judge (s : State) (p : Party) (k : Kind) (tag handle : Byte) (ids : List ToteId) :
    Runs s (s.judge p k tag handle ids) := by
  unfold judge
  split
  next h e hf =>
    split
    · exact runs_complete (entry_of_entryOf_filter hf) _ _
    · exact s.runs_ungranted _ _ _ _
  · split
    · exact s.runs_lateReport _ _ _ _ _
    · exact s.runs_ungranted _ _ _ _

theorem runs_takeReport (s : State) (p : Party) (k : Kind) (tag handle : Byte) (ids : List ToteId) :
    Runs s (s.takeReport p k tag handle ids) := by
  unfold takeReport
  split
  · exact s.runs_refuse _ _ _ _ _ _
  · split
    · exact s.runs_refuse _ _ _ _ _ _
    · exact s.runs_judge _ _ _ _ _

theorem runs_takeQuit (s : State) (p : Party) (tag handle : Byte) : Runs s (s.takeQuit p tag handle) := by
  unfold takeQuit
  split
  · exact s.runs_refuse _ _ _ _ _ _
  · split
    next h e hf => exact runs_removeEntry (entry_of_entryOf_filter hf)
    · split <;> exact s.runs_refuse _ _ _ _ _ _

/-! ### Expiries -/

theorem runs_drainVisit (s : State) (p : Party) : Runs s (s.drainVisit p) := by
  unfold drainVisit
  split
  · exact .refl
  · split
    · exact s.runs_endVisit _ _
    · exact .refl

theorem runs_actExpiry (s : State) (h : Handle) : Runs s (s.actExpiry h) := by
  unfold actExpiry
  split
  · exact .refl
  next e he =>
    split
    · dsimp only
      refine .trans (.trans (s.runs_doubtEntry h e _) (.trans (runs_handFlag _ _)
        (.trans (.of_eq (seen_setLastExpired _ _ _)) (runs_removeEntry ?_)))) (.trans (runs_drainVisit _ _)
          (.of_eq (seen_raise _ _ _)))
      rw [entry_of_table (t := State.setLastExpired _ _ _) (s := s) (by simp), he]
    · exact .refl

theorem runs_holdExpiry (s : State) (h : Handle) : Runs s (s.holdExpiry h) := by
  unfold holdExpiry
  split
  · exact .refl
  next e he =>
    split
    · exact runs_refuseEntry he _
    · exact .refl

/-! ### Lift coordinator -/

theorem runs_takeLiftState (s : State) (x : Lift) (b : StateBody) : Runs s (s.takeLiftState x b) := by
  unfold takeLiftState
  split
  · split
    · exact .of_eq (s.seen_setLift_same x _ rfl)
    · exact .refl
  · split <;> exact .refl
  · exact .refl

theorem runs_takeLoad (s : State) (x : Lift) (tag : Byte) (totes : List ToteRec) : Runs s (s.takeLoad x tag totes) := by
  unfold takeLoad
  split
  · exact s.runs_refuseLift _ _ _ _
  · exact .of_eq (s.seen_setLift_same x _ rfl)

theorem runs_takeUnload (s : State) (x : Lift) (tag : Byte) (ids : List ToteId) : Runs s (s.takeUnload x tag ids) := by
  unfold takeUnload
  split
  · exact s.runs_refuseLift _ _ _ _
  · dsimp only
    split
    · exact .of_eq ((seen_foldl seen_deliver _ _).trans (s.seen_setLift_same x _ rfl))
    · exact s.runs_refuseLift _ _ _ _

theorem run_of_visitFailure {s : State} {x : Lift} {level p f : Byte} (h : s.visitFailure x level p f = none) :
    s.mode = .run := by
  have := (firstFailure_eq_none_iff _).mp h (checkOfRefusal s.mode.refusal) (by simp)
  rw [checkOfRefusal_fst, Option.isSome_eq_false_iff, Option.isNone_iff_eq_none] at this
  exact run_of_refusal this

theorem runs_openVisit (s : State) (x : Lift) (tag level p f : Byte) : Runs s (s.openVisit x tag level p f) := by
  unfold openVisit
  split
  · exact s.runs_refuseLift _ _ _ _
  · exact .refl
  next n hv hn =>
    refine .trans (.of_move (Move.visit x true fun _ => run_of_visitFailure hv) ?_) (runs_sendLift _ _ _)
    exact s.seen_setLift x _

theorem runs_closeVisit (s : State) (x : Lift) (tag : Byte) : Runs s (s.closeVisit x tag) := by
  unfold closeVisit
  split
  · exact s.runs_refuseLift _ _ _ _
  · exact s.runs_endVisit _ _

theorem runs_visitExpiry (s : State) (x : Lift) : Runs s (s.visitExpiry x) := by
  have htimeout (u : State) : Runs u (match u.entryOf (.lift x) with
      | none => u
      | some (h, e) => if e.phase.isGranted then u else u.refuseEntry h e .timeout) := by
    split
    · exact .refl
    next he =>
      split
      · exact .refl
      · exact runs_refuseEntry (entry_of_entryOf he).1 _
  unfold visitExpiry
  split
  · exact .refl
  · split
    · exact (s.runs_endVisit _ _).trans ((htimeout _).trans (.of_eq (seen_raise _ _ _)))
    · exact .refl

theorem runs_answerCall (s : State) (x : Lift) (tag : Byte) : Runs s (s.answerCall x tag) := by
  unfold answerCall
  split
  · exact s.runs_refuseLift _ _ _ _
  · split
    · exact s.runs_sendLift _ _
    · exact s.runs_refuseLift _ _ _ _

theorem runs_askIntervalOut (s : State) (x : Lift) : Runs s (s.askIntervalOut x) := by
  unfold askIntervalOut
  split
  · exact .trans (s.runs_setLift_same x { s.lift x with askTimer := some Config.stateAskInterval } rfl)
      (runs_sendStateAsk _ x)
  · exact .refl

theorem runs_liftServiceOn (s : State) (x : Lift) : Runs s (s.liftServiceOn x).1 := by
  unfold liftServiceOn
  split
  · exact .refl
  · have hservice := s.runs_setLift_same x { s.lift x with presence := .service, askTimer := none } rfl
    exact (hservice.trans (runs_flushLift _ x)).touch

theorem runs_liftServiceOff (s : State) (x : Lift) : Runs s (s.liftServiceOff x) := by
  unfold liftServiceOff
  split
  · have hreturns := s.runs_setLift_same x
      { s.lift x with presence := .returning, askTimer := some Config.stateAskInterval } rfl
    exact (hreturns.trans (runs_sendStateAsk _ x)).touch
  · exact .refl
  · exact .refl

theorem runs_toCoordinator (s : State) (x : Lift) (tag : Byte) (t : PartyTel) : Runs s (s.toCoordinator x tag t) := by
  cases t with
  | state b => exact s.runs_takeLiftState x b
  | visitOpen l p f => exact s.runs_openVisit x tag l p f
  | visitClose => exact s.runs_closeVisit x tag
  | nextCall => exact s.runs_answerCall x tag
  | load l => exact s.runs_takeLoad x tag l
  | unload l => exact s.runs_takeUnload x tag l
  | _ => exact .refl

/-! ### Confirm unit -/

theorem runs_dropConfirmAsks (s : State) (h : Handle) : Runs s (s.dropConfirmAsks h) :=
  .of_move (Move.drop s.seen.claim _ (fun _ _ _ => id) List.filter_sublist) rfl

/-- A CONFIRMING entry may go on, once its unsent CONFIRM-ASKs are discarded. -/
theorem Fits.of_dropped {s : State} {h : Handle} {e : Entry} (he : s.entry h = some e) (hc : e.phase = .confirming) :
    (s.dropConfirmAsks h).seen.Fits h e.party where
  accepts := .inl ⟨e, he, rfl⟩
  ungranted f hf := by
    obtain rfl : e = f := Option.some.inj (he.symm.trans hf)
    rw [hc]; rfl
  unasked := .inr (by
    show (List.filter (fun t => !t.asksAbout h) s.unsentAsks).filter (fun t => t.asksAbout h) = []
    simp [List.filter_filter])

theorem runs_resolve {s : State} {h : Handle} {e : Entry} (he : s.entry h = some e) (hc : e.phase = .confirming) :
    Runs s (s.resolve h e) := by
  have fits := Fits.of_dropped he hc
  unfold resolve
  dsimp only
  split
  · split
    · have hold := runs_hold (s := s.dropConfirmAsks h) (e := { e with items := [] }) fits .notEligible
      exact ((s.runs_dropConfirmAsks h).trans hold).wantReeval
    · exact (s.runs_dropConfirmAsks h).trans (runs_refuseEntry (s := s.dropConfirmAsks h) he _)
  · exact (s.runs_dropConfirmAsks h).trans (runs_grant fits _).wantReeval

theorem runs_resolveIfDecided (s : State) (h : Handle) : Runs s (s.resolveIfDecided h) := by
  unfold resolveIfDecided
  split
  · exact .refl
  next e he =>
    split
    next hc =>
      simp only [Bool.and_eq_true, decide_eq_true_eq] at hc
      exact runs_resolve he hc.1.1
    · exact .refl

/-- The items of a CONFIRMING entry change, not their number. -/
theorem runs_mapItems {s : State} {h : Handle} {e : Entry} (he : s.entry h = some e) (hc : e.phase = .confirming)
    (f : Item → Item) : Runs s (s.setEntry h (some (e.mapItems f))) :=
  .of_move (Move.change h e (e.mapItems f) he rfl rfl (by simp [hc, Phase.isGranted]) rfl (List.length_map _))
    (s.seen_setEntry h _)

theorem runs_decideItem {s : State} {h : Handle} {e : Entry} (he : s.entry h = some e) (hc : e.phase = .confirming)
    (id : ToteId) (c : Conf) : Runs s (s.decideItem h e id c) :=
  (runs_mapItems he hc _).trans (.of_eq (seen_touch _))

theorem runs_applyDefaults {s : State} {h : Handle} {e : Entry} (he : s.entry h = some e) (hc : e.phase = .confirming) :
    Runs s (s.applyDefaults h e) := by
  unfold applyDefaults
  dsimp only
  have hbars := seen_foldl (f := fun (s : State) (i : Item) =>
    if i.conf = .asked && s.confirmDefault i.tote = .deny && s.listed i.tote then s.bar i.tote else s)
    (fun s i => by split; exacts [s.seen_bar _, rfl]) e.items s
  refine .trans (.of_eq hbars) (runs_mapItems ?_ hc _)
  rw [entry_of_seen hbars, he]

theorem runs_confirmExpiry (s : State) (h : Handle) : Runs s (s.confirmExpiry h) := by
  unfold confirmExpiry
  split
  · exact .refl
  next e he =>
    split
    next hc =>
      simp only [Bool.and_eq_true, decide_eq_true_eq] at hc
      exact .trans (.trans (runs_applyDefaults he hc.1.1) (.of_eq (seen_touch _))) (runs_resolveIfDecided _ h)
    · exact .refl

theorem runs_decideRequest (s : State) (deny : Bool) (hb : Byte) (id : ToteId) : Runs s (s.decideRequest deny hb id).1 := by
  unfold decideRequest
  split
  · exact .refl
  next h _ =>
    split
    · exact .refl
    next e he =>
      split
      next hc =>
        split
        · exact .refl
        next i _ =>
          have hbar (u : State) (b : Bool) : Runs u (if b then u.bar i.tote else u) := by
            split
            exacts [.of_eq (u.seen_bar _), .refl]
          split
          · exact (runs_decideItem he hc id .denied).trans ((hbar _ _).trans (runs_resolveIfDecided _ h))
          · exact (runs_decideItem he hc id .confirmed).trans (runs_resolveIfDecided _ h)
      · exact .refl

/-! ### Modes -/

theorem runs_intoRun (s : State) : Runs s s.intoRun :=
  (s.runs_setMode .run fun h => nomatch h).trans (.of_eq (seen_wantReeval _))

theorem entry_revokeEntry (s : State) (d : DoubtCause) (h : Handle) (e : Entry) :
    (s.revokeEntry d h e).entry = Function.update s.entry h none := by
  unfold revokeEntry
  split
  · rw [entry_refuseEntry]
    congr 1
    funext k
    exact entry_of_table (s.table_doubtEntry _ _ _) k
  · exact s.entry_refuseEntry _ _ _

theorem runs_revokeEntry {s : State} {h : Handle} {e : Entry} (he : s.entry h = some e) (d : DoubtCause) :
    Runs s (s.revokeEntry d h e) := by
  unfold revokeEntry
  split
  · refine (s.runs_doubtEntry h e d).trans (runs_refuseEntry ?_ _)
    rw [entry_of_table (s.table_doubtEntry _ _ _), he]
  · exact runs_refuseEntry he _

theorem nodup_handles (s : State) : (s.entries.map (fun x => x.1)).Nodup := by
  have hsub : (s.entries.map (fun x => x.1)).Sublist (List.finRange 32) := by
    unfold entries
    rw [List.map_filterMap]
    have : (fun h : Handle => Option.map (fun x : Handle × Entry => x.1) (Option.map (fun e => (h, e)) (s.entry h)))
        = fun h => if (s.entry h).isSome then some h else none := by
      funext h
      cases s.entry h <;> rfl
    rw [this]
    have hif : (List.finRange 32).filterMap (fun h => if (s.entry h).isSome then some h else none)
        = (List.finRange 32).filter (fun h => (s.entry h).isSome) := by
      rw [← List.filterMap_eq_filter]
      rfl
    rw [hif]
    exact List.filter_sublist
  exact hsub.nodup (List.nodup_finRange 32)

/-- Entries that are removed one after another, each by an operation that removes it alone. -/
theorem runs_foldl_remove {f : State → Handle × Entry → State}
    (hrun : ∀ s x, s.entry x.1 = some x.2 → Runs s (f s x))
    (hentry : ∀ s x, (f s x).entry = Function.update s.entry x.1 none) (l : List (Handle × Entry)) (s : State)
    (nodup : (l.map (fun x => x.1)).Nodup) (hl : ∀ x ∈ l, s.entry x.1 = some x.2) :
    Runs s (l.foldl f s) ∧ ∀ k, (l.foldl f s).entry k = if k ∈ l.map (fun x => x.1) then none else s.entry k := by
  induction l generalizing s with
  | nil => exact ⟨.refl, fun k => by simp⟩
  | cons x l ih =>
    obtain ⟨hx, hnodup⟩ := List.nodup_cons.mp nodup
    obtain ⟨hruns, hafter⟩ := ih (f s x) hnodup fun y hy => by
      have hne : y.1 ≠ x.1 := fun heq => hx (List.mem_map.mpr ⟨y, hy, heq⟩)
      rw [hentry, Function.update_of_ne hne]
      exact hl y (List.mem_cons_of_mem _ hy)
    refine ⟨(hrun s x (hl x List.mem_cons_self)).trans hruns, fun k => ?_⟩
    rw [List.foldl_cons, hafter, hentry]
    by_cases hk : k = x.1
    · subst hk; simp
    · simp only [Function.update_of_ne hk, List.map_cons, List.mem_cons, hk, false_or]

theorem runs_flagDoubt (s : State) (l : List (Handle × Entry)) : Runs s (s.flagDoubt l) := by
  unfold flagDoubt
  split
  · exact s.runs_handFlag _
  · exact .refl

theorem table_endVisit (s : State) (x : Lift) (t : Option Byte) : (s.endVisit x t).table = s.table := by
  unfold endVisit
  split <;> simp

theorem table_flagDoubt (s : State) (l : List (Handle × Entry)) : (s.flagDoubt l).table = s.table := by
  unfold flagDoubt
  split <;> simp

/-- Every entry is revoked: a run, after which the table is empty. -/
theorem runs_revokeAll (s : State) (d : DoubtCause) :
    Runs s (s.revokeAll d) ∧ ∀ h, (s.revokeAll d).entry h = none := by
  obtain ⟨hruns, hafter⟩ := runs_foldl_remove (f := fun s x => s.revokeEntry d x.1 x.2)
    (fun s x hx => runs_revokeEntry hx d) (fun s x => s.entry_revokeEntry d x.1 x.2) s.entries s s.nodup_handles
    (fun x hx => (s.mem_entries_iff x.1 x.2).mp hx)
  unfold revokeAll
  dsimp only
  refine ⟨hruns.trans ((runs_flagDoubt _ _).trans ((runs_endVisit _ _ _).trans (runs_endVisit _ _ _))), fun h => ?_⟩
  rw [entry_of_table (t := endVisit _ .b none) (s := s.entries.foldl (fun s x => s.revokeEntry d x.1 x.2) s)
    (by rw [table_endVisit, table_endVisit, table_flagDoubt]), hafter]
  split
  · rfl
  next hne =>
    rw [Option.eq_none_iff_forall_ne_some]
    intro e he
    exact hne (List.mem_map_of_mem ((s.mem_entries_iff h e).mpr he))

theorem runs_resumeRevoke (s : State) : Runs s s.resumeRevoke :=
  (s.runs_setMode .run fun h => nomatch h).trans ((runs_revokeAll _ _).1.trans (.of_eq (seen_wantReeval _)))

theorem coord_handFlag (s : State) (f : Flag) : (s.handFlag f).coord = s.coord := by
  have hnotice (u : State) : u.makeNotice.coord = u.coord := by
    unfold makeNotice
    dsimp only
    split
    · rfl
    · split <;> rfl
  unfold handFlag
  dsimp only
  split
  · rw [hnotice]
  · rfl

theorem coord_checkDrain (s : State) : s.checkDrain.coord = s.coord := by
  unfold checkDrain setMode
  split
  · rw [coord_handFlag]
  · rfl

theorem coord_sendLift (s : State) (x : Lift) (t : Tel) : (s.sendLift x t).coord = s.coord := by
  unfold sendLift
  dsimp only
  split <;> rfl

/-- After the end of a lift's visit it has none, and the other lift's is as it was. -/
theorem lift_endVisit (s : State) (x y : Lift) (t : Option Byte) :
    ((s.endVisit x t).lift y) = if y = x then { s.lift x with visit := none } else s.lift y := by
  have hlift {u v : State} (h : u.coord = v.coord) (z : Lift) : u.lift z = v.lift z := by unfold lift; rw [h]
  unfold endVisit
  split
  next hv =>
    split
    next h => rw [h]; rw [← hv]
    · rfl
  · rw [hlift (coord_checkDrain _), lift_setLift, hlift (coord_sendLift _ _ _)]
    by_cases hy : y = x
    · simp [hy]
    · simp [hy, hlift (coord_sendLift _ _ _)]

theorem visit_revokeAll (s : State) (d : DoubtCause) (x : Lift) : ((s.revokeAll d).lift x).visit = none := by
  unfold revokeAll
  dsimp only
  cases x <;> simp [lift_endVisit]

theorem runs_cleanup (s : State) : Runs s s.cleanup :=
  (s.runs_revokeAll _).1.trans (runs_setMode _ _ fun _ => ⟨(s.runs_revokeAll _).2, s.visit_revokeAll _⟩)

theorem runs_reissueHandle (s : State) (h : Handle) : Runs s (s.reissueHandle h) := by
  unfold reissueHandle
  split
  · exact .refl
  next e he =>
    split
    next hg =>
      split
      · exact runs_revokeEntry he _
      · refine .trans (.of_move (Move.change h e (e.granted s.time s.timing e.items) he rfl ?_ (fun _ => ⟨rfl, rfl⟩) ?_ rfl)
          (s.seen_setEntry h _)) (runs_sendGo _ _ _)
        · exact hg.symm
        · rw [Seen.Entry.confirmsLift_of_granted hg, Seen.Entry.confirmsLift_of_granted rfl]
    · exact .refl

theorem seen_restartVisit (s : State) (x : Lift) : (s.setLift x (s.lift x).restartVisit).seen = s.seen :=
  s.seen_setLift_same x _ (by simp [LiftRec.restartVisit])

theorem runs_reissue (s : State) : Runs s s.reissue := by
  have hrestart (u : State) : Runs u ((u.setLift .a (u.lift .a).restartVisit).setLift .b (u.lift .b).restartVisit) := by
    have h := (u.setLift .a (u.lift .a).restartVisit).seen_restartVisit .b
    exact .of_eq (h.trans (u.seen_restartVisit .a))
  unfold reissue
  dsimp only
  refine .trans (.trans (s.runs_setMode .run fun h => nomatch h) (.trans (Runs.foldl runs_reissueHandle _ _)
    (.trans (runs_flagDoubt _ _) (Runs.foldl runs_resolveIfDecided _ _)))) (.trans (hrestart _) (.of_eq (seen_wantReeval _)))

theorem runs_endIdleVisit (s : State) (x : Lift) : Runs s (s.endIdleVisit x) := by
  unfold endIdleVisit
  split
  · split
    · exact .refl
    · exact s.runs_endVisit _ _
  · exact s.runs_endVisit _ _

theorem runs_drain (s : State) : Runs s s.drain := by
  unfold drain
  dsimp only
  refine .trans (s.runs_setMode .drain fun h => nomatch h) (.trans ?_ ((runs_endIdleVisit _ _).trans
    ((runs_endIdleVisit _ _).trans (runs_checkDrain _))))
  refine (runs_foldl_remove (f := fun s x => s.refuseEntry x.1 x.2 .draining) (fun s x hx => runs_refuseEntry hx _)
    (fun s x => s.entry_refuseEntry x.1 x.2 .draining) _ _ ?_ ?_).1
  · exact (List.filter_sublist.map _).nodup (nodup_handles _)
  · exact fun x hx => (mem_entries_iff _ x.1 x.2).mp (List.mem_filter.mp hx).1

theorem runs_resume (s : State) (r : Option ResumeMode) : Runs s (s.resume r) := by
  unfold resume
  split
  · exact s.runs_reissue
  · exact s.runs_resumeRevoke

theorem runs_whenRunnable {s t : State} (b : Bool) (h : Runs s t) : Runs s (s.whenRunnable b t).1 := by
  unfold whenRunnable
  split
  · exact .refl
  · exact h

theorem runs_changeMode (s : State) (target : Mode) (r : Option ResumeMode) : Runs s (s.changeMode target r).1 := by
  unfold changeMode
  split
  case h_2 => exact runs_whenRunnable true s.runs_intoRun
  case h_5 =>
    split
    next h =>
      exact s.runs_setMode .config fun _ => ⟨entry_eq_none_of_isEmpty h.1, visit_eq_none_of_openVisits h.2⟩
    · exact .refl
  case h_7 => exact s.runs_drain
  case h_8 => exact s.runs_enterHalt
  case h_10 => exact runs_whenRunnable false s.runs_intoRun
  case h_12 => exact s.runs_enterHalt
  case h_13 => exact s.runs_cleanup
  case h_14 => exact runs_whenRunnable false (s.runs_resume r)
  all_goals exact .refl

theorem runs_modeSet (s : State) (t r : Byte) : Runs s (s.modeSet t r).1 := by
  unfold modeSet
  split
  · exact s.runs_changeMode _ _
  · exact .refl

end State

end Sys2Proof.Machine

/-! ## What commands do, as events

The scheduler's look, the ports, the level bus, the requests and the reception of telegrams as runs of acts; then every
command. -/

namespace Sys2Proof.Machine

theorem Runs.event {r p : Bool} {s t : State} (h : Runs s t) : Event r p s t := .of_acts (.single (.moves h))

/-! ### The scheduler's look (R137, R138) -/

namespace State

theorem seek_eq_some {s : State} {b : Bus} {n : Level} (h : s.seek b = some n) :
    (s.shuttle n).presence.included b.probeCycle = true ∧ ∀ m, b.pos = some m → m < n := by
  have hn := List.find?_some h
  rw [Bool.and_eq_true] at hn
  refine ⟨hn.2, fun m hm => ?_⟩
  have := hn.1
  rw [hm] at this
  exact of_decide_eq_true this

/-- The levels are found from the first on. -/
theorem exists_seek_of_polled {s : State} {b : Bus} (hpos : b.pos = none) (hprobe : b.probeCycle = true)
    (hany : s.anyPolled = true) : ∃ n, s.seek b = some n := by
  obtain ⟨n, hn, hincluded⟩ := List.any_eq_true.mp hany
  rw [← Option.isSome_iff_exists, seek, List.find?_isSome]
  exact ⟨n, hn, by simp [hpos, hprobe, hincluded]⟩

theorem anyPolled_eq_false {s : State} (h : s.anyPolled = false) (n : Level) :
    (s.shuttle n).presence.included true = false := by
  simpa using List.any_eq_false.mp h n (List.mem_finRange n)

/-- A bus on which the next level has been found. -/
def FindsNext (s : State) (b : Bus) : Prop :=
  ∃ n, b.next = some n ∧ b.cycle = true ∧ (s.shuttle n).presence.included b.probeCycle = true
    ∧ ∀ m, b.pos = some m → m < n

/-- While some level is polled a new cycle finds one within the bound: a cycle without a level raises the count, until one
is a probe cycle. -/
theorem newCycle_finds {s : State} (hany : s.anyPolled = true) (k : Nat) (b : Bus)
    (hk : s.timing.probeInterval.toNat ≤ b.probeCount.toNat + k) (hpos : 0 < k) : s.FindsNext (s.newCycle k b) := by
  induction k generalizing b with
  | zero => exact absurd hpos (Nat.lt_irrefl 0)
  | succ k ih =>
    unfold newCycle
    dsimp only
    split
    next n hn =>
      obtain ⟨h1, h2⟩ := seek_eq_some hn
      exact ⟨n, rfl, rfl, h1, h2⟩
    next hn =>
      have hprobe : (b.beginCycle s.timing.probeInterval).probeCycle = false := by
        by_contra hp
        obtain ⟨n, hs⟩ := exists_seek_of_polled (b := b.beginCycle s.timing.probeInterval) rfl (by simpa using hp) hany
        simp [hs] at hn
      have hlt : b.probeCount.toNat + 1 < s.timing.probeInterval.toNat := by
        simpa [Bus.beginCycle, probes] using hprobe
      have hcount : ((b.beginCycle s.timing.probeInterval).endCycle).probeCount.toNat = b.probeCount.toNat + 1 := by
        have hsmall := s.timing.probeInterval.isLt
        have : ((b.beginCycle s.timing.probeInterval).endCycle).probeCount = b.probeCount + 1 := by
          simp only [Bus.endCycle, hprobe]
          rfl
        rw [this, BitVec.toNat_add]
        show (b.probeCount.toNat + 1) % 256 = _
        omega
      exact ih _ (by omega) (by omega)

/-- After a look between turns the next level has been found, or no level is polled and no cycle is under way. -/
theorem look_finds {s : State} (hcycle : s.bus.cycle = false → s.bus.pos = none ∧ s.bus.probeCycle = false) :
    s.FindsNext s.look ∨ (s.look.next = none ∧ s.look.cycle = false ∧ s.look.pos = none ∧ s.look.probeCycle = false
      ∧ ∀ n, (s.shuttle n).presence.included true = false) := by
  unfold look
  split
  next n hn =>
    left
    split at hn
    next hc =>
      obtain ⟨h1, h2⟩ := seek_eq_some hn
      exact ⟨n, rfl, hc, h1, h2⟩
    · contradiction
  · split
    next hany =>
      left
      refine newCycle_finds hany _ _ ?_ (by decide)
      have := s.timing.probeInterval.isLt
      omega
    next hany =>
      right
      refine ⟨?_, ?_, ?_, ?_, anyPolled_eq_false (by simpa using hany)⟩ <;> unfold Bus.endCycle <;> split <;> simp_all

/-- The scheduler's look at the end of an event leaves it as the invariant says. -/
theorem ready_lookDone {s : State} (h : s.seen.Ready) :
    Seen.Ready { s.seen with sched := { s.lookDone.seen.sched with look := false } } := by
  obtain ⟨hcycling, hfound⟩ := h
  by_cases hlook : s.work.look = true
  · rw [lookDone_of_set hlook]
    by_cases hturn : s.bus.turn = .idle
    · by_cases hstands : s.nextStands = true
      · rw [schedule_of_stands hstands]
        refine ⟨hcycling, fun _ => ?_⟩
        unfold nextStands at hstands
        split at hstands
        next n hn =>
          exact ⟨fun m hm => by rw [Option.some.inj ((show s.bus.next = some m from hm).symm.trans hn)]; exact hstands,
            fun _ hnone => absurd ((show s.bus.next = none from hnone).symm.trans hn) (by simp)⟩
        · contradiction
      · rw [schedule_of_idle hturn (by simpa using hstands)]
        rcases look_finds hcycling.2.2 with ⟨n, hn, hc, hi, hp⟩ | ⟨hn, hc, hp, hpr, hall⟩
        · refine ⟨⟨fun ht => absurd hturn ht, fun m hm => ?_, fun hf => absurd ((show s.look.cycle = false from hf).symm.trans hc) (by simp)⟩,
            fun _ => ⟨fun m hm => ?_, fun _ hnone => absurd ((show s.look.next = none from hnone).symm.trans hn) (by simp)⟩⟩
          · obtain rfl := Option.some.inj ((show s.look.next = some m from hm).symm.trans hn)
            exact ⟨hc, hp⟩
          · obtain rfl := Option.some.inj ((show s.look.next = some m from hm).symm.trans hn)
            exact hi
        · exact ⟨⟨fun ht => absurd hturn ht, fun m hm => absurd ((show s.look.next = some m from hm).symm.trans hn) (by simp),
            fun _ => ⟨hp, hpr⟩⟩, fun _ => ⟨fun m hm => absurd ((show s.look.next = some m from hm).symm.trans hn) (by simp),
            fun _ _ => ⟨hc, hall⟩⟩⟩
    · rw [schedule_of_turn hturn]
      have hnext := (hcycling.1 hturn).2
      exact ⟨hcycling, fun _ => ⟨fun m hm => absurd (hm.symm.trans hnext) (by simp), fun ht => absurd ht hturn⟩⟩
  · rw [lookDone_of_clear (by simpa using hlook)]
    exact ⟨hcycling, fun _ => hfound (show s.work.look = false by simpa using hlook)⟩

theorem seen_lookDone (s : State) : s.lookDone.seen = { s.seen with sched := s.lookDone.seen.sched } := by
  have h : s.lookDone = { s with bus := s.lookDone.bus } := s.lookDone_eq
  have hb := s.lookDone_bus_keeps
  have hturn : s.lookDone.bus.turn = s.bus.turn := by rw [hb]
  have hrx : s.lookDone.bus.rx = s.bus.rx := by rw [hb]
  have hqueue : s.lookDone.bus.queue = s.bus.queue := by rw [hb]
  generalize s.lookDone = t at h hturn hrx hqueue ⊢
  rw [h]
  show ({ s.seen with
    loads := { s.loads with queue := t.bus.queue.map (fun i => i.level) }
    ports := { s.ports with busRx := t.bus.rx }, turn := t.bus.turn
    sched := _ } : Seen) = _
  rw [hturn, hrx, hqueue]
  rfl

/-- The end of a step is an event. -/
theorem event_finish {r p : Bool} (s : State) : Event r p s s.finish := by
  refine .of_acts (.single ?_)
  refine Act.scheduled (a := s.seen) (b := (s.lookDone.finishWith Config.raiseBound).seen) s.lookDone.seen.sched false ?_ ready_lookDone
  rw [← seen_lookDone]
  exact runs_finishWith _ _

end State

/-! ### Ports -/

namespace Seen

theorem Receivers.link {a : Seen} (h : a.Receivers) (x : Lift) {r : Rx} (hr : Unended r) :
    Seen.Receivers { a with ports := { a.ports with linkRx := Function.update a.ports.linkRx x r } } := by
  obtain ⟨h1, h2, h3⟩ := h
  refine ⟨h1, h2, fun port => ?_⟩
  cases port with
  | storeLine => exact h3 .storeLine
  | levelBus => exact h3 .levelBus
  | link y =>
    by_cases hy : y = x
    · subst hy; simpa [rx] using hr
    · simpa [rx, hy] using h3 (.link y)

theorem Receivers.store {a : Seen} (h : a.Receivers) {r : Rx} {tx : StoreTx} (hr : Unended r)
    (ht : tx ≠ .idle → r = .hunt) : Seen.Receivers { a with ports := { a.ports with storeRx := r, storeTx := tx } } := by
  obtain ⟨h1, h2, h3⟩ := h
  refine ⟨ht, h2, fun port => ?_⟩
  cases port with
  | storeLine =>
    simp only [rx]
    split
    · exact hr
    · exact fun _ hh => nomatch hh
  | levelBus => exact h3 .levelBus
  | link y => exact h3 (.link y)

theorem Receivers.bus {a : Seen} (h : a.Receivers) {r : Rx} {t : Turn} (sc : Sched) (hr : Unended r)
    (ht : r ≠ .hunt ↔ ∃ n, t = .awaiting n) :
    Seen.Receivers { a with ports := { a.ports with busRx := r }, turn := t, sched := sc } := by
  obtain ⟨h1, h2, h3⟩ := h
  refine ⟨h1, ht, fun port => ?_⟩
  cases port with
  | storeLine => exact h3 .storeLine
  | levelBus =>
    simp only [rx]
    split
    · exact hr
    · exact fun _ hh => nomatch hh
    · exact fun _ hh => nomatch hh
  | link y => exact h3 (.link y)

theorem unended_hunt : Unended .hunt := fun _ h => nomatch h
theorem unended_ready : Unended .ready := fun _ h => nomatch h

end Seen

namespace State

/-- A change of ports between turns or within one, the scheduler left alone. -/
theorem event_ports {r : Bool} {s t : State} {p : Ports} (h : t.seen = { s.seen with ports := p })
    (hr : s.seen.Receivers → Seen.Receivers { s.seen with ports := p }) : Event r true s t := by
  refine .of_acts (.single ?_)
  rw [h]
  exact Act.ports (a := s.seen) p s.seen.turn s.seen.sched hr fun hs => hs.congr rfl rfl

theorem seen_setRx_link (s : State) (x : Lift) (r : Rx) : (s.setRx (.link x) r).seen
    = { s.seen with ports := { s.ports with linkRx := Function.update s.ports.linkRx x r } } := by
  have hy (y : Lift) : (s.setRx (.link x) r).link y = Function.update s.link x { s.link x with rx := r } y := by
    by_cases hy : y = x
    · subst hy; simp [setRx]
    · rw [setRx, link_setLink_ne _ _ _ _ (Ne.symm hy), Function.update_of_ne hy]
  have hp : (s.setRx (.link x) r).ports = { s.ports with linkRx := Function.update s.ports.linkRx x r } := by
    refine congrArg (fun f => { s.ports with linkRx := f }) (funext fun y => ?_)
    rw [hy]; by_cases h : y = x <;> simp [h, ports]
  have hl : (s.setRx (.link x) r).loads = s.loads := by
    refine congrArg₂ (fun d f => { s.loads with down := d, forwarded := f }) (funext fun y => ?_) (funext fun y => ?_) <;>
      rw [hy] <;> by_cases h : y = x <;> simp [h]
  calc (s.setRx (.link x) r).seen
      = { s.seen with loads := (s.setRx (.link x) r).loads, ports := (s.setRx (.link x) r).ports } := rfl
    _ = _ := by rw [hp, hl]; rfl

theorem event_linkHunt {r : Bool} (s : State) (x : Lift) : Event r true s (s.linkHunt x) :=
  event_ports (s.seen_setRx_link x .hunt) fun h => h.link x Seen.unended_hunt

theorem event_storeHunt {r : Bool} (s : State) : Event r true s s.storeHunt :=
  event_ports (p := { s.ports with storeRx := .hunt }) rfl fun h => h.store Seen.unended_hunt fun _ => rfl

/-- The turn ends. -/
theorem event_endTurn {r : Bool} (s : State) : Event r true s s.endTurn := by
  refine .of_acts (.single ?_)
  refine Act.ports (a := s.seen) { s.ports with busRx := .hunt } .idle { s.sched with next := none, look := true } ?_ ?_
  · exact fun h => h.bus _ Seen.unended_hunt ⟨fun hh => absurd rfl hh, fun ⟨n, hn⟩ => absurd hn (by simp)⟩
  · rintro ⟨⟨-, -, hcycle⟩, -⟩
    exact ⟨⟨fun hh => absurd rfl hh, fun n hn => absurd (show none = some n from hn) (by simp), hcycle⟩,
      fun hh => absurd (show true = false from hh) (by simp)⟩

theorem event_ready {r : Bool} (s : State) (port : Port) : Event r true s (s.ready port) := by
  have hsilent {rx : Rx} (h : Seen.Unended rx) : Seen.Unended rx.silent := by
    cases rx with
    | receiving held => exact h
    | _ => exact Seen.unended_ready
  cases port with
  | levelBus => exact .refl
  | link x =>
    refine event_ports (s.seen_setRx_link x (s.link x).rx.silent) fun h => h.link x (hsilent (h.2.2 (.link x)))
  | storeLine =>
    unfold ready
    dsimp only
    split
    · exact .refl
    · exact event_ports (p := { s.ports with storeRx := .ready, storeTx := .idle }) rfl fun h =>
        h.store Seen.unended_ready fun hh => absurd rfl hh
    next htx =>
      refine event_ports (p := { s.ports with storeRx := s.store.rx.silent }) rfl fun h =>
        h.store (tx := s.store.tx) (hsilent ?_) fun hh => absurd htx hh
      have := h.2.2 .storeLine
      rwa [Seen.rx, if_pos (show s.seen.ports.storeTx = .idle from htx)] at this

theorem takeCharacters_unended (held : List Byte) (cs : List Character)
    (h : held ≠ [] → judgeBytes held = none) : Seen.Unended (takeCharacters held cs).1 := by
  induction cs generalizing held with
  | nil =>
    rw [takeCharacters_nil]
    intro bytes hb
    split at hb
    · contradiction
    next hne =>
      cases hb
      have hne' : held ≠ [] := by simpa using hne
      exact ⟨hne', h hne'⟩
  | cons c cs ih =>
    unfold takeCharacters
    split
    · exact Seen.unended_hunt
    · split
      · exact Seen.unended_hunt
      · exact ih _ fun _ => ‹_›

/-- A receiver that takes characters holds the first bytes of a telegram, or none. -/
theorem take_unended {rx : Rx} (cs : List Character) (h : Seen.Unended rx) : Seen.Unended (rx.take cs).1 := by
  cases rx with
  | hunt => exact Seen.unended_hunt
  | ready => exact takeCharacters_unended [] cs fun hh => absurd rfl hh
  | receiving held => exact takeCharacters_unended held cs fun _ => (h held rfl).2

theorem takeCharacters_ne_hunt (held : List Byte) (cs : List Character) (h : (takeCharacters held cs).2 = .nothing) :
    (takeCharacters held cs).1 ≠ .hunt := by
  have judged (bytes : List Byte) : judgeBytes bytes ≠ some .nothing := by
    cases bytes with
    | nil => simp [judgeBytes]
    | cons l rest =>
      rw [judgeBytes_cons]
      repeat' split
      all_goals simp
  induction cs generalizing held with
  | nil =>
    rw [takeCharacters_nil]
    dsimp only
    split <;> simp
  | cons c cs ih =>
    unfold takeCharacters at h ⊢
    split at h
    · contradiction
    next hf =>
      rw [if_neg hf]
      split at h
      next r hj => exact absurd (hj.trans (congrArg some h)) (judged _)
      next hj => exact ih _ h

/-- With nothing received a receiver that is not in HUNT stays out of it. -/
theorem take_ne_hunt {rx : Rx} {cs : List Character} (h : rx ≠ .hunt) (hn : (rx.take cs).2 = .nothing) :
    (rx.take cs).1 ≠ .hunt := by
  cases rx with
  | hunt => exact absurd rfl h
  | ready => exact takeCharacters_ne_hunt [] cs hn
  | receiving held => exact takeCharacters_ne_hunt held cs hn

end State

end Sys2Proof.Machine

/-! ## Commands as events -/

namespace Sys2Proof.Machine

/-- Presence changes, a block's operation is done, and a look falls due. -/
theorem Event.looks_of_moves {r p : Bool} {s t : State} (f : Level → Bool → Bool)
    (m : Moves { s.seen with sched := { s.sched with included := f } } t.seen) : Event r p s t.wantLook :=
  .of_acts (.single (Act.scheduled (a := s.seen) { s.sched with included := f } true m fun h =>
    ⟨h.1, fun hl => absurd (show true = false from hl) (by simp)⟩))

theorem Event.looks {r p : Bool} {s u t : State} {f : Level → Bool → Bool}
    (hu : u.seen = { s.seen with sched := { s.sched with included := f } }) (m : Runs u t) : Event r p s t.wantLook :=
  .looks_of_moves f (by unfold Runs at m; rwa [hu] at m)

/-- What is seen of a change of a level's presence. -/
theorem State.seen_setShuttle_presence (s : State) (n : Level) (v : ShuttleRec) (hb : v.box = (s.shuttle n).box) :
    (s.setShuttle n v).seen
      = { s.seen with sched := { s.sched with included := Function.update s.sched.included n v.presence.included } } := by
  rw [seen_setShuttle, hb]
  exact congrArg (fun f => { s.seen with
    loads := { s.loads with box := f }
    sched := { s.sched with included := Function.update s.sched.included n v.presence.included } })
    (Function.update_eq_self n s.loads.box)

/-- With a look due a level's presence changes. -/
theorem Event.setShuttle {r p : Bool} {s : State} (hlook : s.work.look = true) (n : Level) (v : ShuttleRec)
    (hb : v.box = (s.shuttle n).box) : Event r p s (s.setShuttle n v) := by
  have hwant : (s.setShuttle n v).wantLook = s.setShuttle n v := by
    show { s.setShuttle n v with work := { s.work with look := true } } = s.setShuttle n v
    rw [← hlook]
    rfl
  rw [← hwant]
  exact .looks (s.seen_setShuttle_presence n v hb) .refl

/-- A table is written that holds neither dispositions nor enables. -/
theorem Event.write {p : Bool} {s t : State} (h : t.seen = { s.seen with tables := t.tables })
    (hd : t.tables.dispositions = s.tables.dispositions) (he : t.tables.enabled = s.tables.enabled) : Event true p s t := by
  refine ⟨.single ?_, fun hs => (congrArg Seen.reserved h).trans hs⟩
  rw [h]
  refine Act.write t.tables s.seen.attention (fun ha => ?_) fun ho => ?_
  · unfold Seen.AtHalt at ha ⊢
    rwa [show _ = _ from hd]
  · unfold Seen.Outputs at ho ⊢
    rwa [show _ = _ from he]

namespace State

/-! ### Turns -/

/-- The frame of a turn is chosen. -/
theorem seen_giveTurn (s : State) (n : Level) : ∃ t, (s.giveTurn n).seen = { s.seen with turn := .sending n t } := by
  have hbegun (q : List LevelItem) : (beginFirst n q).map (fun i => i.level) = q.map (fun i => i.level) := by
    induction q with
    | nil => rfl
    | cons i q ih =>
      unfold beginFirst
      split
      · rfl
      · simp [ih]
  unfold giveTurn
  dsimp only
  split
  next i is hbox =>
    refine ⟨i.tel, ?_⟩
    have hsame : ({ i with begun := true } :: is).length = s.loads.box n := by
      rw [show s.loads.box n = (s.shuttle n).box.length from rfl, hbox]
      rfl
    have hset := s.seen_setShuttle_box n { s.shuttle n with box := { i with begun := true } :: is } rfl
    rw [show (_ : List BoxItem).length = _ from hsame, Function.update_eq_self] at hset
    exact congrArg (fun a : Seen => { a with turn := .sending n i.tel }) hset
  · split
    · exact ⟨_, rfl⟩
    · split
      next i _ => exact ⟨i.tel, congrArg (fun q => { s.seen with loads := { s.loads with queue := q }, turn := .sending n i.tel })
          (hbegun s.bus.queue)⟩
      · exact ⟨_, rfl⟩

theorem event_startTurn {r : Bool} (s : State) : Event r true s s.startTurn := by
  unfold startTurn
  split
  next hidle =>
    split
    next n hn =>
      obtain ⟨t, ht⟩ := seen_giveTurn { s with bus := { s.bus with pos := some n, next := none } } n
      refine .of_acts (.single ?_)
      rw [ht]
      refine Act.ports (a := s.seen) s.ports (.sending n t) { s.sched with pos := some n, next := none } (fun h => ?_) fun h => ?_
      · have hrx : s.bus.rx = .hunt := by
          by_contra hne
          obtain ⟨m, hm⟩ := h.2.1.mp hne
          exact absurd ((show s.bus.turn = .awaiting m from hm).symm.trans hidle) (by simp)
        refine h.bus (r := s.bus.rx) _ (hrx ▸ Seen.unended_hunt) ⟨fun hh => absurd hrx hh, fun ⟨m, hm⟩ => absurd hm (by simp)⟩
      · have hcycle : s.bus.cycle = true := (h.1.2.1 n hn).1
        exact ⟨⟨fun _ => ⟨hcycle, rfl⟩, fun m hm => absurd (show none = some m from hm) (by simp),
            fun hf => absurd ((show s.bus.cycle = false from hf).symm.trans hcycle) (by simp)⟩,
          fun _ => ⟨fun m hm => absurd (show none = some m from hm) (by simp), fun hh => absurd hh (by simp)⟩⟩
    · exact .refl
  · exact .refl
  · exact .refl

/-- A frame has been sent, its answer is awaited. -/
theorem event_awaiting {r : Bool} (s : State) (n : Level) (k : Byte) (h : s.bus.turn ≠ .idle) :
    Event r true s { s with bus := { s.bus with turn := .awaiting n, rx := .ready, ownTag := k } } := by
  refine .of_acts (.single ?_)
  refine Act.ports (a := s.seen) { s.ports with busRx := .ready } (.awaiting n) s.sched (fun hr => ?_) fun hr => ?_
  · exact hr.bus _ Seen.unended_ready ⟨fun _ => ⟨n, rfl⟩, fun _ => by simp⟩
  · obtain ⟨⟨hturn, hnext, hcycle⟩, hfound⟩ := hr
    exact ⟨⟨fun _ => hturn h, hnext, hcycle⟩, fun hl => ⟨(hfound hl).1, fun hh => absurd hh (by simp)⟩⟩

theorem event_frameSent {r : Bool} (s : State) : Event r true s s.frameSent := by
  unfold frameSent
  split
  · exact .refl
  · exact .refl
  next n t hturn =>
    have hbusy : s.bus.turn ≠ .idle := by simp [hturn]
    split
    · exact s.event_awaiting n _ hbusy
    · dsimp only
      have hbox := s.runs_setShuttle_box n { s.shuttle n with box := (s.shuttle n).box.filter (fun i => !i.begun) } rfl
        fun h => (List.length_filter_le _ _).trans h
      have hqueue := runs_flushQueue (s.setShuttle n { s.shuttle n with box := (s.shuttle n).box.filter (fun i => !i.begun) })
        (fun i => !(i.level = n && i.begun))
      exact (hbox.trans hqueue).event.trans (event_awaiting _ n s.bus.ownTag hbusy)

/-! ### Presence -/

theorem runs_dropWaiting (s : State) (n : Level) : Runs s (s.dropWaiting n) := by
  unfold dropWaiting
  split
  · exact .refl
  next h e he =>
    split
    · exact .refl
    · exact runs_removeEntry (entry_of_entryOf he).1

theorem runs_refuseWaiting (s : State) (n : Level) : Runs s (s.refuseWaiting n) := by
  unfold refuseWaiting
  split
  · exact .refl
  next h e he =>
    split
    · exact .refl
    · exact runs_refuseEntry (entry_of_entryOf he).1 _

theorem event_goesAbsent {r p : Bool} {s : State} (hlook : s.work.look = true) (n : Level) (m : Nat) :
    Event r p s (s.goesAbsent n m) :=
  (Event.setShuttle hlook n { s.shuttle n with presence := .absent, miss := m } rfl).trans
    (((runs_dropWaiting _ n).trans ((runs_flushLevel _ n _).trans (runs_emptyBox _ n))).raise _ _).event

theorem event_miss {r p : Bool} {s : State} (hlook : s.work.look = true) (n : Level) : Event r p s (s.miss n) := by
  unfold miss
  dsimp only
  split
  · split
    · exact event_goesAbsent hlook n _
    · exact .setShuttle hlook n _ rfl
  · exact .refl

theorem event_goodAnswer {r p : Bool} {s : State} (hlook : s.work.look = true) (n : Level) : Event r p s (s.goodAnswer n) :=
  .setShuttle hlook n _ rfl

theorem event_intoService {r p : Bool} (s : State) (n : Level) (m : Nat) : Event r p s (s.intoService n m) :=
  .looks (s.seen_setShuttle_presence n { s.shuttle n with presence := .service, miss := m, mark := false } rfl)
    ((runs_refuseWaiting _ n).trans ((runs_flushLevel _ n _).trans (runs_emptyBox _ n)))

theorem event_shuttleMismatch {r p : Bool} (s : State) (n : Level) : Event r p s (s.shuttleMismatch n) :=
  (s.event_intoService n _).trans (Runs.refl.raise _ _).event

theorem event_takeShuttleState {r p : Bool} (s : State) (n : Level) (b : StateBody) : Event r p s (s.takeShuttleState n b) := by
  unfold takeShuttleState
  dsimp only
  split
  next hp =>
    split
    · have hset : Runs s (s.setShuttle n { s.shuttle n with presence := .online, firmware := b.firmware, mark := false }) :=
        s.runs_setShuttle_box n _ (by rw [hp]; rfl) id
      unfold levelOnline
      dsimp only
      split
      · exact (hset.trans (runs_handFlag _ _)).event
      · exact hset.event
    · exact s.event_shuttleMismatch n
  · split
    · exact (s.runs_setShuttle_box n { s.shuttle n with firmware := b.firmware } rfl id).event
    · exact s.event_shuttleMismatch n
  · exact .refl
  · exact .refl
  · exact .refl

theorem event_levelServiceOn {r p : Bool} (s : State) (n : Level) : Event r p s (s.levelServiceOn n).1 := by
  unfold levelServiceOn
  split
  · exact .refl
  · split
    case h_1 | h_5 => exact .refl
    all_goals exact s.event_intoService n 0

theorem event_levelServiceOff {r p : Bool} (s : State) (n : Level) : Event r p s (s.levelServiceOff n) := by
  unfold levelServiceOff
  dsimp only
  split
  case h_1 =>
    exact .looks (s.seen_setShuttle_presence n { s.shuttle n with presence := .returning, miss := 0, mark := true } rfl) .refl
  all_goals exact .refl

theorem event_levelService {r p : Bool} (s : State) (level : Byte) (on : Bool) : Event r p s (s.levelService level on).1 := by
  unfold levelService
  split
  · exact .refl
  next n _ =>
    split
    · cases on
      · exact s.event_levelServiceOff n
      · exact s.event_levelServiceOn n
    · exact .refl

theorem claim_remap (v : Slot) (b : Bool) : (v.remap b).claim = none := by
  cases b <;> rfl

theorem length_box_remap (r : ShuttleRec) (was now : Bool) : (r.remap was now).box.length ≤ r.box.length := by
  cases was <;> cases now <;> first | exact le_rfl | exact Nat.zero_le _

theorem event_applyMap {r p : Bool} (s : State) (map : List Byte) : Event r p s (s.applyMap map) := by
  let u : State := { s with
    slots := vmap s.slots (fun n l => l.map (fun c v => v.remap (mapBit (mapAt map n) c)))
    shuttles := vmap s.shuttles (fun n r => r.remap (s.levelMapped n) (mapAt map n ≠ 0))
    bus := { s.bus with queue := s.bus.queue.filter (fun i => mapAt map i.level ≠ 0) } }
  have hclaim (n : Level) (c : SlotCode) : (u.slot n c).claim = none :=
    (congrArg Slot.claim (slot_vmap s (fun n c v => v.remap (mapBit (mapAt map n) c)) n c)).trans (claim_remap _ _)
  have hbox (n : Level) : (u.shuttle n).box.length ≤ (s.shuttle n).box.length := by
    have : u.shuttle n = (s.shuttle n).remap (s.levelMapped n) (mapAt map n ≠ 0) := getElem_vmap _ _ _ _
    rw [this]
    exact length_box_remap _ _ _
  have hu : Moves { s.seen with sched := { s.sched with included := u.sched.included } } u.seen := by
    refine .tail (.single (Move.claims (claim := u.seen.claim) fun n c k hk => ?_)) (Move.loads u.loads fun h => ?_)
    · exact absurd ((hclaim n c).symm.trans hk) (by simp)
    · obtain ⟨h1, h2, h3, h4, h5, h6, h7⟩ := h
      have hsub : (u.bus.queue.map (fun i => i.level)).Sublist (s.bus.queue.map (fun i => i.level)) :=
        List.filter_sublist.map _
      exact ⟨h1, h2, h3, hsub.length_le.trans h4, fun n => (hsub.count_le n).trans (h5 n), fun n => (hbox n).trans (h6 n), h7⟩
  have hnf := runs_notForwardAll (fun i : LevelItem => i.tel) .unmapped (s.bus.queue.filter (fun i => mapAt map i.level = 0)) u
  have hdoubt (v : State) : Runs v (if map.any (fun b => b ≠ 0) then v.handFlag .doubt else v) := by
    split
    · exact runs_handFlag _ _
    · exact .refl
  exact .looks_of_moves u.sched.included (hu.trans (hnf.trans (hdoubt _).touch))

theorem event_writeMap {r p : Bool} (s : State) (map : List Byte) : Event r p s (s.writeMap map).1 := by
  unfold writeMap
  split
  · exact .refl
  · split
    · exact .refl
    · exact s.event_applyMap map

end State

end Sys2Proof.Machine

namespace Sys2Proof.Machine

namespace State

/-! ### Requests -/

theorem event_writeRow {p : Bool} (s : State) (i : Byte) (w : RowBytes) : Event true p s (s.writeRow i w).1 := by
  unfold writeRow
  split
  · exact .refl
  · split
    · exact .refl
    · split
      · exact .refl
      · split
        · exact .refl
        · exact .write rfl rfl rfl

theorem event_writeTiming {p : Bool} (s : State) (t : Timing) : Event true p s (s.writeTiming t).1 := by
  unfold writeTiming
  split
  · exact .refl
  · split
    · exact .write rfl rfl rfl
    · exact .refl

/-- The classes fixed at HALT keep their disposition (R174). -/
theorem event_writeDisposition {p : Bool} (s : State) (c d : Byte) : Event true p s (s.writeDisposition c d).1 := by
  unfold writeDisposition
  split
  · exact .refl
  next cls _ =>
    split
    · exact .refl
    next hfixed =>
      split
      · exact .refl
      next disp _ =>
        refine ⟨.single (Act.write (a := s.seen) (State.tables { s with faults := { s.faults with
          dispositions := s.faults.dispositions.set cls.idx disp } }) s.notices.attention (fun h => ?_) id), id⟩
        obtain ⟨h9, h12⟩ := h
        have other (c : FaultClass) (hc : c.fixed = true) :
            (s.faults.dispositions.set cls.idx disp)[c.idx] = s.faults.dispositions[c.idx] := by
          have hne : cls ≠ c := fun heq => hfixed (heq ▸ hc)
          have hidx : cls.idx.val ≠ c.idx.val := fun h => hne (by revert h; cases cls <;> cases c <;> decide)
          exact Vector.getElem_set_ne _ _ hidx
        exact ⟨(other .ungrantedAct rfl).trans h9, (other .stopInput rfl).trans h12⟩

theorem event_writePriority {p : Bool} (s : State) (l : List Byte) : Event true p s (s.writePriority l).1 := by
  unfold writePriority
  split
  · exact .refl
  · exact .write rfl rfl rfl

theorem event_writeAddress {p : Bool} (s : State) (g v m : Byte) : Event true p s (s.writeAddress g v m).1 := by
  unfold writeAddress
  split
  · exact .refl
  · split
    · exact .refl
    · exact .write rfl rfl rfl

theorem event_writeEnables {p : Bool} (s : State) (b : Byte) : Event true p s (s.writeEnables b).1 := by
  unfold writeEnables
  split
  · exact .refl
  · dsimp only
    have hwrite : Event true p s { s with notices := NoticeUnit.make s.notices.pending (flagsOf b) } :=
      ⟨.single (Act.write (a := s.seen) (State.tables { s with notices := NoticeUnit.make s.notices.pending (flagsOf b) })
        ((s.notices.pending.both (flagsOf b)).any) id fun h => ⟨h.1, rfl⟩), id⟩
    split
    · exact hwrite.trans (runs_makeNotice _).event
    · exact hwrite

theorem event_writeResumeDefault {p : Bool} (s : State) (b : Byte) : Event true p s (s.writeResumeDefault b).1 := by
  unfold writeResumeDefault
  split
  · exact .write rfl rfl rfl
  · split
    · exact .write rfl rfl rfl
    · exact .refl

theorem runs_append (s : State) (i : Byte) (l : List ToteId) : Runs s (s.append i l).1 := by
  unfold append
  split
  · exact .refl
  · split
    · exact .refl
    · dsimp only
      split
      · exact .refl
      · exact Runs.wantReeval (.of_eq (seen_setStream _ _ _ rfl))

theorem runs_cut (s : State) (i : Byte) (l : List ToteId) : Runs s (s.cut i l).1 := by
  have hlist (i : StreamNo) (c : Cutting) :
      Runs s (if c.removed = 0 then s else (s.shrinkList i c.list).wantReeval) := by
    split
    · exact .refl
    · exact (s.runs_shrinkList _ _).wantReeval
  unfold cut
  split
  · exact .refl
  · split
    · exact .refl
    · exact hlist _ _

theorem runs_unbar (s : State) (i : Byte) (t : ToteId) : Runs s (s.unbar i t).1 := by
  unfold unbar
  split
  · exact .refl
  · split
    · exact .refl
    · split
      · exact .refl
      · split
        · exact Runs.wantReeval (.of_eq (s.seen_changeRel _ _ _))
        · exact .refl

theorem runs_slotSet (s : State) (l c t : Byte) (r : ToteRec) : Runs s (s.slotSet l c t r).1 := by
  unfold slotSet
  split
  next n c isOpen _ _ _ =>
    split
    · exact .refl
    · unfold declare
      dsimp only
      have hset := s.runs_setSlot n c (declaredSlot isOpen (declared s.time r)) (.inl (by cases isOpen <;> rfl))
      split
      · exact hset.wantReeval
      · exact hset.touch
  · exact .refl

theorem runs_clearFault (s : State) (c : Byte) : Runs s (s.clearFault c).1 := by
  unfold clearFault
  split
  · exact .refl
  · split
    · exact .refl
    · exact .of_eq rfl

theorem runs_clearLead (s : State) : Runs s s.clearLead.1 := by
  unfold clearLead
  split
  · exact .refl
  · split
    · exact .refl
    · exact .of_eq rfl

theorem runs_clearParty (s : State) (p : Byte) : Runs s (s.clearParty p).1 := by
  unfold clearParty
  split
  · exact .refl
  · split
    · exact .of_eq rfl
    · exact .refl

theorem seen_clearLowMarkers (s : State) : s.clearLowMarkers.seen = s.seen := by
  refine congrArg (fun f => { s.seen with tables := { s.tables with rows := f } }) (funext fun i => ?_)
  have : s.clearLowMarkers.stream i = { s.stream i with lowMarker := false } := getElem_vmap _ _ _ _
  rw [this]

theorem runs_clearNotice (s : State) (b : Byte) : Runs s (s.clearNotice b).1 := by
  unfold clearNotice
  split
  · exact .refl
  · dsimp only
    refine Runs.trans (t := { s with notices := NoticeUnit.make (s.notices.pending.minus (flagsOf b)) s.notices.enabled })
      (.of_move (.flags (s.notices.pending.minus (flagsOf b))) rfl) (.of_eq ?_)
    rw [seen_refreshNotice]
    split
    · exact seen_clearLowMarkers _
    · rfl

/-- The execution of a request (R184). -/
theorem event_execReq {p : Bool} (s : State) (q : Req) : Event true p s (s.execReq q).1 := by
  cases q with
  | slotMap m => exact s.event_writeMap m
  | routeRow i w => exact s.event_writeRow i w
  | timing t => exact s.event_writeTiming t
  | disposition c d => exact s.event_writeDisposition c d
  | priority l => exact s.event_writePriority l
  | address g v m => exact s.event_writeAddress g v m
  | enables e => exact s.event_writeEnables e
  | resumeDefault b => exact s.event_writeResumeDefault b
  | modeSet t r => exact (s.runs_modeSet t r).event
  | append i l => exact (s.runs_append i l).event
  | cut i l => exact (s.runs_cut i l).event
  | unbar i t => exact (s.runs_unbar i t).event
  | confirm h t => exact (s.runs_decideRequest false h t).event
  | deny h t => exact (s.runs_decideRequest true h t).event
  | slotSet l c t r => exact (s.runs_slotSet l c t r).event
  | levelService l o => exact s.event_levelService l o
  | liftService x o =>
    cases o with
    | true => exact (s.runs_liftServiceOn x).event
    | false => exact (s.runs_liftServiceOff x).event
  | clearFault c => exact (s.runs_clearFault c).event
  | clearLead => exact s.runs_clearLead.event
  | clearParty p => exact (s.runs_clearParty p).event
  | clearNotice f => exact (s.runs_clearNotice f).event
  | statsClear b =>
    show Event true p s (s.readClearStats b).1
    unfold readClearStats
    split
    · exact .refl
    · exact (Runs.of_eq (s := s) (t := s.clearLargest b) rfl).event
  | unknown _ | badForm _ | tableRead _ _ | slotRead _ _ | levelRange _ _ | streamRead _ _ | carriageRead _
  | callRead _ _ | transferRead _ | faultRead _ | presenceRead _ _ | statsRead _ | timeRead | summary => exact .refl

theorem reserved_execHead (s : State) (q : ReqItem) : (s.execHead q).work.reserved = false := by
  unfold execHead
  dsimp only
  split <;> rfl

/-- A request is executed at the head of the queue, its ANSWER in the place that was kept for it (R133). -/
theorem event_execHead {p : Bool} {s : State} {q : ReqItem} (hgo : (!q.answer || s.placeFree) = true) :
    Event true p s (s.execHead q) := by
  let u : State := { s with work := { s.work with reserved := q.answer } }
  let t := (u.execReq q.req).1.finish
  have hkeep : Act true p s.seen u.seen := Act.requests (a := s.seen) s.requests.length q.answer s.loads fun h => by
    refine ⟨?_, h.2⟩
    have hplaces : s.store.upstream.length + (if s.work.reserved = true then 1 else 0) ≤ 64 := h.1
    show s.store.upstream.length + (if q.answer = true then 1 else 0) ≤ 64
    cases hans : q.answer with
    | false => simp; omega
    | true =>
      have hfree := s.placeFree_iff.mp (by simpa [hans] using hgo)
      simp; omega
  have hexec : Event true p u t := (u.event_execReq q.req).trans (event_finish _)
  have hreserved : t.work.reserved = q.answer := by
    show (u.execReq q.req).1.finish.work.reserved = _
    rw [finish_work]
    exact u.execReq_reserved q.req
  have hanswer : Act true p t.seen (s.execHead q).seen := by
    have hseen : (s.execHead q).seen = { t.seen with
        requests := (t.requests.drop 1).length, reserved := false
        loads := { t.loads with upstream := t.store.upstream.length + if q.answer then 1 else 0 } } := by
      unfold execHead
      dsimp only
      split
      next hans =>
        exact congrArg (fun u => { t.seen with
          requests := (t.requests.drop 1).length, reserved := false, loads := { t.loads with upstream := u } })
          (List.length_append ..)
      · rfl
    rw [hseen]
    refine Act.requests _ _ _ fun h => ?_
    obtain ⟨h1, h2, h3, hrest⟩ := h
    refine ⟨?_, h2, ?_, hrest⟩
    · rw [show t.seen.reserved = q.answer from hreserved] at h1
      exact h1
    · show (t.requests.drop 1).length ≤ 4
      have : t.requests.length ≤ 4 := h3
      rw [List.length_drop]
      omega
  exact ⟨.trans (.single hkeep) (.tail hexec.acts hanswer), fun _ => s.reserved_execHead q⟩

theorem event_serveRequests {p : Bool} (k : Nat) (s : State) : Event true p s (s.serveRequests k) := by
  induction k generalizing s with
  | zero => exact .refl
  | succ k ih =>
    unfold serveRequests
    split
    · exact .refl
    · split
      next hgo => exact (event_execHead hgo).trans (ih _)
      · exact .refl

theorem event_enqueue {p : Bool} (s : State) (q : ReqItem) : Event true p s (s.enqueue q) := by
  unfold enqueue
  split
  next hplace =>
    have hjoin : Act true p s.seen (State.seen { s with requests := s.requests ++ [q] }) := by
      rw [show State.seen { s with requests := s.requests ++ [q] } = { s.seen with requests := s.requests.length + 1 } from
        congrArg (fun n => { s.seen with requests := n }) (List.length_append ..)]
      exact Act.requests (a := s.seen) (s.requests.length + 1) s.work.reserved s.loads fun h => ⟨h.1, h.2.1, hplace, h.2.2.2⟩
    exact Event.trans ⟨.single hjoin, id⟩ (event_serveRequests _ _)
  · exact ((s.runs_handFlag .overrun).raise _ _).event

/-- A freed place is used by what waits for it, or a place stays free (R130). -/
theorem event_givePlace {p : Bool} {s : State} {t : Tel} {ts : List Tel} {k : Byte} (hs : s.store.upstream = t :: ts) :
    Event true p s (State.givePlace { s with store := { s.store with upstream := ts, ownTag := k } }) := by
  have hfull : s.loads.upstream = ts.length + 1 := congrArg List.length hs
  unfold givePlace
  dsimp only
  split
  next n _ =>
    refine (Runs.of_eq ?_).event
    show { s.seen with loads := { s.loads with upstream := (ts ++ [n]).length } } = s.seen
    rw [List.length_append, List.length_singleton, ← hfull]
    rfl
  · split
    next n l hasks =>
      refine (Runs.of_move (Move.drop s.seen.claim l (fun _ _ _ => id) ?_) ?_).event
      · show l.Sublist s.unsentAsks
        rw [show s.unsentAsks = n :: l from hasks]
        exact List.sublist_cons_self n l
      · show { s.seen with asks := l, loads := { s.loads with upstream := (ts ++ [n]).length } } = { s.seen with asks := l }
        rw [List.length_append, List.length_singleton, ← hfull]
        rfl
    · have hpop : Runs s { s with store := { s.store with upstream := ts, ownTag := k } } :=
        .of_move (Move.upstream ts.length fun h => by
          rw [show s.seen.loads.upstream = ts.length + 1 from hfull] at h
          omega) rfl
      refine hpop.event.trans ((event_serveRequests Config.requestPlaces _).trans ?_)
      generalize State.serveRequests Config.requestPlaces _ = u
      split
      · exact .refl
      next n l hl =>
        split
        next hfree =>
          have hnf : Runs u { u with store := { u.store with nfWait := l } } := by
            refine .of_move (Move.nfWait l.length fun h => ?_) rfl
            have : u.seen.loads.nfWait = l.length + 1 := congrArg List.length hl
            omega
          exact (hnf.trans (runs_pushUpstream _ n hfree)).event
        · exact .refl

/-! ### The store line transmitter -/

/-- While the controller sends, the store line receiver is in HUNT. -/
theorem event_storeTx {r : Bool} (s : State) (tx : StoreTx) (h : s.store.rx = .hunt ∨ s.store.tx ≠ .idle) :
    Event r true s { s with store := { s.store with tx := tx } } := by
  refine event_ports (p := { s.ports with storeTx := tx }) rfl fun hr => ?_
  have hrx : s.store.rx = .hunt := h.elim id hr.1
  exact hr.store (r := s.store.rx) (hrx ▸ Seen.unended_hunt) fun _ => hrx

theorem event_burst {r : Bool} (s : State) (left : Nat) (tag : Byte) (h : s.store.rx = .hunt ∨ s.store.tx ≠ .idle) :
    Event r true s (s.burst left tag) := by
  unfold burst
  split
  · exact s.event_storeTx _ h
  · exact s.event_storeTx _ h

theorem event_upstreamSent (s : State) : Event true true s s.upstreamSent := by
  unfold upstreamSent
  split
  next left tag t ts htx hup =>
    have hgive : Event true false s _ := event_givePlace (k := countTag t s.store.ownTag) hup
    refine hgive.with_ports.trans (event_burst _ _ _ (.inr ?_))
    have : State.ports _ = s.ports := hgive.ports_eq
    rw [show State.store _ = _ from rfl, show StoreLine.tx _ = s.store.tx from congrArg Ports.storeTx this, htx]
    simp
  · exact .refl

end State

end Sys2Proof.Machine

namespace Sys2Proof.Machine

namespace State

/-! ### Telegrams of parties -/

theorem runs_takeFetchAsk (s : State) (p : Party) (tag wait count : Byte) : Runs s (s.takeFetchAsk p tag wait count) :=
  s.runs_ask _ _

theorem event_handOn {r b : Bool} (s : State) (p : Party) (tag : Byte) (t : PartyTel) : Event r b s (s.handOn p tag t) := by
  cases t with
  | idle => exact .refl
  | placeAsk w n body => exact (s.runs_takePlaceAsk p tag w n body).event
  | fetchAsk w n => exact (s.runs_takeFetchAsk p tag w n).event
  | report k h ids => exact (s.runs_takeReport p k tag h ids).event
  | quit h => exact (s.runs_takeQuit p tag h).event
  | state body =>
    cases p with
    | shuttle n => exact s.event_takeShuttleState n body
    | lift x => exact (s.runs_takeLiftState x body).event
  | visitOpen _ _ _ | visitClose | nextCall | load _ | unload _ =>
    unfold handOn
    cases p with
    | shuttle n => exact .refl
    | lift x => exact (s.runs_toCoordinator x tag _).event

theorem runs_forwardReport (s : State) (p : Party) (t : Tel) : Runs s (s.forwardReport p t) := by
  unfold forwardReport
  split
  next h =>
    have hfree : s.placeFree = true :=
      decide_eq_true (Nat.lt_trans (show s.upstreamUsed < Config.reportPlaces from h) (by decide))
    exact s.runs_pushUpstream t hfree
  · exact s.runs_sendParty _ _ _

theorem event_judgeMachine {r b : Bool} (s : State) (p : Party) (f : Frame) : Event r b s (s.judgeMachine p f) := by
  have hraise (c : FaultClass) : Event r b s (s.raise c (some p)) := (Runs.refl.raise _ _).event
  unfold judgeMachine
  split
  · exact hraise _
  · split
    · exact hraise _
    · split
      · exact (s.runs_forwardReport p _).event
      · split
        · split
          · exact s.event_handOn p _ _
          · exact hraise _
        · exact hraise _

/-- The answer of a turn that is judged: the turn ends, and the level's answer is good or a miss. -/
theorem event_turn_miss {r : Bool} (s : State) (n : Level) : Event r true s (s.endTurn.miss n) :=
  s.event_endTurn.trans (event_miss rfl n)

theorem event_turn_goodAnswer {r : Bool} (s : State) (n : Level) : Event r true s (s.endTurn.goodAnswer n) :=
  s.event_endTurn.trans (event_goodAnswer rfl n)

/-! ### The store line -/

theorem runs_admitOrder {s : State} {p : Party} (h : s.orderRefusal p = none) (t : Tel) : Runs s (s.admitOrder p t) := by
  cases p with
  | shuttle n =>
    unfold orderRefusal at h
    dsimp only at h
    split at h <;> try contradiction
    split at h
    next hplaces =>
      obtain ⟨hall, hlevel⟩ := hplaces
      refine .of_move (Move.queue (s.loads.queue ++ [n]) fun _ h4 => ⟨?_, fun m => ?_⟩) ?_
      · rw [List.length_append, show s.loads.queue.length = s.bus.queue.length from List.length_map _]
        exact hall
      · rw [List.count_append]
        by_cases hm : m = n
        · subst hm
          have : s.loads.queue.count m = s.levelWaiting m := by
            unfold levelWaiting loads
            rw [List.count, List.countP_map, List.countP_eq_length_filter]
            rfl
          rw [this]
          simpa [Config.levelQueueShare] using hlevel
        · have hold : s.loads.queue.count m ≤ 4 := h4 m
          simpa [Ne.symm hm] using hold
      · refine congrArg (fun q => { s.seen with loads := { s.loads with queue := q } }) ?_
        exact List.map_append
    · contradiction
  | lift x =>
    unfold orderRefusal at h
    dsimp only at h
    split at h <;> try contradiction
    split at h
    next hplaces =>
      obtain ⟨hforward, hall⟩ := hplaces
      refine s.runs_setLink x { s.link x with down := (s.link x).down ++ [_] } rfl fun _ => ⟨?_, ?_⟩
      · simpa [Config.liftQueuePlaces] using hall
      · simpa [Config.liftForwardPlaces] using hforward
    · contradiction

theorem runs_takeOrder (s : State) (p : Party) (t : Tel) : Runs s (s.takeOrder p t) := by
  unfold takeOrder
  split
  next h => exact runs_admitOrder h t
  · exact s.runs_sendNotForwarded _ t

theorem event_takeRequest {p : Bool} (s : State) (m : AisleMatch) (tag : Byte) (q : Req) :
    Event true p s (s.takeRequest m tag q) := by
  cases m with
  | nothing => exact .refl
  | _ => exact s.event_enqueue _

theorem event_takeRequestBody {p : Bool} (s : State) (m : AisleMatch) (tag : Byte) (body : List Byte) :
    Event true p s (s.takeRequestBody m tag body) := by
  unfold takeRequestBody
  split
  · exact (Runs.refl.raise _ _).event
  · split
    · exact s.event_takeRequest m tag _
    · exact (Runs.refl.raise _ _).event

/-- The frame brings no request, unless a request may be executed. -/
def Frame.Allows (r : Bool) (f : Frame) : Prop := r = true ∨ ¬ (f.dstStation = 0 ∧ f.kind = kRequest)

theorem event_judgeStore {r : Bool} {s : State} {f : Frame} (ha : Frame.Allows r f) (hrx : s.store.rx = .hunt) :
    Event r true s (s.judgeStore f) := by
  have hraise (c : FaultClass) : Event r true s (s.raise c none) := (Runs.refl.raise _ _).event
  have hbody (m : AisleMatch) (h0 : f.dstStation = 0) (hk : f.kind = kRequest) :
      Event r true s (s.takeRequestBody m f.tag f.body) := by
    rcases ha with rfl | hno
    · exact s.event_takeRequestBody m _ _
    · exact absurd ⟨h0, hk⟩ hno
  have hshared (m : AisleMatch) : Event r true s (s.judgeShared m f) := by
    unfold judgeShared
    split
    next h => exact hbody m h.1 h.2
    · exact .refl
  have hcontroller (h0 : f.dstStation = 0) : Event r true s (s.judgeController f) := by
    unfold judgeController
    split
    · split
      · exact event_burst _ _ _ (.inl hrx)
      · exact hraise _
    · split
      next hk => exact hbody .unique h0 hk
      · exact hraise _
  have hunique : Event r true s (s.judgeUnique f) := by
    unfold judgeUnique
    split
    · exact hraise _
    · split
      next h0 => exact hcontroller h0
      · split
        · exact ((s.runs_sendNotForwarded _ _).raise _ _).event
        · split
          · exact (s.runs_takeOrder _ _).event
          · exact hraise _
  unfold judgeStore
  split
  · exact .refl
  · exact hunique
  · exact hshared _
  · exact hshared _

theorem event_onStoreLine {r : Bool} (s : State) {f : Frame} (ha : Frame.Allows r f) : Event r true s (s.onStoreLine f) := by
  unfold onStoreLine
  split
  · split
    · exact s.event_storeHunt.trans (event_judgeStore ha rfl)
    · exact s.event_storeHunt.trans (Runs.refl.raise _ _).event
  · exact .refl

theorem event_onRequest (s : State) (h : StoreHdr) (fits : Bool) (q : Req) : Event true true s (s.onRequest h fits q) := by
  unfold onRequest
  split
  · split
    · exact s.event_storeHunt.trans (event_takeRequest _ _ _ _)
    · exact s.event_storeHunt.trans (Runs.refl.raise _ _).event
  · exact .refl

/-! ### Reception -/

theorem event_onPort {r : Bool} (s : State) (p : Party) (f : Frame) : Event r true s (s.onPort p f) := by
  cases p with
  | lift x =>
    unfold onPort
    dsimp only
    split
    · exact (s.event_linkHunt x).trans (event_judgeMachine _ _ _)
    · exact .refl
  | shuttle n =>
    unfold onPort
    dsimp only
    split
    · split
      · split
        · exact (s.event_turn_goodAnswer n).trans (event_judgeMachine _ _ _)
        · exact s.event_turn_miss _
      · exact .refl
    · exact .refl
    · exact .refl

theorem event_turnReception {r : Bool} (s : State) (n : Level) {o : Reception} : Event r true s (s.turnReception n o) := by
  cases o with
  | nothing => exact .refl
  | failed c => exact s.event_endTurn.trans ((Runs.refl.raise c (some (.shuttle n))).event.trans (event_miss rfl n))
  | sound f =>
    unfold turnReception
    dsimp only
    split
    · exact (s.event_turn_goodAnswer n).trans (event_judgeMachine _ _ _)
    · exact s.event_turn_miss n

theorem event_linkReception {r : Bool} (s : State) (x : Lift) {o : Reception} : Event r true s (s.linkReception x o) := by
  cases o with
  | nothing => exact .refl
  | failed c => exact (s.event_linkHunt x).trans (Runs.refl.raise _ _).event
  | sound f => exact (s.event_linkHunt x).trans (event_judgeMachine _ _ _)

theorem event_storeReception {r : Bool} (s : State) {o : Reception} (ha : ∀ f, o = .sound f → Frame.Allows r f) :
    Event r true s (s.storeReception o) := by
  cases o with
  | nothing => exact .refl
  | failed c => exact s.event_storeHunt.trans (Runs.refl.raise _ _).event
  | sound f => exact s.event_storeHunt.trans (event_judgeStore (ha f rfl) rfl)

theorem event_reception {r : Bool} (s : State) (port : Port) {o : Reception}
    (ha : ∀ f, port = .storeLine → o = .sound f → Frame.Allows r f) : Event r true s (s.reception port o) := by
  cases port with
  | storeLine => exact s.event_storeReception fun f => ha f rfl
  | link x => exact s.event_linkReception x
  | levelBus =>
    unfold reception
    dsimp only
    split
    · exact s.event_turnReception _
    · exact .refl
    · exact .refl

theorem event_truncate {r : Bool} (s : State) (port : Port) : Event r true s (s.truncate port) := by
  unfold truncate
  split
  · exact .refl
  · exact .refl
  · exact s.event_reception port fun f _ h => nomatch h

theorem event_overlong {r : Bool} (s : State) (p : Party) : Event r true s (s.overlong p) := by
  unfold overlong
  split
  · exact s.event_reception _ fun f _ h => nomatch h
  · exact .refl

theorem event_telegram {r : Bool} (s : State) (p : Party) (tag : Byte) (length : Nat) (fits : Bool) (t : PartyTel) :
    Event r true s (s.telegram p tag length fits t) := by
  have htake (u : State) : Event r true u (if fits then u.handOn p tag t else u.raise .linkForm (some p)) := by
    split
    · exact u.event_handOn p tag t
    · exact (Runs.refl.raise _ _).event
  unfold telegram
  dsimp only
  split
  · split
    next x =>
      split
      · exact (s.event_linkHunt x).trans (htake _)
      · exact .refl
    next n =>
      split
      · split
        · split
          · exact (s.event_turn_goodAnswer n).trans (htake _)
          · exact s.event_turn_miss _
        · exact .refl
      · exact .refl
      · exact .refl
  · exact s.event_overlong p

end State

end Sys2Proof.Machine

namespace Sys2Proof.Machine

namespace State

theorem event_setRx_link {r : Bool} (s : State) (x : Lift) (cs : List Character) :
    Event r true s (s.setRx (.link x) ((s.link x).rx.take cs).1) :=
  event_ports (s.seen_setRx_link x _) fun h => h.link x (take_unended cs (h.2.2 (.link x)))

theorem event_setRx_storeLine {r : Bool} (s : State) (cs : List Character) :
    Event r true s (s.setRx .storeLine ((s.rx .storeLine).take cs).1) := by
  refine event_ports (p := { s.ports with storeRx := ((s.rx .storeLine).take cs).1 }) rfl fun h => ?_
  refine h.store (tx := s.store.tx) (take_unended cs (h.2.2 .storeLine)) fun hbusy => ?_
  have hrx : s.rx .storeLine = .hunt := if_neg hbusy
  rw [hrx]
  rfl

/-- Characters arrive on the level bus. -/
theorem event_arrive_levelBus {r : Bool} (s : State) (cs : List Character) : Event r true s (s.arrive .levelBus cs) := by
  by_cases hturn : ∃ n, s.bus.turn = .awaiting n
  · obtain ⟨n, hn⟩ := hturn
    have hrx : s.rx .levelBus = s.bus.rx := by simp [rx, hn]
    unfold arrive
    rw [hrx]
    have hrec (v : Rx) (o : Reception) : (s.setRx .levelBus v).reception .levelBus o = (s.setRx .levelBus v).turnReception n o := by
      simp [reception, setRx, hn]
    rw [hrec]
    cases ho : (s.bus.rx.take cs).2 with
    | nothing =>
      refine event_ports (p := { s.ports with busRx := (s.bus.rx.take cs).1 }) rfl fun h => ?_
      have hawait : s.bus.rx ≠ .hunt := h.2.1.mpr ⟨n, hn⟩
      have hunended : Seen.Unended s.bus.rx := by
        have := h.2.2 .levelBus
        rwa [show s.seen.rx .levelBus = s.bus.rx from hrx] at this
      exact h.bus (t := s.bus.turn) s.sched (take_unended cs hunended)
        ⟨fun _ => ⟨n, hn⟩, fun _ => take_ne_hunt hawait ho⟩
    | failed c =>
      exact s.event_endTurn.trans ((Runs.refl.raise c (some (.shuttle n))).event.trans (event_miss rfl n))
    | sound f =>
      unfold turnReception
      dsimp only
      split
      · exact (s.event_turn_goodAnswer n).trans (event_judgeMachine _ _ _)
      · exact s.event_turn_miss n
  · have hrx : s.rx .levelBus = .hunt := by
      unfold rx
      dsimp only
      split
      next n hn => exact absurd ⟨n, hn⟩ hturn
      · rfl
      · rfl
    unfold arrive
    rw [hrx]
    refine event_ports (p := { s.ports with busRx := .hunt }) ?_ fun h => ?_
    · rw [show (Rx.hunt.take cs).2 = .nothing from rfl, reception_nothing]
      rfl
    · exact h.bus (t := s.bus.turn) s.sched Seen.unended_hunt
        ⟨fun hh => absurd rfl hh, fun hh => absurd hh hturn⟩

/-- Characters arrive on a port. -/
theorem event_arrive {r : Bool} (s : State) (port : Port) (cs : List Character)
    (ha : ∀ f, port = .storeLine → Frame.Allows r f) : Event r true s (s.arrive port cs) := by
  cases port with
  | storeLine => exact (s.event_setRx_storeLine cs).trans (event_reception _ .storeLine fun f hp _ => ha f hp)
  | link x => exact (s.event_setRx_link x cs).trans (event_reception _ (.link x) fun f hp _ => ha f hp)
  | levelBus => exact s.event_arrive_levelBus cs

/-! ### The lift links -/

theorem length_beginItem (f : DownItem → Bool) (l : List DownItem) :
    (beginItem f l).length = l.length
      ∧ ((beginItem f l).filter (fun i => !i.own)).length = (l.filter (fun i => !i.own)).length := by
  induction l with
  | nil => exact ⟨rfl, rfl⟩
  | cons i l ih =>
    unfold beginItem
    split
    · exact ⟨rfl, by cases hi : i.own <;> simp [hi]⟩
    · obtain ⟨h1, h2⟩ := ih
      exact ⟨by simp [h1], by cases hi : i.own <;> simp [hi, h2]⟩

theorem length_beginDown (l : List DownItem) :
    (beginDown l).length = l.length
      ∧ ((beginDown l).filter (fun i => !i.own)).length = (l.filter (fun i => !i.own)).length := by
  unfold beginDown
  split
  · exact ⟨rfl, rfl⟩
  · split
    · exact length_beginItem _ l
    · exact length_beginItem _ l

theorem runs_beginFrame (s : State) (x : Lift) : Runs s (s.beginFrame x) := by
  obtain ⟨h1, h2⟩ := length_beginDown (s.link x).down
  exact s.runs_setLink x { s.link x with down := beginDown (s.link x).down } rfl fun h => ⟨h1.le.trans h.1, h2.le.trans h.2⟩

theorem runs_liftSent (s : State) (x : Lift) : Runs s (s.liftSent x) := by
  unfold liftSent
  dsimp only
  split
  · exact .refl
  · exact s.runs_setLink_sub x _ rfl List.filter_sublist

/-! ### Every command -/

theorem runs_setStop (s : State) (b : Bool) : Runs s (s.setStop b) := .of_eq rfl


end State

end Sys2Proof.Machine

namespace Sys2Proof.Machine

open Host (Outcome)

/-- The outcome is a next state that an event leads to and that leaves nothing to do. -/
def Answers (r : Bool) (s : State) (o : Outcome State Fault Refusal) : Prop :=
  ∃ t, o = .next t ∧ Event r true s t ∧ (s.Rests → t.Rests)

/-- A command that ends with its changes passed on and its faults raised. -/
theorem Answers.done {r : Bool} {s t : State} (h : Event r true s t) : Answers r s (done t) := by
  refine ⟨t.finish, rfl, h.trans (State.event_finish t), fun hs => ?_⟩
  have hr : t.work.reserved = false := h.reserved (congrArg Work.reserved hs)
  show t.finish.work = Work.done
  rw [State.finish_work, hr]
  rfl

/-- A command that leaves what is to be done as it was. -/
theorem Answers.next {r : Bool} {s t : State} (h : Event r true s t) (hw : t.work = s.work) : Answers r s (.next t) :=
  ⟨t, rfl, h, fun hs => hw.trans hs⟩

namespace State

theorem work_giveTurn (s : State) (n : Level) : (s.giveTurn n).work = s.work := by
  unfold giveTurn
  dsimp only
  repeat' split
  all_goals rfl

theorem work_startTurn (s : State) : s.startTurn.work = s.work := by
  unfold startTurn
  split
  · split
    · exact work_giveTurn _ _
    · rfl
  · rfl
  · rfl

theorem work_frameSent (s : State) : s.frameSent.work = s.work := by
  unfold frameSent
  split
  · rfl
  · rfl
  · split <;> rfl

theorem work_ready (s : State) (port : Port) : (s.ready port).work = s.work := by
  cases port with
  | storeLine => unfold ready; dsimp only; split <;> rfl
  | link x => exact setLink_work _ _ _
  | levelBus => rfl

theorem work_liftSent (s : State) (x : Lift) : (s.liftSent x).work = s.work := by
  unfold liftSent
  dsimp only
  split
  · rfl
  · exact setLink_work _ _ _

theorem work_askIntervalOut (s : State) (x : Lift) : (s.askIntervalOut x).work = s.work := by
  unfold askIntervalOut
  split
  · unfold sendStateAsk
    dsimp only
    split
    · rw [setLink_work, setLift_work]
    · rw [setLift_work]
  · rfl

end State

theorem requested_answers (h : StoreHdr) (q : Req) (s : State) : Answers true s (requested h q s) :=
  .done (s.event_onRequest h true q)

/-- No command but a tick and a full reset does more than an event; one that brings no request executes none. -/
theorem exec_answers {r : Bool} {c : Instr} (s : State) (hc : r = true ∨ bringsNoRequest c = true)
    (hreset : ∀ w b, c ≠ .fullReset w b) (htick : c ≠ .tick) : Answers r s (exec c s) := by
  cases c with
  | fullReset w b => exact absurd rfl (hreset w b)
  | tick => exact absurd rfl htick
  | stopInputAsserted =>
    show Answers r s (execStopInputAsserted s)
    unfold execStopInputAsserted
    split
    · exact .next .refl rfl
    · exact .done ((s.runs_setStop true).raise _ _).event
  | stopInputReleased => exact .next (s.runs_setStop false).event rfl
  | telegramTruncated port => exact .done (s.event_truncate port)
  | discardedTelegram port first rest =>
    refine .done (s.event_arrive port (first :: rest) fun f hp => ?_)
    subst hp
    exact hc.imp id fun h => by simp [bringsNoRequest] at h
  | storeOrder h station kind body =>
    refine .done (s.event_onStoreLine (hc.imp id fun hb => ?_))
    rintro ⟨h0, -⟩
    simp [bringsNoRequest] at hb
    exact hb h0
  | machineReport p tag kind body =>
    refine .done ?_
    split
    · exact s.event_onPort p _
    · exact s.event_overlong p
  | storePoll h burst => exact .done (s.event_onStoreLine (.inr fun ⟨_, hk⟩ => absurd (show kStorePoll = kRequest from hk) (by decide)))
  | request h body =>
    obtain rfl : r = true := hc.resolve_right Bool.false_ne_true
    exact .done (s.event_onStoreLine (.inl rfl))
  | idle p tag => exact .done (s.event_telegram p tag _ _ _)
  | placeAsk p tag wait count body => exact .done (s.event_telegram p tag _ _ _)
  | fetchAsk p tag wait count => exact .done (s.event_telegram p tag _ _ _)
  | placed p tag handle ids => exact .done (s.event_telegram p tag _ _ _)
  | fetched p tag handle ids => exact .done (s.event_telegram p tag _ _ _)
  | quit p tag handle => exact .done (s.event_telegram p tag _ _ _)
  | state x tag body => exact .done (s.event_telegram _ tag _ _ _)
  | shuttleState n tag body => exact .done (s.event_telegram _ tag _ _ _)
  | visitOpen x tag level p f => exact .done (s.event_telegram _ tag _ _ _)
  | visitClose x tag => exact .done (s.event_telegram _ tag _ _ _)
  | nextCall x tag => exact .done (s.event_telegram _ tag _ _ _)
  | load x tag totes => exact .done (s.event_telegram _ tag _ _ _)
  | unload x tag ids => exact .done (s.event_telegram _ tag _ _ _)
  | turnStart => exact .next s.event_startTurn s.work_startTurn
  | turnFrameSent => exact .next s.event_frameSent s.work_frameSent
  | turnAnswer chars => exact .done (s.event_arrive .levelBus chars fun f hp => nomatch hp)
  | turnStartLimit =>
    show Answers r s (execTurnStartLimit s)
    unfold execTurnStartLimit
    split
    · split
      · exact .done (s.event_turn_miss _)
      · exact .next .refl rfl
    · exact .next .refl rfl
    · exact .next .refl rfl
  | turnCompletionLimit => exact .done (s.event_truncate .levelBus)
  | liftTelegramSent x => exact .next (s.runs_liftSent x).event (s.work_liftSent x)
  | liftFrameBegun x => exact .next (s.runs_beginFrame x).event (State.setLink_work _ _ _)
  | receiverReady port => exact .next (s.event_ready port) (s.work_ready port)
  | actTimerExpiry h => exact .done (s.runs_actExpiry h).event
  | holdTimerExpiry h => exact .done (s.runs_holdExpiry h).event
  | confirmTimerExpiry h => exact .done (s.runs_confirmExpiry h).event
  | visitTimerExpiry x => exact .done (s.runs_visitExpiry x).event
  | stateAskInterval x => exact .next (s.runs_askIntervalOut x).event (s.work_askIntervalOut x)
  | upstreamTelegramSent =>
    obtain rfl : r = true := hc.resolve_right Bool.false_ne_true
    exact .done s.event_upstreamSent
  | slotMapWrite | priorityListWrite | streamAppend | streamCut =>
    obtain rfl : r = true := hc.resolve_right Bool.false_ne_true
    exact .done (s.event_onRequest _ _ _)
  | routeTableWrite | timingTableWrite | dispositionTableWrite | addressEntriesWrite | noticeEnablesWrite
  | resumeDefaultWrite | tableRead | entryIntoRun | modeSetConfig | entryIntoDrain | returnToRun | entryIntoHalt
  | resumeReissue | resumeRevoke | cleanupIntoConfig | unbar | confirm | deny | slotSet | levelServiceOn
  | levelServiceOff | liftServiceOn | liftServiceOff | clearFault | clearLead | clearParty | clearNotice | slotRead
  | levelRangeRead | streamRead | carriageAndVisitRead | callQueueRead | transferTableRead | faultRead | presenceRead
  | statisticsRead | statisticsReadAndClear | aisleTimeRead | statusSummary =>
    obtain rfl : r = true := hc.resolve_right Bool.false_ne_true
    exact requested_answers _ _ s

/-- What is seen of a tick: the timers of the entries run, and the aisle time goes on. -/
theorem State.seen_tick (s : State) : ∃ f : Entry → Ticks,
    s.tick.seen = { s.seen with
      time := s.time + 1, table := fun h => (s.entry h).map (fun e => { e with timer := f e }) } := by
  have hvisit : (fun x => (s.tick.lift x).visit.isSome) = fun x => (s.lift x).visit.isSome := by
    funext x
    have : s.tick.lift x = (s.lift x).tick (s.mode = .halt) := by cases x <;> rfl
    rw [this, LiftRec.tick]
    dsimp only
    split
    · rfl
    · exact Option.isSome_map
  have htable : ∃ f : Entry → Ticks, s.tick.entry = fun h => (s.entry h).map (fun e => { e with timer := f e }) := by
    by_cases hm : s.mode = .halt
    · refine ⟨fun e => e.timer, funext fun h => ?_⟩
      have : s.tick.entry h = s.entry h := by simp [tick, entry, hm]
      rw [this]
      exact Option.map_id'.symm ▸ rfl
    · refine ⟨fun e => countDown e.timer, funext fun h => ?_⟩
      simp [tick, entry, hm]
      rfl
  obtain ⟨f, hf⟩ := htable
  refine ⟨f, ?_⟩
  calc s.tick.seen
      = { s.seen with time := s.time + 1, table := s.tick.entry, visit := fun x => (s.tick.lift x).visit.isSome } := rfl
    _ = _ := by rw [hvisit, hf]; rfl

/-- The state of a full reset, before a stop input found asserted is raised. -/
theorem exec_fullReset (w : Byte) (b : Bool) (s : State) : ∃ t, exec (.fullReset w b) s = .next t
    ∧ Event true true { State.resetWith w b with pending := s.pending } t ∧ t.Rests := by
  have h : Answers true { State.resetWith w b with pending := s.pending } (exec (.fullReset w b) s) := by
    refine .done ?_
    split
    · exact (Runs.refl.raise _ _).event
    · exact .refl
  obtain ⟨t, ht, he, hr⟩ := h
  exact ⟨t, ht, he, hr rfl⟩

/-- What holds after a full reset, is kept by every act and does not depend on the aisle time or the waiting commands, every
step keeps. -/
theorem step_keeps {P : Seen → Prop} (hact : ∀ a b, Act true true a b → P a → P b)
    (hclock : ∀ a time pending, P a → P { a with time := time, pending := pending })
    (hreset : ∀ w b, P (State.resetWith w b).seen) {s t : State} (h : step s = .next t) (hs : P s.seen) : P t.seen := by
  unfold step at h
  split at h
  · cases h
    exact hs
  next c rest _ =>
    have hs' : P (s.withPending rest).seen := hclock s.seen s.time rest hs
    by_cases hr : ∃ w b, c = .fullReset w b
    · obtain ⟨w, b, rfl⟩ := hr
      obtain ⟨t', ht', he, -⟩ := exec_fullReset w b (s.withPending rest)
      cases h.symm.trans ht'
      exact he.acts.keep hact (hclock _ 0 rest (hreset w b))
    · by_cases htick : c = .tick
      · subst htick
        cases h
        obtain ⟨f, hf⟩ := (s.withPending rest).seen_tick
        rw [hf]
        exact hclock _ _ rest (hact _ _ (.moves (.single (Move.timers f))) hs')
      · obtain ⟨t', ht', he, -⟩ := exec_answers (s.withPending rest) (.inl rfl) (fun w b hc => hr ⟨w, b, hc⟩) htick
        cases h.symm.trans ht'
        exact he.acts.keep hact hs'

/-- A step leaves nothing to do for a later one (log 7). -/
theorem step_rests {s t : State} (h : step s = .next t) (hs : s.Rests) : t.Rests := by
  unfold step at h
  split at h
  · cases h
    exact hs
  next c rest _ =>
    by_cases hr : ∃ w b, c = .fullReset w b
    · obtain ⟨w, b, rfl⟩ := hr
      obtain ⟨t', ht', -, ht⟩ := exec_fullReset w b (s.withPending rest)
      cases h.symm.trans ht'
      exact ht
    · by_cases htick : c = .tick
      · subst htick
        cases h
        exact hs
      · obtain ⟨t', ht', -, ht⟩ := exec_answers (s.withPending rest) (.inl rfl) (fun w b hc => hr ⟨w, b, hc⟩) htick
        cases h.symm.trans ht'
        exact ht hs

end Sys2Proof.Machine

/-! ## The invariants and the frame of a step (O2 to O8) -/

namespace Sys2Proof.Machine

/-! ### The state of a full reset -/

section Reset
variable (w : Byte) (b : Bool)

@[simp] theorem slot_resetWith (n : Level) (c : SlotCode) : (State.resetWith w b).slot n c = .off := by
  have h : (Vector.replicate 40 LevelSlots.allOff)[n] = LevelSlots.allOff := Vector.getElem_replicate n.isLt
  show LevelSlots.get (Vector.replicate 40 LevelSlots.allOff)[n] c = .off
  rw [h]
  cases c <;> rfl

@[simp] theorem entry_resetWith (h : Handle) : (State.resetWith w b).entry h = none := Vector.getElem_replicate h.isLt

@[simp] theorem shuttle_resetWith (n : Level) : (State.resetWith w b).shuttle n = ShuttleRec.resetValues :=
  Vector.getElem_replicate n.isLt

@[simp] theorem lift_resetWith (x : Lift) : (State.resetWith w b).lift x = LiftRec.resetValues := by cases x <;> rfl

@[simp] theorem link_resetWith (x : Lift) :
    (State.resetWith w b).link x = LinkRec.resetValues (switchAisle w) x.station := by cases x <;> rfl

theorem places_resetWith : (State.resetWith w b).seen.Places := by
  refine ⟨Nat.zero_le _, Nat.zero_le _, Nat.zero_le _, Nat.zero_le _, fun n => Nat.zero_le _, fun n => ?_, fun x => ?_⟩
  · show ((State.resetWith w b).shuttle n).box.length ≤ 2
    rw [shuttle_resetWith]
    exact Nat.zero_le _
  · show ((State.resetWith w b).link x).down.length ≤ 8
      ∧ (((State.resetWith w b).link x).down.filter (fun i => !i.own)).length ≤ 6
    rw [link_resetWith]
    exact ⟨show 1 ≤ 8 by decide, Nat.zero_le _⟩

theorem oneEach_resetWith : (State.resetWith w b).seen.OneEach := by
  intro h k e f he
  exact absurd ((entry_resetWith w b h).symm.trans he) (by simp)

theorem emptyInConfig_resetWith : (State.resetWith w b).seen.EmptyInConfig := by
  refine fun _ => ⟨entry_resetWith w b, fun x => ?_⟩
  show ((State.resetWith w b).lift x).visit.isSome = false
  rw [lift_resetWith]
  rfl

theorem asksHeld_resetWith : (State.resetWith w b).seen.AsksHeld :=
  ⟨fun _ => Nat.zero_le _, fun t ht => absurd ht List.not_mem_nil, fun h e he => absurd ((entry_resetWith w b h).symm.trans he) (by simp)⟩

theorem owned_resetWith : (State.resetWith w b).seen.Owned := by
  intro n c k hk
  have : ((State.resetWith w b).slot n c).claim = some k := hk
  rw [slot_resetWith] at this
  contradiction

theorem receivers_resetWith : (State.resetWith w b).seen.Receivers := by
  refine ⟨fun _ => rfl, ⟨fun h => absurd rfl h, fun ⟨n, hn⟩ => absurd hn (by simp [State.seen, State.resetWith, Bus.resetValues])⟩, fun port => ?_⟩
  cases port with
  | storeLine => exact Seen.unended_hunt
  | levelBus => exact Seen.unended_hunt
  | link x =>
    show Seen.Unended ((State.resetWith w b).link x).rx
    rw [link_resetWith]
    exact Seen.unended_hunt

theorem ready_resetWith : (State.resetWith w b).seen.Ready := by
  have hincluded (n : Level) (probe : Bool) : ((State.resetWith w b).shuttle n).presence.included probe = false := by
    rw [shuttle_resetWith]
    rfl
  refine ⟨⟨fun h => absurd rfl h, fun n hn => absurd hn (by simp [State.seen, State.sched, State.resetWith, Bus.resetValues]), fun _ => ⟨rfl, rfl⟩⟩,
    fun _ => ⟨fun n hn => absurd hn (by simp [State.seen, State.sched, State.resetWith, Bus.resetValues]), fun _ _ => ⟨rfl, fun n => hincluded n true⟩⟩⟩

end Reset

/-! ### The statements' properties, of what is seen -/

theorem receiversFollow_iff (s : State) : ReceiversFollow s ↔ s.seen.Receivers := by
  have hrx (port : Port) : s.seen.rx port = s.rx port := by cases port <;> rfl
  refine and_congr Iff.rfl (and_congr Iff.rfl (forall_congr' fun port => ?_))
  unfold Seen.Unended
  rw [hrx]

theorem schedulerFollows_iff {s : State} (hs : s.Rests) : SchedulerFollows s ↔ s.seen.Ready := by
  have hlook : s.seen.sched.look = false := congrArg Work.look hs
  constructor
  · rintro ⟨hturn, hnext, hidle, hcycle⟩
    exact ⟨⟨hturn, fun n hn => ⟨(hnext n hn).1, (hnext n hn).2.2⟩, hcycle⟩, fun _ => ⟨fun n hn => (hnext n hn).2.1, hidle⟩⟩
  · rintro ⟨⟨hturn, hnext, hcycle⟩, hfound⟩
    obtain ⟨hincluded, hidle⟩ := hfound hlook
    exact ⟨hturn, fun n hn => ⟨(hnext n hn).1, hincluded n hn, (hnext n hn).2⟩, hidle, hcycle⟩

theorem oneEntryEach_iff (s : State) : OneEntryEach s ↔ s.seen.OneEach :=
  ⟨fun hs h k e f he hf => hs h k e he f hf, fun hs h k e he f hf => hs h k e f he hf⟩

theorem configEmpty_iff (s : State) : ConfigEmpty s ↔ s.seen.EmptyInConfig :=
  forall_congr' fun _ => and_congr Iff.rfl (forall_congr' fun _ => Option.isSome_eq_false_iff.trans Option.isNone_iff_eq_none |>.symm)

theorem asksOwned_iff (s : State) : AsksOwned s ↔ s.seen.AsksHeld := by
  refine and_congr (forall_congr' fun h => ?_) (and_congr Iff.rfl ?_)
  · unfold Seen.askShare
    exact Iff.rfl
  · exact ⟨fun hs h e he => hs h e he, fun hs h e he => hs h e he⟩

theorem claimsOwned_iff (s : State) : ClaimsOwned s ↔ s.seen.Owned := by
  refine forall_congr' fun n => forall_congr' fun c => ?_
  exact ⟨fun hs k hk => (hs k hk).imp fun e he => ⟨he.1, he.2⟩, fun hs k hk => (hs k hk).imp fun e he => ⟨he.1, he.2⟩⟩

/-! ### The unsent CONFIRM-ASKs -/

/-- The lift of the handle of an entry in CONFIRMING. -/
theorem lift_of_confirmsLift {e : Entry} (h : e.confirmsLift = true) : ∃ x, e.party = .lift x := by
  unfold Entry.confirmsLift at h
  split at h <;> first | contradiction | exact ⟨_, ‹_›⟩

/-- Two lifts have at most one entry each, and an entry at most two totes, so at most four CONFIRM-ASKs stay unsent
(R107). -/
theorem Seen.length_asks {a : Seen} (h1 : a.OneEach) (h : a.AsksHeld) : a.asks.length ≤ 4 := by
  obtain ⟨hshare, habout, htwo⟩ := h
  have two (k : Handle) : (a.asks.filter (fun t => t.asksAbout k)).length ≤ 2 := by
    refine (hshare k).trans ?_
    unfold askShare
    split
    next e he =>
      split
      next hc => exact htwo k e he hc
      · exact Nat.zero_le _
    · exact Nat.zero_le _
  have entry (t : Tel) (ht : t ∈ a.asks) : ∃ k x e, t.asksAbout k = true ∧ a.table k = some e ∧ e.party = .lift x := by
    obtain ⟨k, hk⟩ := habout t ht
    have hpos : 0 < (a.asksOf k).length := List.length_pos_of_mem (List.mem_filter.mpr ⟨ht, hk⟩)
    have := hpos.trans_le (hshare k)
    unfold askShare at this
    split at this
    next e he =>
      split at this
      next hc =>
        obtain ⟨x, hx⟩ := lift_of_confirmsLift hc
        exact ⟨k, x, e, hk, he, hx⟩
      · contradiction
    · contradiction
  have handle (x : Lift) : ∃ k, ∀ j e, a.table j = some e → e.party = .lift x → j = k := by
    by_cases hx : ∃ k e, a.table k = some e ∧ e.party = .lift x
    · obtain ⟨k, e, he, hp⟩ := hx
      exact ⟨k, fun j f hf hq => h1 j k f e hf he (hq.trans hp.symm)⟩
    · exact ⟨0, fun j e he hp => absurd ⟨j, e, he, hp⟩ hx⟩
  obtain ⟨k, hk⟩ := handle .a
  obtain ⟨l, hl⟩ := handle .b
  have hrest : a.asks.countP (fun t => !t.asksAbout k) ≤ a.asks.countP (fun t => t.asksAbout l) := by
    refine List.countP_mono_left fun t ht hnot => ?_
    obtain ⟨j, x, e, hj, he, hp⟩ := entry t ht
    cases x with
    | a => simp [hk j e he hp ▸ hj] at hnot
    | b => exact hl j e he hp ▸ hj
  have hsplit := List.length_eq_length_filter_add (l := a.asks) (fun t => t.asksAbout k)
  simp only [List.countP_eq_length_filter] at hrest
  have hk2 := two k
  have hl2 := two l
  omega

theorem withinPlaces_iff (s : State) :
    WithinPlaces s ↔ s.seen.Places ∧ s.unsentAsks.length ≤ 4 := by
  have hqueue : s.loads.queue.length = s.bus.queue.length := List.length_map _
  have hcount (n : Level) : s.loads.queue.count n = (s.waitingFor n).length := by
    unfold State.waitingFor State.loads
    rw [List.count, List.countP_map, List.countP_eq_length_filter]
    rfl
  unfold WithinPlaces Seen.Places
  rw [show s.seen.loads.queue.length = s.bus.queue.length from hqueue]
  rw [show (∀ n, s.seen.loads.queue.count n ≤ 4) ↔ ∀ n, (s.waitingFor n).length ≤ 4 from
    forall_congr' fun n => by rw [show s.seen.loads.queue.count n = _ from hcount n]]
  constructor
  · rintro ⟨h1, h2, h3, h4, hrest⟩
    exact ⟨⟨h1, h2, h3, hrest⟩, h4⟩
  · rintro ⟨⟨h1, h2, h3, hrest⟩, h4⟩
    exact ⟨h1, h2, h3, h4, hrest⟩

/-! ### The statements -/

/-- Settles O3: each of the properties is kept by every act of an event, and the end of a step leaves nothing to do. -/
theorem outputsFixedClassesAndReceiversKept : Obligations.OutputsFixedClassesAndReceiversKept := by
  unfold Obligations.OutputsFixedClassesAndReceiversKept
  intro s t hs h
  have ht : t.Rests := step_rests h hs
  refine ⟨ht, fun ho => ?_, fun hf => ?_, fun hr => ?_, fun hsched => ?_⟩
  · exact step_keeps (P := Seen.Outputs) (fun _ _ => Seen.Outputs.act) (fun _ _ _ => id) (fun _ _ => ⟨rfl, rfl⟩) h ho
  · exact step_keeps (P := Seen.AtHalt) (fun _ _ => Seen.AtHalt.act) (fun _ _ _ => id) (fun _ _ => ⟨rfl, rfl⟩) h hf
  · exact (receiversFollow_iff t).mpr (step_keeps (fun _ _ => Seen.Receivers.act) (fun _ _ _ hr => hr.congr rfl rfl)
      receivers_resetWith h ((receiversFollow_iff s).mp hr))
  · exact (schedulerFollows_iff ht).mpr (step_keeps (fun _ _ => Seen.Ready.act) (fun _ _ _ hr => hr.congr rfl rfl)
      ready_resetWith h ((schedulerFollows_iff hs).mp hsched))

/-- Settles O4: an act puts an entry of a party where the party has one, or where it has none. -/
theorem oneEntryEachKept : Obligations.OneEntryEachKept := by
  unfold Obligations.OneEntryEachKept
  intro s t h1 _ h
  exact (oneEntryEach_iff t).mpr (step_keeps (P := Seen.OneEach) (fun _ _ => Seen.OneEach.act) (fun _ _ _ => id)
    oneEach_resetWith h ((oneEntryEach_iff s).mp h1))

/-- Settles O5: an act makes an entry or opens a visit in RUN alone, and enters CONFIG with neither there. -/
theorem configStaysEmpty : Obligations.ConfigStaysEmpty := by
  unfold Obligations.ConfigStaysEmpty
  intro s t hempty _ h
  exact (configEmpty_iff t).mpr (step_keeps (P := Seen.EmptyInConfig) (fun _ _ => Seen.EmptyInConfig.act)
    (fun _ _ _ => id) emptyInConfig_resetWith h ((configEmpty_iff s).mp hempty))

/-- Settles O6: an act fills a queue up to its places; a CONFIRM-ASK stays unsent for a tote of a CONFIRMING entry alone,
and is dropped with that entry. -/
theorem placesAreKept : Obligations.PlacesAreKept := by
  unfold Obligations.PlacesAreKept
  intro s t hp ha h1 hs h
  have hp' : t.seen.Places := step_keeps (fun _ _ => Seen.Places.act) (fun _ _ _ => id) places_resetWith h
    ((withinPlaces_iff s).mp hp).1
  have ha' : t.seen.AsksHeld := step_keeps (fun _ _ => Seen.AsksHeld.act) (fun _ _ _ => id) asksHeld_resetWith h
    ((asksOwned_iff s).mp ha)
  have h1' : t.seen.OneEach := (oneEntryEach_iff t).mp (oneEntryEachKept s t h1 hs h)
  exact ⟨(withinPlaces_iff t).mpr ⟨hp', Seen.length_asks h1' ha'⟩, (asksOwned_iff t).mpr ha'⟩

/-- Settles O7: an act takes a claim for a GRANTED entry that lists its slot and its tote, and an entry leaves GRANTED with
its claims. -/
theorem claimsStayOwned : Obligations.ClaimsStayOwned := by
  unfold Obligations.ClaimsStayOwned
  intro s t hc _ h
  exact (claimsOwned_iff t).mpr (step_keeps (fun _ _ => Seen.Owned.act) (fun _ _ _ => id) owned_resetWith h
    ((claimsOwned_iff s).mp hc))

/-- Settles O8. -/
theorem resetHasTheInvariants : Obligations.ResetHasTheInvariants := by
  unfold Obligations.ResetHasTheInvariants
  have hrests : State.reset.Rests := rfl
  have h1 : State.reset.seen.OneEach := oneEach_resetWith 1 false
  have ha : State.reset.seen.AsksHeld := asksHeld_resetWith 1 false
  exact ⟨hrests, ⟨rfl, rfl⟩, ⟨rfl, rfl⟩, (receiversFollow_iff _).mpr (receivers_resetWith 1 false),
    (schedulerFollows_iff hrests).mpr (ready_resetWith 1 false), (oneEntryEach_iff _).mpr h1,
    (configEmpty_iff _).mpr (emptyInConfig_resetWith 1 false),
    (withinPlaces_iff _).mpr ⟨places_resetWith 1 false, Seen.length_asks h1 ha⟩, (asksOwned_iff _).mpr ha,
    (claimsOwned_iff _).mpr (owned_resetWith 1 false)⟩

theorem Acts.clock {r p : Bool} {a b : Seen} (m : Acts r p a b) : b.time = a.time ∧ b.pending = a.pending :=
  m.keep (P := fun b => b.time = a.time ∧ b.pending = a.pending)
    (fun _ _ m h => ⟨m.clock.1.trans h.1, m.clock.2.trans h.2⟩) ⟨rfl, rfl⟩

/-- Settles O2: an act changes neither aisle time nor queue, and one without a request no table. -/
theorem everyCommandAnswersWithinItsFrame : Obligations.EveryCommandAnswersWithinItsFrame := by
  have answer (c : Instr) (s : State) : ∃ t, exec c s = .next t ∧ t.pending = s.pending
      ∧ (c = .tick → t.time = s.time + 1) ∧ (∀ w b, c = .fullReset w b → t.time = 0)
      ∧ (c ≠ .tick → (∀ w b, c ≠ .fullReset w b) → t.time = s.time) := by
    by_cases hr : ∃ w b, c = .fullReset w b
    · obtain ⟨w, b, rfl⟩ := hr
      obtain ⟨t, ht, he, -⟩ := exec_fullReset w b s
      obtain ⟨htime, hpending⟩ := he.acts.clock
      exact ⟨t, ht, hpending, by simp, fun _ _ _ => htime, fun _ h => absurd rfl (h w b)⟩
    · by_cases htick : c = .tick
      · subst htick
        exact ⟨s.tick, rfl, rfl, fun _ => rfl, by simp, fun h => absurd rfl h⟩
      · obtain ⟨t, ht, he, -⟩ := exec_answers (r := true) s (.inl rfl) (fun w b hc => hr ⟨w, b, hc⟩) htick
        obtain ⟨htime, hpending⟩ := he.acts.clock
        exact ⟨t, ht, hpending, fun h => absurd h htick, fun w b hc => absurd ⟨w, b, hc⟩ hr, fun _ _ => htime⟩
  unfold Obligations.EveryCommandAnswersWithinItsFrame
  refine ⟨fun c s => ?_, fun c s t h => ?_, fun c s t hc h => ?_⟩
  · obtain ⟨t, ht, hp, -⟩ := answer c s
    exact ⟨t, ht, hp⟩
  · obtain ⟨t', ht, -, htime⟩ := answer c s
    cases h.symm.trans ht
    exact htime
  · by_cases htick : c = .tick
    · subst htick
      cases h
      rfl
    · obtain ⟨t', ht, he, -⟩ := exec_answers (r := false) s (.inr hc) (fun w b hr => by subst hr; contradiction) htick
      cases h.symm.trans ht
      exact he.acts.keep (P := fun b => b.tables = s.tables) (fun _ _ m h => m.tables.1.trans h) rfl

end Sys2Proof.Machine

/-! ## Steps, reset and address match (O1, O9, O10, O12) -/

namespace Sys2Proof.Machine

/-- Settles O1. -/
theorem stepTakesTheFrontCommand : Obligations.StepTakesTheFrontCommand := by
  unfold Obligations.StepTakesTheFrontCommand
  refine ⟨fun c rest s h => ?_, fun s h => ?_⟩
  · simp only [step, h]
  · simp only [step, h]

/-- Settles O12: the branches of `aisleMatch`, one by one. -/
theorem addressMatch : Obligations.AddressMatch := by
  unfold Obligations.AddressMatch
  intro l a
  have ungrouped (h : l.group = 0 ∨ a ≠ l.group) : ¬ (l.group ≠ 0 ∧ a = l.group) := fun hg => h.elim hg.1 fun hne => hne hg.2
  refine ⟨fun h0 => ?_, fun h0 hu => ?_, fun h0 hu hg ha => ?_, fun h0 hu hg hm ha => ?_, fun h0 hu hg hm => ?_⟩ <;>
    unfold StoreLine.aisleMatch
  · rw [if_pos h0]
  · rw [if_neg h0, if_pos hu]
  · rw [if_neg h0, if_neg hu, if_pos ⟨hg, ha⟩]
  · rw [if_neg h0, if_neg hu, if_neg (ungrouped hg), if_pos ⟨hm, ha⟩]
  · rw [if_neg h0, if_neg hu, if_neg (ungrouped hg), if_neg fun h => hm.elim h.1 fun hne => hne h.2]

section Reset
variable (w : Byte) (b : Bool)

@[simp] theorem stream_resetWith (i : StreamNo) :
    (State.resetWith w b).stream i = Stream.resetValues (decide (i = 0)) := by
  show ((Vector.replicate 17 (Stream.resetValues false)).set 0 (Stream.resetValues true))[i] = _
  by_cases hi : i = 0
  · subst hi
    rfl
  · have hne : (0 : Nat) ≠ i.val := fun h => hi (Fin.ext h.symm)
    simp [Fin.getElem_fin, Vector.getElem_set_ne, hne, hi]

@[simp] theorem lastExpiredOf_resetWith (p : Party) : (State.resetWith w b).lastExpiredOf p = none :=
  Vector.getElem_replicate p.idx.isLt

@[simp] theorem stats_resetWith (p : PartyNo) : (State.resetWith w b).stats[p] = ⟨0, 0, 0⟩ := Vector.getElem_replicate p.isLt

@[simp] theorem faultRec_resetWith (c : FaultClass) : (State.resetWith w b).faultRec c = none :=
  Vector.getElem_replicate c.idx.isLt

@[simp] theorem latch_resetWith (p : Party) : (State.resetWith w b).latch p = false := Vector.getElem_replicate p.idx.isLt

end Reset

/-- Settles O9: the blocks that hold a value for each party, level or slot by their lemmas, the others by evaluation. -/
theorem resetValues : Obligations.ResetValues := by
  unfold Obligations.ResetValues
  have hslot (n : Level) (c : SlotCode) : State.reset.slot n c = .off := slot_resetWith 1 false n c
  have hentry (h : Handle) : State.reset.entry h = none := entry_resetWith 1 false h
  have hexpired (p : Party) : State.reset.lastExpiredOf p = none := lastExpiredOf_resetWith 1 false p
  have hstats (p : PartyNo) : State.reset.stats[p] = ⟨0, 0, 0⟩ := stats_resetWith 1 false p
  have hlift (x : Lift) : State.reset.lift x = LiftRec.resetValues := lift_resetWith 1 false x
  have hlink (x : Lift) : State.reset.link x = LinkRec.resetValues 1 x.station := by cases x <;> rfl
  have hstream (i : StreamNo) : State.reset.stream i = Stream.resetValues (decide (i = 0)) := stream_resetWith 1 false i
  have hshuttle (n : Level) : State.reset.shuttle n = ShuttleRec.resetValues := shuttle_resetWith 1 false n
  have hfault (c : FaultClass) : State.reset.faultRec c = none := faultRec_resetWith 1 false c
  have hlatch (p : Party) : State.reset.latch p = false := latch_resetWith 1 false p
  intro s
  refine ⟨hslot, hentry, hexpired, rfl, hstats, rfl, fun x => ?_, fun i => ?_, rfl, hshuttle, rfl, rfl, rfl, rfl, rfl, rfl, rfl,
    rfl, rfl, rfl, rfl, rfl, rfl, rfl, rfl, rfl, hfault, hlatch, rfl, rfl, ?_, rfl, rfl, rfl, rfl, rfl⟩
  · show (State.reset.lift x).presence = _ ∧ _ ∧ _ ∧ _ ∧ _ ∧ _ ∧ _
    rw [hlift, hlink]
    exact ⟨rfl, rfl, rfl, rfl, rfl, rfl, rfl⟩
  · show (State.reset.stream i).row = _ ∧ _
    rw [hstream]
    exact ⟨rfl, rfl, rfl, rfl, rfl, rfl, rfl⟩
  · refine List.find?_eq_none.mpr fun c _ => ?_
    rw [hfault]
    exact Bool.false_ne_true

/-! ### One fault (R163, R170, R173, R175) -/

namespace State

/-- A state with the work it has. -/
theorem with_work_self {s : State} {w : Work} (h : s.work = w) : { s with work := w } = s := by
  subst h
  rfl

/-- A fault that is raised with nothing else to do, and that leaves nothing to do, ends the step. -/
theorem finish_raise {s : State} {c : FaultClass} {p : Option Party} (hs : s.Rests) (ht : (s.applyRaise ⟨c, p⟩).Rests) :
    (s.raise c p).finish = s.applyRaise ⟨c, p⟩ := by
  have settle {u : State} (hu : u.work.touched = false) : u.settle = u := by simp [State.settle, hu]
  have hraises : (s.raise c p).work.raises = [⟨c, p⟩] := by
    show s.work.raises ++ [_] = _
    rw [hs]
    rfl
  have hclear : ({ s.raise c p with work := { (s.raise c p).work with raises := [] } } : State) = s :=
    with_work_self (s := s) (w := { s.work with raises := [] }) (by rw [hs]; rfl)
  have hfirst : (s.raise c p).settle = s.raise c p := settle (by show s.work.touched = false; rw [hs]; rfl)
  have hlast : (s.applyRaise ⟨c, p⟩).settle = s.applyRaise ⟨c, p⟩ := settle (by rw [ht]; rfl)
  unfold finish Config.raiseBound
  rw [lookDone_of_clear (by show s.work.look = false; rw [hs]; rfl)]
  unfold finishWith
  dsimp only
  rw [hfirst, hraises]
  dsimp only
  rw [hclear]
  unfold finishWith
  dsimp only
  rw [hlast, show (s.applyRaise ⟨c, p⟩).work.raises = [] by rw [ht]; rfl]
  exact with_work_self (by rw [ht]; rfl)

@[simp] theorem work_makeNotice (s : State) : s.makeNotice.work = s.work := by
  unfold makeNotice
  dsimp only
  repeat' split
  all_goals rfl

@[simp] theorem work_handFlag (s : State) (f : Flag) : (s.handFlag f).work = s.work := by
  unfold handFlag
  dsimp only
  split
  · exact work_makeNotice _
  · rfl

@[simp] theorem work_recordFault (s : State) (r : Raise) : (s.recordFault r).work = s.work := by
  unfold recordFault
  split
  · exact work_handFlag _ _
  · rfl

@[simp] theorem work_setMode (s : State) (m : Mode) : (s.setMode m).work = s.work := work_handFlag _ _

@[simp] theorem work_withdrawGos (s : State) (p : Party) : (s.withdrawGos p).work = s.work := by
  cases p with
  | shuttle n => exact setShuttle_work _ _ _
  | lift x => exact setLink_work _ _ _

@[simp] theorem work_withdrawAllGos (s : State) : s.withdrawAllGos.work = s.work := by
  have fold (l : List Level) (u : State) : (l.foldl (fun s n =>
      if (s.shuttle n).box.isEmpty then s else s.withdrawGos (.shuttle n)) u).work = u.work := by
    induction l generalizing u with
    | nil => rfl
    | cons n l ih =>
      rw [List.foldl_cons, ih]
      split <;> simp
  unfold withdrawAllGos
  rw [work_withdrawGos, work_withdrawGos]
  exact fold _ _

@[simp] theorem work_enterHalt (s : State) : s.enterHalt.work = s.work := by
  unfold enterHalt
  split <;> simp

@[simp] theorem faults_makeNotice (s : State) : s.makeNotice.faults = s.faults := by
  unfold makeNotice
  dsimp only
  repeat' split
  all_goals rfl

@[simp] theorem faults_handFlag (s : State) (f : Flag) : (s.handFlag f).faults = s.faults := by
  unfold handFlag
  dsimp only
  split
  · exact faults_makeNotice _
  · rfl

/-- The record of a fault changes no disposition. -/
theorem disposition_recordFault (s : State) (r : Raise) (c : FaultClass) : (s.recordFault r).disposition c = s.disposition c := by
  unfold recordFault
  split
  · show (State.faults _).dispositions[c.idx] = _
    rw [faults_handFlag]
    rfl
  · rfl

/-- A class at HALT is recorded, then halts the aisle (R175). -/
theorem applyRaise_of_halt {s : State} {r : Raise} (h : s.disposition r.cls = .halt) :
    s.applyRaise r = (s.recordFault r).enterHalt := by
  rw [applyRaise, dispose, disposition_recordFault, h]

end State

/-- With no low marker set the stream-low set is empty (R88). -/
theorem State.lowSet_of_clear {s : State} (h : ∀ i, (s.stream i).lowMarker = false) : s.lowSet = 0 := by
  have hmarkers : s.lowMarkers = (List.finRange 17).tail.map (fun _ => false) := List.map_congr_left fun i _ => h i
  rw [lowSet, hmarkers]
  rfl

/-- Settles O10: the reset values that the switches enter; a stop input found asserted is recorded in CONFIG. -/
theorem fullResetRestores : Obligations.FullResetRestores := by
  unfold Obligations.FullResetRestores
  refine ⟨fun switches stop => ⟨rfl, rfl, fun x => by cases x <;> rfl, rfl⟩, fun switches s => ⟨?clear, ?asserted⟩⟩
  case clear =>
    exact congrArg Host.Outcome.next (State.finish_of_idle _ rfl rfl rfl rfl)
  case asserted =>
    let u : State := { State.resetWith switches true with pending := s.pending }
    have hwork : (u.applyRaise ⟨.stopInput, none⟩).work = Work.done := by
      rw [State.applyRaise_of_halt rfl, State.work_enterHalt, State.work_recordFault]
      rfl
    have hfinish : (u.raise .stopInput none).finish = u.recordFault ⟨.stopInput, none⟩ := by
      rw [State.finish_raise rfl hwork, State.applyRaise_of_halt rfl]
      rfl
    have hlow : State.lowSet (u.recordFault ⟨.stopInput, none⟩) = 0 :=
      State.lowSet_of_clear fun i => congrArg Stream.lowMarker (stream_resetWith switches true i)
    have hlead : State.leadFault (u.recordFault ⟨.stopInput, none⟩) = some .stopInput := rfl
    have hnotice : (u.recordFault ⟨.stopInput, none⟩).store.upstream
        = [u.toStore kNotice 0 (u.recordFault ⟨.stopInput, none⟩).noticeBody] := rfl
    refine ⟨u.recordFault ⟨.stopInput, none⟩, congrArg Host.Outcome.next hfinish, rfl, rfl, rfl, rfl, hlead, rfl, rfl, ?_, rfl,
      rfl, rfl, rfl, rfl⟩
    rw [hnotice, State.noticeBody, hlow, hlead]
    rfl

/-- A tick of the records of a lift. -/
theorem lift_tick (s : State) (x : Lift) : s.tick.lift x = (s.lift x).tick (s.mode = .halt) := by cases x <;> rfl

/-- Settles O11: the fields that a tick writes; a stop input is one raising at disposition HALT. -/
theorem ticksAndStopInput : Obligations.TicksAndStopInput := by
  unfold Obligations.TicksAndStopInput
  refine ⟨fun s => ⟨s.tick, rfl, rfl, fun h => ?entry, fun x => ?lift, rfl⟩, fun s => ⟨fun hs hstop hd => ?asserted, fun hstop => ?again, rfl⟩⟩
  case entry =>
    by_cases hm : s.mode = .halt
    · simp [State.tick, State.entry, hm]
    · simp [State.tick, State.entry, hm]
      rfl
  case lift =>
    rw [lift_tick]
    by_cases hm : s.mode = .halt
    · simp only [LiftRec.tick, hm, decide_true, if_true]
      rfl
    · simp only [LiftRec.tick, hm, decide_false, if_false]
      rfl
  case asserted =>
    have hwork : ((s.setStop true).applyRaise ⟨.stopInput, none⟩).work = Work.done := by
      rw [State.applyRaise_of_halt hd, State.work_enterHalt, State.work_recordFault]
      exact hs
    show execStopInputAsserted s = _
    unfold execStopInputAsserted
    rw [if_neg (by simp [hstop])]
    exact congrArg Host.Outcome.next ((State.finish_raise (s := s.setStop true) hs hwork).trans (State.applyRaise_of_halt hd))
  case again =>
    show execStopInputAsserted s = _
    unfold execStopInputAsserted
    rw [if_pos hstop]

end Sys2Proof.Machine

/-! ## Characters, telegrams and receivers (O13) -/

namespace Sys2Proof.Machine

/-! ### Characters (R117) -/

/-- The number of ones of data and parity. -/
theorem count_bits_take (c : Character) : (c.bits.take 9).count true
    = ((List.range 8).filter (fun i => c.data.getLsbD i)).length + if c.parity then 1 else 0 := by
  have htake : c.bits.take 9 = (List.range 8).map (fun i => c.data.getLsbD i) ++ [c.parity] := rfl
  have hparity : [c.parity].count true = if c.parity then 1 else 0 := by cases c.parity <;> rfl
  rw [htake, List.count_append, hparity, List.count, List.countP_map, List.countP_eq_length_filter]
  have : ((fun b => b == true) ∘ fun i => c.data.getLsbD i) = fun i => c.data.getLsbD i := by funext i; simp
  rw [this]

theorem fails_iff (c : Character) : c.fails = true ↔ (c.bits.take 9).count true % 2 = 1 ∨ c.stop = false := by
  rw [count_bits_take]
  unfold Character.fails evenParity
  rcases Nat.mod_two_eq_zero_or_one ((List.range 8).filter (fun i => c.data.getLsbD i)).length with h | h <;>
    cases hp : c.parity <;> cases hs : c.stop <;> simp [h, Nat.add_mod]

theorem getElem?_bits (c : Character) {i : Nat} (hi : i < 8) : c.bits[i]? = some (c.data.getLsbD i) := by
  rw [Character.bits, List.getElem?_append_left (by simpa using hi), List.getElem?_map, List.getElem?_range hi]
  rfl

/-! ### The check (R119) -/

theorem byteSum_eq (bs : List Byte) : byteSum bs = BitVec.ofNat 16 (bs.map (fun b => b.toNat)).sum := by
  have from_acc (bs : List Byte) (n : Nat) : bs.foldl (fun acc b => acc + b.zeroExtend 16) (BitVec.ofNat 16 n)
      = BitVec.ofNat 16 (n + (bs.map (fun b => b.toNat)).sum) := by
    induction bs generalizing n with
    | nil => rfl
    | cons b bs ih =>
      have hb : b.zeroExtend 16 = BitVec.ofNat 16 b.toNat := BitVec.eq_of_toNat_eq (by simp)
      rw [List.foldl_cons, hb, ← BitVec.ofNat_add, ih, List.map_cons, List.sum_cons, Nat.add_assoc]
  have h := from_acc bs 0
  rwa [Nat.zero_add] at h

/-- The two bytes of a word spell it. -/
theorem join16_be16 (w : BitVec 16) : join16 (w.extractLsb' 8 8) (w.extractLsb' 0 8) = w := by
  unfold join16
  apply BitVec.eq_of_getLsbD_eq
  intro i hi
  rw [BitVec.getLsbD_append]
  by_cases h : i < 8
  · simp [h]
  · have h2 : i - 8 < 8 := by omega
    have h3 : 8 + (i - 8) = i := by omega
    simp [h, h2, h3]

theorem checkPasses_append (front : List Byte) (hi lo : Byte) :
    checkPasses (front ++ [hi, lo]) = decide (byteSum front + join16 hi lo = 65535) := by
  have hlen : (front ++ [hi, lo]).length - 2 = front.length := by simp
  unfold checkPasses
  rw [hlen, List.drop_left, List.take_left]

theorem byteSum_add_checkOf (bs : List Byte) : byteSum bs + checkOf bs = 65535 := add_sub_cancel _ _

/-! ### What ends a telegram (R118, R120) -/

theorem badLength_iff (l : Byte) : badLength l = true ↔ l.toNat < 6 ∨ 54 < l.toNat := by simp [badLength]

theorem judgeBytes_of_badLength {l : Byte} (h : l.toNat < 6 ∨ 54 < l.toNat) (rest : List Byte) :
    judgeBytes (l :: rest) = some (.failed .linkForm) := by
  rw [judgeBytes_cons, if_pos ((badLength_iff l).mpr h)]

section Length
variable {l : Byte} (h6 : 6 ≤ l.toNat) (h54 : l.toNat ≤ 54) {rest : List Byte}
include h6 h54

theorem judgeBytes_of_short (h : rest.length + 1 < l.toNat + 3) : judgeBytes (l :: rest) = none := by
  rw [judgeBytes_cons, if_neg (by rw [badLength_iff]; omega), if_pos (by rwa [List.length_cons])]

theorem judgeBytes_of_check_failed (h : rest.length + 1 = l.toNat + 3) {front : List Byte} {hi lo : Byte}
    (hf : l :: rest = front ++ [hi, lo]) (hc : byteSum front + join16 hi lo ≠ 65535) :
    judgeBytes (l :: rest) = some (.failed .linkCheck) := by
  rw [judgeBytes_cons, if_neg (by rw [badLength_iff]; omega), if_neg (by rw [List.length_cons]; omega), hf,
    checkPasses_append, if_neg (by simpa using hc)]

theorem judgeBytes_of_sound (h : rest.length + 1 = l.toNat + 3) {front : List Byte} {hi lo : Byte}
    (hf : l :: rest = front ++ [hi, lo]) (hc : byteSum front + join16 hi lo = 65535) {f : Frame}
    (hframe : frameOf (l :: rest) = some f) : judgeBytes (l :: rest) = some (.sound f) := by
  have hpass : checkPasses (l :: rest) = true := by rw [hf, checkPasses_append, decide_eq_true_iff]; exact hc
  rw [judgeBytes_cons, if_neg (by rw [badLength_iff]; omega), if_neg (by rw [List.length_cons]; omega), if_pos hpass, hframe]

end Length

theorem frameOf_append (l da ds sa ss k t hi lo : Byte) (body : List Byte) :
    frameOf ([l, da, ds, sa, ss, k, t] ++ body ++ [hi, lo]) = some ⟨da, ds, sa, ss, k, t, body⟩ := by
  have : (body ++ [hi, lo]).take ((body ++ [hi, lo]).length - 2) = body := by simp
  exact congrArg (fun b => some (Frame.mk da ds sa ss k t b)) this

/-- Sound characters that make up a telegram end it, and not before the last. -/
theorem takeCharacters_whole {l : Byte} (h6 : 6 ≤ l.toNat) (h54 : l.toNat ≤ 54) {rest : List Byte}
    (hlen : rest.length + 1 = l.toNat + 3) {r : Reception} (hr : judgeBytes (l :: rest) = some r) (held : List Byte)
    (cs : List Character) (hcs : cs ≠ []) (hsound : ∀ c ∈ cs, c.fails = false)
    (hbytes : held ++ cs.map (fun c => c.data) = l :: rest) : takeCharacters held cs = (.hunt, r) := by
  induction cs generalizing held with
  | nil => exact absurd rfl hcs
  | cons c cs ih =>
    have hc : c.fails = false := hsound c (List.mem_cons_self ..)
    have happ : (held ++ [c.data]) ++ cs.map (fun c => c.data) = l :: rest := by rw [← hbytes]; simp
    cases cs with
    | nil =>
      have hlast : held ++ [c.data] = l :: rest := by simpa using happ
      exact takeCharacters_end hc (hlast ▸ hr) []
    | cons d ds =>
      obtain ⟨held', hheld⟩ : ∃ held', held ++ [c.data] = l :: held' := by
        cases held with
        | nil => exact ⟨[], by simpa using congrArg (fun x => x.head?) happ⟩
        | cons a held' => exact ⟨held' ++ [c.data], by simpa using congrArg (fun x => x.head?) happ⟩
      have hshort : judgeBytes (held ++ [c.data]) = none := by
        rw [hheld] at happ ⊢
        refine judgeBytes_of_short h6 h54 ?_
        have := congrArg List.length happ
        simp at this
        omega
      rw [takeCharacters_more hc hshort]
      exact ih _ (by simp) (fun c hc => hsound c (List.mem_cons_of_mem _ hc)) happ

/-- A receiver in READY takes the characters of a telegram of the controller as that telegram. -/
theorem take_characters (t : Tel) (h : t.body.bytes.length ≤ 48) : Rx.ready.take t.characters
    = (.hunt, .sound ⟨t.dstAisle, t.dstStation, t.srcAisle, t.srcStation, t.kind, t.tag, t.body.bytes⟩) := by
  let l : Byte := byte (t.body.bytes.length + 6)
  let w := checkOf t.front
  have hl : l.toNat = t.body.bytes.length + 6 := by
    show (BitVec.ofNat 8 (t.body.bytes.length + 6)).toNat = _
    rw [BitVec.toNat_ofNat]
    omega
  have hbytes : t.bytes = l :: ([t.dstAisle, t.dstStation, t.srcAisle, t.srcStation, t.kind, t.tag] ++ t.body.bytes
      ++ [w.extractLsb' 8 8, w.extractLsb' 0 8]) := rfl
  have hlen : ([t.dstAisle, t.dstStation, t.srcAisle, t.srcStation, t.kind, t.tag] ++ t.body.bytes
      ++ [w.extractLsb' 8 8, w.extractLsb' 0 8]).length + 1 = l.toNat + 3 := by
    simp [hl]
  rw [Rx.take_ready]
  refine takeCharacters_whole (l := l) (by omega) (by omega) hlen ?_ [] _ (by simp [Tel.characters, hbytes]) ?_ ?_
  · refine judgeBytes_of_sound (by omega) (by omega) hlen (front := t.front) rfl ?_ (frameOf_append l _ _ _ _ _ _ _ _ _)
    rw [join16_be16, byteSum_add_checkOf]
  · intro c hc
    obtain ⟨b, -, rfl⟩ := List.mem_map.mp hc
    exact sentCharacter_fails b
  · rw [List.nil_append, Tel.characters, List.map_map, ← hbytes]
    exact List.map_id _

/-- A receiver that holds what it has received so far takes characters on from there. -/
theorem take_of_held {rx : Rx} {held : List Byte} (h : (rx = .ready ∧ held = []) ∨ (rx = .receiving held ∧ held ≠ []))
    (cs : List Character) : rx.take cs = takeCharacters held cs := by
  rcases h with ⟨rfl, rfl⟩ | ⟨rfl, -⟩ <;> rfl

theorem Rx.silent_of_not_receiving {rx : Rx} (h : ∀ held, rx ≠ .receiving held) : rx.silent = .ready := by
  cases rx with
  | receiving held => exact absurd rfl (h held)
  | _ => rfl

namespace State

theorem ready_storeLine_of_idle {s : State} (h : s.store.tx = .idle) :
    s.ready .storeLine = { s with store := { s.store with rx := s.store.rx.silent } } := by
  unfold ready
  simp only [h]

/-- Writing back the link it has changes nothing. -/
theorem setLink_self (s : State) (x : Lift) : s.setLink x (s.link x) = s := by cases x <;> rfl

end State

/-- Settles O13: characters by their bits, receivers by what ends a telegram, 3 characters of silence by `Rx.silent`. -/
theorem charactersAndReceivers : Obligations.CharactersAndReceivers := by
  unfold Obligations.CharactersAndReceivers
  refine ⟨fun c => ⟨rfl, fun i hi => getElem?_bits c hi, fails_iff c⟩, fun t ht => ⟨rfl, ?data, ?sound, take_characters t ht⟩,
    fun t => rfl, byteSum_eq, fun b => ?body, rfl, rfl, fun cs => rfl, fun rx held hrx => ⟨?none, fun c cs => ?chars⟩, fun s => ?ready⟩
  case data =>
    rw [Tel.characters, List.map_map]
    exact List.map_id _
  case sound =>
    intro c hc
    obtain ⟨b, -, rfl⟩ := List.mem_map.mp hc
    exact sentCharacter_fails b
  case body =>
    cases b with
    | answer c r data => cases r <;> rfl
    | _ => rfl
  case none =>
    rw [take_of_held hrx, takeCharacters_nil]
    rcases hrx with ⟨rfl, rfl⟩ | ⟨rfl, hne⟩
    · rfl
    · rw [if_neg (by simpa using hne)]
  case chars =>
    rw [take_of_held hrx]
    refine ⟨fun hf => takeCharacters_failed hf _ _, fun hf l rest hl => ⟨fun hbad => ?_, fun h6 h54 => ⟨fun hshort => ?_,
      fun hlen front hi lo hfront => ⟨fun hcheck => ?_, fun hcheck da ds sa ss k t body hb => ?_⟩⟩⟩⟩
    · exact takeCharacters_end hf (hl ▸ judgeBytes_of_badLength hbad rest) cs
    · rw [takeCharacters_more hf (hl ▸ judgeBytes_of_short h6 h54 hshort), hl]
      rfl
    · exact takeCharacters_end hf (hl ▸ judgeBytes_of_check_failed h6 h54 hlen hfront hcheck) cs
    · have hframe : frameOf (l :: rest) = some ⟨da, ds, sa, ss, k, t, body⟩ := by rw [hfront, hb, frameOf_append]
      exact takeCharacters_end hf (hl ▸ judgeBytes_of_sound h6 h54 hlen hfront hcheck hframe) cs
  case ready =>
    have ready (port : Port) : exec (.receiverReady port) s = .next (s.ready port) := rfl
    refine ⟨fun hi hr => ?_, fun held hi hr => ?_, fun m hm => ?_, fun k m hm => ?_, fun x hr => ?_, fun x held hr => ?_, rfl⟩ <;>
      rw [ready]
    · rw [State.ready_storeLine_of_idle hi, Rx.silent_of_not_receiving hr]
    · rw [State.ready_storeLine_of_idle hi, hr]
      show Host.Outcome.next { s with store := { s.store with rx := .receiving held } } = _
      rw [← hr]
    · unfold State.ready
      simp only [hm]
    · unfold State.ready
      simp only [hm]
    · show Host.Outcome.next (s.setLink x { s.link x with rx := (s.link x).rx.silent }) = _
      rw [Rx.silent_of_not_receiving hr]
    · show Host.Outcome.next (s.setLink x { s.link x with rx := (s.link x).rx.silent }) = _
      rw [hr]
      show Host.Outcome.next (s.setLink x { s.link x with rx := .receiving held }) = _
      rw [← hr]
      exact congrArg _ (s.setLink_self x)

end Sys2Proof.Machine

/-! ## Receptions that fail (O14) -/

namespace Sys2Proof.Machine

/-- With nothing left to do the end of a step changes nothing. -/
theorem State.Rests.finish {s : State} (h : s.Rests) : s.finish = s := by
  apply State.finish_of_idle <;> rw [show s.work = Work.done from h] <;> rfl

theorem done_of_rests {s : State} (h : s.Rests) : done s = .next s := congrArg Host.Outcome.next h.finish

/-! ### The store line (R118, R122) -/

section Listens
variable {s : State} (h : Listens s)
include h

theorem Listens.rx : s.rx .storeLine = .ready := (if_pos h.transmitter).trans h.receiver

theorem Listens.onStoreLine {f : Frame} (hf : f.body.length ≤ 48) : s.onStoreLine f = s.storeHunt.judgeStore f := by
  rw [State.onStoreLine, if_pos h.rx, if_pos hf]

theorem Listens.onStoreLine_overlong {f : Frame} (hf : 48 < f.body.length) :
    s.onStoreLine f = s.storeHunt.raise .linkForm none := by
  rw [State.onStoreLine, if_pos h.rx, if_neg (not_le.mpr hf)]

theorem Listens.onRequest_overlong (hdr : StoreHdr) (q : Req) :
    s.onRequest hdr false q = s.storeHunt.raise .linkForm none := by
  rw [State.onRequest, if_pos h.rx, if_neg Bool.false_ne_true]

end Listens

/-- A header that matches neither way is a match with nothing (R122). -/
theorem aisleMatch_nothing {l : StoreLine} {a : Byte} (hu : ¬ l.Matches a true) (hs : ¬ l.Matches a false) :
    l.aisleMatch a = .nothing := by
  unfold StoreLine.aisleMatch
  split
  · rfl
  next h0 =>
    split
    next h => exact absurd ⟨h0, h⟩ hu
    next h =>
      split
      next hg => exact absurd ⟨h0, h, .inl hg⟩ hs
      · split
        next hm => exact absurd ⟨h0, h, .inr hm⟩ hs
        · rfl

namespace State

theorem judgeStore_of_unique {s : State} {f : Frame} (h : s.store.Matches f.dstAisle true) :
    s.judgeStore f = s.judgeUnique f := by
  unfold judgeStore
  rw [aisleMatch_unique _ _ h]

theorem judgeStore_of_nothing {s : State} {f : Frame} (hu : ¬ s.store.Matches f.dstAisle true)
    (hs : ¬ s.store.Matches f.dstAisle false) : s.judgeStore f = s := by
  unfold judgeStore
  rw [aisleMatch_nothing hu hs]

theorem judgeStore_of_shared {s : State} {f : Frame} (h : s.store.Matches f.dstAisle false) :
    ∃ m, (m = .group ∨ m = .masked) ∧ s.judgeStore f = s.judgeShared m f := by
  unfold judgeStore
  rcases aisleMatch_shared _ _ h with hm | hm <;> rw [hm]
  · exact ⟨.group, .inl rfl, rfl⟩
  · exact ⟨.masked, .inr rfl, rfl⟩

/-- Stage 2 of a telegram for station 0 (R123). -/
theorem judgeUnique_of_controller {s : State} {f : Frame} (hk : knownKind f.kind = true) (hst : f.dstStation = 0) :
    s.judgeUnique f = s.judgeController f := by
  rw [judgeUnique, if_neg (by simp [hk]), if_pos hst]

theorem judgeController_of_request {s : State} {f : Frame} (hk : f.kind = kRequest) :
    s.judgeController f = s.takeRequestBody .unique f.tag f.body := by
  unfold judgeController
  rw [if_neg (by rw [hk]; decide), if_pos hk]

/-! ### Receivers of the ports -/

theorem setLink_setLink (s : State) (x : Lift) (v w : LinkRec) : (s.setLink x v).setLink x w = s.setLink x w := by
  cases x <;> rfl

/-- The store line receiver that is in HUNT already. -/
theorem storeHunt_of_hunt {s : State} (h : s.store.rx = .hunt) : s.storeHunt = s := by
  show { s with store := { s.store with rx := .hunt } } = s
  rw [← h]

theorem busHunt_of_hunt {s : State} (h : s.bus.rx = .hunt) : s.setRx .levelBus .hunt = s := by
  show { s with bus := { s.bus with rx := .hunt } } = s
  rw [← h]

theorem rx_levelBus_of_awaiting {s : State} {n : Level} (h : s.bus.turn = .awaiting n) : s.rx .levelBus = s.bus.rx := by
  simp only [rx, h]

theorem rx_levelBus_of_not_awaiting {s : State} (h : ∀ n, s.bus.turn ≠ .awaiting n) : s.rx .levelBus = .hunt := by
  unfold rx
  dsimp only
  split
  next n hn => exact absurd hn (h n)
  · rfl
  · rfl

section Awaiting
variable {s : State} {n : Level} (h : s.bus.turn = .awaiting n)
include h

/-- Characters on the level bus while an answer is awaited (R141). -/
theorem arrive_levelBus (cs : List Character) : s.arrive .levelBus cs
    = (s.setRx .levelBus (s.bus.rx.take cs).1).turnReception n (s.bus.rx.take cs).2 := by
  unfold arrive
  rw [rx_levelBus_of_awaiting h]
  unfold reception
  simp only [setRx, h]

theorem reception_levelBus (o : Reception) : s.reception .levelBus o = s.turnReception n o := by
  unfold reception
  simp only [h]

end Awaiting

theorem arrive_levelBus_of_not_awaiting {s : State} (h : ∀ n, s.bus.turn ≠ .awaiting n) (hr : s.bus.rx = .hunt)
    (cs : List Character) : s.arrive .levelBus cs = s := by
  unfold arrive
  rw [rx_levelBus_of_not_awaiting h, Rx.take_hunt, reception_nothing, busHunt_of_hunt hr]

theorem truncate_of_receiving {s : State} {port : Port} {held : List Byte} (h : s.rx port = .receiving held) :
    s.truncate port = s.reception port (.failed .linkCheck) := by
  unfold truncate
  simp only [h]

end State

/-! ### Telegrams of parties whose bodies do not fit -/

/-- A telegram of a party that is received, and whose body cannot be that of its kind, is a LINK FORM (R120, step 8). -/
theorem telegram_of_unfit {s : State} {p : Party} (hh : Hears s p) (tag : Byte) {length : Nat} (hl : length ≤ 48)
    (t : PartyTel) : s.telegram p tag length false t = (s.heard p).raise .linkForm (some p) := by
  have hf : bodyFits length = true := by simp [bodyFits, hl]
  cases p with
  | lift x =>
    have : s.rx (.link x) = .ready := hh.port
    unfold State.telegram
    simp only [hf, this, if_true]
    rfl
  | shuttle n =>
    obtain ⟨hb, hr⟩ : s.bus.turn = .awaiting n ∧ s.bus.rx = .ready := hh.port
    unfold State.telegram
    simp only [hf, hb, hr, if_true]
    rw [goodAnswer_endTurn]
    rfl

/-- A telegram of a lift that does not fit, whatever its length (R120). -/
theorem telegram_lift_of_unfit {s : State} {x : Lift} (hh : Hears s (.lift x)) (tag : Byte) (length : Nat) (t : PartyTel) :
    s.telegram (.lift x) tag length false t = (s.heard (.lift x)).raise .linkForm (some (.lift x)) := by
  by_cases hl : length ≤ 48
  · exact telegram_of_unfit hh tag hl t
  · rw [telegram_of_overlong _ _ _ _ _ _ (not_le.mp hl), overlong_lift s x hh]

theorem StateBody.length_of_long {b : StateBody} (h : 48 < 4 + 6 * b.totes.length) : 48 < b.length := by
  have hne : b.totes ≠ [] := fun h0 => by simp [h0] at h
  rwa [StateBody.length, if_pos (.inr hne)]

theorem StateBody.length_of_short {b : StateBody} (h : 4 + 6 * b.totes.length ≤ 48) : b.length ≤ 48 := by
  unfold StateBody.length
  split
  · exact h
  · decide

/-- The first part of O14: characters that end a telegram wrong, and characters that end none. -/
theorem exec_discardedTelegram_of_failed (s : State) (first : Character) (rest : List Character) (hs : s.Rests) :
    let cs := first :: rest
    (s.store.tx = .idle →
      (∀ c, s.store.rx.take cs = (.hunt, .failed c) → exec (.discardedTelegram .storeLine first rest) s
        = .next (State.raise { s with store := { s.store with rx := .hunt } } c none).finish)
      ∧ (∀ r, s.store.rx.take cs = (r, .nothing) → exec (.discardedTelegram .storeLine first rest) s
        = .next { s with store := { s.store with rx := r } }))
    ∧ (s.store.tx ≠ .idle → s.store.rx = .hunt → exec (.discardedTelegram .storeLine first rest) s = .next s)
    ∧ (∀ x,
      (∀ c, (s.link x).rx.take cs = (.hunt, .failed c) → exec (.discardedTelegram (.link x) first rest) s
        = .next ((s.setLink x { s.link x with rx := .hunt }).raise c (some (.lift x))).finish)
      ∧ (∀ r, (s.link x).rx.take cs = (r, .nothing) → exec (.discardedTelegram (.link x) first rest) s
        = .next (s.setLink x { s.link x with rx := r })))
    ∧ (∀ n, s.bus.turn = .awaiting n →
      (∀ c, s.bus.rx.take cs = (.hunt, .failed c) → exec (.discardedTelegram .levelBus first rest) s
          = .next ((s.turnEnded.raise c (some (.shuttle n))).miss n).finish)
        ∧ (∀ r, s.bus.rx.take cs = (r, .nothing) → exec (.discardedTelegram .levelBus first rest) s
          = .next { s with bus := { s.bus with rx := r } }))
    ∧ ((∀ n, s.bus.turn ≠ .awaiting n) → s.bus.rx = .hunt →
      exec (.discardedTelegram .levelBus first rest) s = .next s)
    ∧ exec (.turnAnswer cs) s = exec (.discardedTelegram .levelBus first rest) s := by
  intro cs
  have discarded (port : Port) : exec (.discardedTelegram port first rest) s = done (s.arrive port cs) := rfl
  have nothing {port : Port} {r : Rx} (h : (s.rx port).take cs = (r, .nothing)) : s.arrive port cs = s.setRx port r := by
    rw [State.arrive, h, State.reception_nothing]
  refine ⟨fun htx => ?storeLine, fun htx hrx => ?sending, fun x => ?link, fun n hn => ?levelBus, fun hn hrx => ?unawaited, rfl⟩
  case storeLine =>
    have hrx : s.rx .storeLine = s.store.rx := if_pos htx
    refine ⟨fun c hc => ?_, fun r hr => ?_⟩
    · rw [discarded, State.arrive, hrx, hc]
      rfl
    · rw [discarded, nothing (hrx ▸ hr)]
      exact done_of_rests hs
  case sending =>
    rw [discarded, nothing (r := .hunt) (by rw [show s.rx .storeLine = .hunt from if_neg htx]; rfl)]
    rw [show s.setRx .storeLine .hunt = s from State.storeHunt_of_hunt hrx]
    exact done_of_rests hs
  case link =>
    refine ⟨fun c hc => ?_, fun r hr => ?_⟩
    · rw [discarded, State.arrive, show s.rx (.link x) = (s.link x).rx from rfl, hc]
      show done (((s.setLink x { s.link x with rx := .hunt }).linkHunt x).raise c (some (.lift x))) = _
      rw [State.linkHunt, State.setLink_setLink, State.link_setLink_self]
      rfl
    · rw [discarded, nothing (port := .link x) hr]
      exact done_of_rests ((State.setLink_work _ _ _).trans hs)
  case levelBus =>
    refine ⟨fun c hc => ?_, fun r hr => ?_⟩
    · rw [discarded, State.arrive_levelBus hn, hc]
      rfl
    · rw [discarded, nothing (port := .levelBus) (by rw [State.rx_levelBus_of_awaiting hn, hr])]
      exact done_of_rests hs
  case unawaited =>
    rw [discarded, State.arrive_levelBus_of_not_awaiting hn hrx]
    exact done_of_rests hs

/-- The second part of O14: gaps and completion limits. -/
theorem exec_telegramTruncated_cases (s : State) (hs : s.Rests) :
    (s.store.tx = .idle → ∀ held, s.store.rx = .receiving held → exec (.telegramTruncated .storeLine) s
      = .next (State.raise { s with store := { s.store with rx := .hunt } } .linkCheck none).finish)
    ∧ ((s.store.tx = .idle → ∀ held, s.store.rx ≠ .receiving held) →
      exec (.telegramTruncated .storeLine) s = .next s)
    ∧ (∀ x held, (s.link x).rx = .receiving held → exec (.telegramTruncated (.link x)) s
      = .next ((s.setLink x { s.link x with rx := .hunt }).raise .linkCheck (some (.lift x))).finish)
    ∧ (∀ x, (∀ held, (s.link x).rx ≠ .receiving held) → exec (.telegramTruncated (.link x)) s = .next s)
    ∧ (∀ n held, s.bus.turn = .awaiting n → s.bus.rx = .receiving held →
      let t := ((s.turnEnded.raise .linkCheck (some (.shuttle n))).miss n).finish
      exec (.telegramTruncated .levelBus) s = .next t ∧ exec .turnCompletionLimit s = .next t)
    ∧ ((∀ n held, s.bus.turn = .awaiting n → s.bus.rx ≠ .receiving held) →
      exec (.telegramTruncated .levelBus) s = .next s ∧ exec .turnCompletionLimit s = .next s)
    ∧ (ReceiversFollow s → exec (.turnAnswer []) s = .next s) := by
  have truncated (port : Port) : exec (.telegramTruncated port) s = done (s.truncate port) := rfl
  have completed : exec .turnCompletionLimit s = done (s.truncate .levelBus) := rfl
  have unchanged {port : Port} (h : ∀ held, s.rx port ≠ .receiving held) : done (s.truncate port) = .next s := by
    rw [State.truncate_of_not_receiving h]
    exact done_of_rests hs
  refine ⟨fun htx held hr => ?_, fun hr => ?_, fun x held hr => ?_, fun x hr => ?_, fun n held hn hr => ?_, fun hr => ?_, fun hf => ?answer⟩
  · rw [truncated, State.truncate_of_receiving (port := .storeLine) (held := held) ((if_pos htx).trans hr)]
    rfl
  · rw [truncated]
    refine unchanged fun held => ?_
    by_cases htx : s.store.tx = .idle
    · rw [show s.rx .storeLine = s.store.rx from if_pos htx]
      exact hr htx held
    · rw [show s.rx .storeLine = .hunt from if_neg htx]
      simp
  · rw [truncated, State.truncate_of_receiving (port := .link x) (held := held) hr]
    rfl
  · rw [truncated]
    exact unchanged hr
  · have h : done (s.truncate .levelBus) = .next ((s.turnEnded.raise .linkCheck (some (.shuttle n))).miss n).finish := by
      rw [State.truncate_of_receiving (held := held) ((State.rx_levelBus_of_awaiting hn).trans hr), State.reception_levelBus hn]
      rfl
    exact ⟨h, h⟩
  · have h : done (s.truncate .levelBus) = .next s := by
      refine unchanged fun held => ?_
      by_cases hn : ∃ n, s.bus.turn = .awaiting n
      · obtain ⟨n, hn⟩ := hn
        rw [State.rx_levelBus_of_awaiting hn]
        exact hr n held hn
      · rw [State.rx_levelBus_of_not_awaiting fun n h => hn ⟨n, h⟩]
        simp
    exact ⟨h, h⟩
  case answer =>
    obtain ⟨-, hawait, hheld⟩ := hf
    have take_nil {r : Rx} (h : ∀ held, r = .receiving held → held ≠ []) : r.take [] = (r, .nothing) := by
      cases r with
      | receiving held =>
        rw [Rx.take_receiving, takeCharacters_nil, if_neg (by simpa using h held rfl)]
      | _ => rfl
    show done (s.arrive .levelBus []) = .next s
    by_cases hn : ∃ n, s.bus.turn = .awaiting n
    · obtain ⟨n, hn⟩ := hn
      have hrx := State.rx_levelBus_of_awaiting hn
      rw [State.arrive, take_nil fun held h => (hheld .levelBus held h).1, State.reception_nothing, hrx]
      exact done_of_rests hs
    · rw [State.arrive_levelBus_of_not_awaiting (fun n h => hn ⟨n, h⟩) (by by_contra hne; exact hn (hawait.mp hne))]
      exact done_of_rests hs

/-- Settles O14: the outcomes of characters, of gaps, and of bodies that do not fit. -/
theorem failedReceptionRaises : Obligations.FailedReceptionRaises := by
  unfold Obligations.FailedReceptionRaises
  refine ⟨exec_discardedTelegram_of_failed, exec_telegramTruncated_cases, fun s p tag a b hh => ?parties, fun s h a b hl => ?store⟩
  case parties =>
    intro failed overlong
    have hunfit {length : Nat} (hlen : length ≤ 48) (t : PartyTel) : done (s.telegram p tag length false t) = failed :=
      congrArg done (telegram_of_unfit hh tag hlen t)
    have hover : done (s.overlong p) = overlong := by
      cases p with
      | lift x => exact congrArg done (overlong_lift s x hh)
      | shuttle n => exact congrArg done (overlong_shuttle s n hh)
    have hlong {length : Nat} (hlen : 48 < length) (fits : Bool) (t : PartyTel) :
        done (s.telegram p tag length fits t) = overlong :=
      (congrArg done (telegram_of_overlong s p tag length fits t hlen)).trans hover
    refine ⟨?_, fun ids => ⟨?_, fun hlen => ⟨hlong hlen _ _, hlong hlen _ _, hlong hlen _ _⟩⟩, fun body hlen => ?_, ?_, ?_⟩
    · rintro r ⟨x, rfl⟩
      exact hunfit (length := 8) (by decide) _
    · intro hlen hbad
      have hfits : (PlaceBody.ids ids).fits p b = false := by
        rcases hbad with ⟨n, rfl⟩ | hne
        · rfl
        · cases p with
          | shuttle n => rfl
          | lift x => simp [PlaceBody.fits, hne]
      show done (s.telegram p tag (2 + 4 * ids.length) ((PlaceBody.ids ids).fits p b) _) = failed
      rw [hfits]
      exact hunfit hlen _
    · show done (if bodyFits body.length then _ else s.overlong p) = overlong
      rw [if_neg (by simpa [bodyFits] using hlen)]
      exact hover
    · rintro x rfl
      refine ⟨fun totes hlen => hlong hlen _ _, fun ids hlen => hlong hlen _ _, fun c hc => ?_⟩
      show done (s.telegram (.lift x) tag c.length c.fits _) = failed
      rw [hc]
      exact congrArg done (telegram_lift_of_unfit hh tag _ _)
    · rintro n c rfl
      refine ⟨fun hc hlen => ?_, fun hlen => hlong (StateBody.length_of_long hlen) _ _⟩
      show done (s.telegram (.shuttle n) tag c.length c.fits _) = failed
      rw [hc]
      exact hunfit (StateBody.length_of_short hlen) _
  case store =>
    intro failed
    have hreq {n : Nat} (hn : 48 < n) (q : Req) : done (s.onRequest h (bodyFits n) q) = failed := by
      rw [show bodyFits n = false by simpa [bodyFits] using hn]
      exact congrArg done (hl.onRequest_overlong h q)
    refine ⟨fun body hb => ⟨congrArg done (hl.onStoreLine_overlong hb), congrArg done (hl.onStoreLine_overlong hb)⟩,
      fun l hlen => hreq (by omega) _, fun l hlen => hreq (by omega) _, fun ids hlen => ⟨hreq (by omega) _, hreq (by omega) _⟩, fun hm => ?_⟩
    let f : Frame := ⟨h.aisle, 0, h.srcAisle, h.srcStation, kRequest, h.tag, []⟩
    refine congrArg done ((hl.onStoreLine (f := f) (Nat.zero_le 48)).trans ?_)
    rw [State.judgeStore_of_unique (s := s.storeHunt) (f := f) hm, State.judgeUnique_of_controller rfl rfl,
      State.judgeController_of_request rfl]
    rfl

end Sys2Proof.Machine

/-! ## Store orders (O15) -/

namespace Sys2Proof.Machine

/-! ### Stations and kinds -/

theorem station_shuttle (n : Level) : (Party.shuttle n).station = levelByte n := rfl

/-- Stations 1 to 40 name shuttles, 41 and 42 the lifts. -/
theorem partyOf_eq_some_iff (b : Byte) (p : Party) : partyOf b = some p ↔ b = p.station := by
  have apart (n : Level) : levelByte n ≠ 41 ∧ levelByte n ≠ 42 := by
    have hn := (eq_levelByte_iff (levelByte n) n).mp rfl
    have hlt := n.isLt
    constructor <;> intro h <;> rw [h] at hn <;> simp at hn <;> omega
  unfold partyOf
  cases p with
  | shuttle n =>
    rw [station_shuttle]
    constructor
    · intro h
      split at h
      · simp at h
      · split at h
        · simp at h
        · obtain ⟨m, hm, hmn⟩ := Option.map_eq_some_iff.mp h
          obtain rfl : m = n := Party.shuttle.inj hmn
          exact (eq_levelByte_iff b m).mpr ((levelOf_eq_some_iff b m).mp hm)
    · rintro rfl
      rw [if_neg (apart n).1, if_neg (apart n).2, (levelOf_eq_some_iff _ n).mpr ((eq_levelByte_iff _ n).mp rfl)]
      rfl
  | lift x =>
    have hne (h : (levelOf b).map Party.shuttle = some (.lift x)) : False := by
      obtain ⟨m, -, hm⟩ := Option.map_eq_some_iff.mp h
      cases hm
    constructor
    · intro h
      split at h
      next hb =>
        cases h
        exact hb
      · split at h
        next hb =>
          cases h
          exact hb
        · exact (hne h).elim
    · rintro rfl
      cases x <;> rfl

theorem partyOf_eq_none_of_beyond {b : Byte} (h : 43 ≤ b.toNat) : partyOf b = none := by
  rw [Option.eq_none_iff_forall_ne_some]
  intro p hp
  have hb := (partyOf_eq_some_iff b p).mp hp
  have : p.station.toNat = p.idx.val + 1 := by
    have := p.idx.isLt
    simp only [Party.station, BitVec.toNat_ofNat]
    omega
  have := p.idx.isLt
  rw [hb] at h
  omega

theorem partyOf_of_station {b : Byte} (h1 : 1 ≤ b.toNat) (h42 : b.toNat ≤ 42) : ∃ p, partyOf b = some p := by
  unfold partyOf
  split
  · exact ⟨_, rfl⟩
  next ha =>
    split
    · exact ⟨_, rfl⟩
    next hb =>
      have h40 : b.toNat ≤ 40 := by
        have h41 : b.toNat ≠ 41 := fun h => ha (BitVec.eq_of_toNat_eq h)
        have h42 : b.toNat ≠ 42 := fun h => hb (BitVec.eq_of_toNat_eq h)
        omega
      exact ⟨_, by rw [levelOf, dif_pos ⟨h1, h40⟩]; rfl⟩

theorem isReport_iff (k : Byte) : isReport k = true ↔ 0x60 ≤ k.toNat := decide_eq_true_iff

theorem knownKind_of_report {k : Byte} (h : 0x60 ≤ k.toNat) : knownKind k = true := by
  simp [knownKind, (isReport_iff k).mpr h]

theorem ne_of_report {k : Byte} (h : 0x60 ≤ k.toNat) {c : Byte} (hc : c.toNat < 0x60) : k ≠ c := by
  rintro rfl
  omega

/-- The kinds of Table 6-3 and the traffic. -/
theorem knownKind_iff (k : Byte) : knownKind k = true ↔ 0x60 ≤ k.toNat ∨ k ∈ ([0x10, 0x11, 0x12, 0x13, 0x20, 0x21, 0x22,
    0x23, 0x24, 0x28, 0x29, 0x2A, 0x30, 0x31, 0x32, 0x33, 0x34, 0x35, 0x36, 0x40, 0x50, 0x51, 0x52, 0x53, 0x54, 0x55] : List Byte) := by
  unfold knownKind
  rw [Bool.or_eq_true, isReport_iff, List.contains_iff_mem]
  exact or_comm

namespace State

/-! ### Stage 2 (R123) -/

theorem judgeUnique_of_unknown {s : State} {f : Frame} (hk : knownKind f.kind = false) :
    s.judgeUnique f = s.raise .linkForm none := by
  rw [judgeUnique, if_pos (by simp [hk])]

theorem judgeUnique_of_beyond {s : State} {f : Frame} (hk : knownKind f.kind = true) (hst : 43 ≤ f.dstStation.toNat) :
    s.judgeUnique f = (s.sendNotForwarded .unmapped f.tel).raise .route none := by
  have h0 : f.dstStation ≠ 0 := fun h => by simp [h] at hst
  unfold judgeUnique
  rw [if_neg (by simp [hk]), if_neg h0, partyOf_eq_none_of_beyond hst]

theorem station_ne_zero {b : Byte} {p : Party} (hp : partyOf b = some p) : b ≠ 0 := by
  rintro rfl
  exact absurd (show none = some p from hp) (by simp)

theorem judgeUnique_of_order {s : State} {f : Frame} {p : Party} (hp : partyOf f.dstStation = some p)
    (hr : 0x60 ≤ f.kind.toNat) (hb : f.body.length ≤ 48) : s.judgeUnique f = s.takeOrder p f.tel := by
  unfold judgeUnique
  rw [if_neg (by simp [knownKind_of_report hr]), if_neg (station_ne_zero hp), hp]
  exact if_pos (by simp [(isReport_iff _).mpr hr, hb])

theorem judgeUnique_of_no_order {s : State} {f : Frame} {p : Party} (hp : partyOf f.dstStation = some p)
    (hr : ¬ (0x60 ≤ f.kind.toNat ∧ f.body.length ≤ 48)) : s.judgeUnique f = s.raise .linkForm none := by
  have hno : (isReport f.kind && decide (f.body.length ≤ 48)) = false := by
    rw [Bool.and_eq_false_iff]
    by_cases hk : isReport f.kind = true
    · exact .inr (decide_eq_false fun hb => hr ⟨(isReport_iff _).mp hk, hb⟩)
    · exact .inl (by simpa using hk)
  unfold judgeUnique
  split
  · rfl
  · rw [if_neg (station_ne_zero hp), hp]
    exact if_neg (by rw [hno]; exact Bool.false_ne_true)

theorem judgeController_of_other {s : State} {f : Frame} (hp : f.kind ≠ kStorePoll) (hr : f.kind ≠ kRequest) :
    s.judgeController f = s.raise .linkForm none := by
  unfold judgeController
  rw [if_neg hp, if_neg hr]

theorem judgeShared_of_other {s : State} {f : Frame} (h : f.dstStation ≠ 0 ∨ f.kind ≠ kRequest) (m : AisleMatch) :
    s.judgeShared m f = s := by
  unfold judgeShared
  exact if_neg fun ⟨h0, hk⟩ => h.elim (fun hn => hn h0) fun hn => hn hk

/-! ### Admission (R126) -/

theorem orderRefusal_of_notAdmitted {s : State} {p : Party} {r : Reason} (h : s.NotAdmitted p r) :
    s.orderRefusal p = some r := by
  cases p with
  | shuttle n =>
    have full (hfull : 32 ≤ s.bus.queue.length ∨ 4 ≤ (s.waitingFor n).length) :
        ¬ (s.bus.queue.length < Config.levelQueuePlaces ∧ s.levelWaiting n < Config.levelQueueShare) := by
      rintro ⟨h1, h2⟩
      have h1' : s.bus.queue.length < 32 := h1
      have h2' : (s.waitingFor n).length < 4 := h2
      omega
    rcases h with ⟨hp, rfl⟩ | ⟨hp, rfl⟩ | ⟨hp, rfl⟩ | ⟨hp, rfl⟩ | ⟨hp, hfull, rfl⟩ <;> unfold orderRefusal <;> simp only [hp]
    rw [if_neg (full hfull)]
  | lift x =>
    have full (hfull : 6 ≤ ((s.link x).down.filter (fun i => !i.own)).length ∨ 8 ≤ (s.link x).down.length) :
        ¬ (((s.link x).down.filter (fun i => !i.own)).length < Config.liftForwardPlaces
          ∧ (s.link x).down.length < Config.liftQueuePlaces) := by
      rintro ⟨h1, h2⟩
      have h1' : ((s.link x).down.filter (fun i => !i.own)).length < 6 := h1
      have h2' : (s.link x).down.length < 8 := h2
      omega
    rcases h with ⟨hp, rfl⟩ | ⟨hp, rfl⟩ | ⟨hp, hfull, rfl⟩ <;> unfold orderRefusal <;> simp only [hp]
    rw [if_neg (full hfull)]

theorem takeOrder_of_refusal {s : State} {p : Party} {r : Reason} (h : s.orderRefusal p = some r) (t : Tel) :
    s.takeOrder p t = s.sendNotForwarded r t := by
  unfold takeOrder
  rw [h]

theorem takeOrder_of_admitted {s : State} {p : Party} (h : s.orderRefusal p = none) (t : Tel) :
    s.takeOrder p t = s.admitOrder p t := by
  unfold takeOrder
  rw [h]

/-! ### NOT-FORWARDED (R130, R134) -/

theorem placeFree_of_used {s : State} (h : 64 ≤ s.upstreamUsed) : s.placeFree = false :=
  decide_eq_false (not_lt.mpr h)

theorem sendNotForwarded_of_free {s : State} (h : s.upstreamUsed < 64) (r : Reason) (t : Tel) : s.sendNotForwarded r t
    = s.pushUpstream (s.toStore kNotForwarded t.tag (.notForwarded r t.dstAisle t.dstStation t.kind t.tag)) :=
  if_pos (decide_eq_true h)

section Full
variable {s : State} (h : 64 ≤ s.upstreamUsed)
include h

theorem sendNotForwarded_of_waiting (hw : s.store.nfWait.length < 16) (r : Reason) (t : Tel) : s.sendNotForwarded r t
    = { s with store := { s.store with nfWait := s.store.nfWait
        ++ [s.toStore kNotForwarded t.tag (.notForwarded r t.dstAisle t.dstStation t.kind t.tag)] } } := by
  unfold sendNotForwarded
  rw [if_neg (by rw [placeFree_of_used h]; exact Bool.false_ne_true)]
  exact if_pos hw

theorem sendNotForwarded_of_lost (hw : 16 ≤ s.store.nfWait.length) (r : Reason) (t : Tel) :
    s.sendNotForwarded r t = s.raise .queueOverrun none := by
  unfold sendNotForwarded
  rw [if_neg (by rw [placeFree_of_used h]; exact Bool.false_ne_true)]
  exact if_neg (not_lt.mpr hw)

end Full

end State

/-! ### The parts of O15 -/

/-- A STORE_ORDER command (R123, R126). -/
theorem exec_storeOrder_cases (s : State) (h : StoreHdr) (station kind : Byte) (body : List Byte)
    (hl : Listens s) (hk : 0x60 ≤ kind.toNat) (hb : body.length ≤ 48) :
    let t : Tel := ⟨h.aisle, station, h.srcAisle, h.srcStation, kind, h.tag, .raw body⟩
    let u := s.storeHunt
    (s.store.Matches h.aisle true →
      (∀ n, partyOf station = some (.shuttle n) → (s.shuttle n).presence = .online → s.bus.queue.length < 32 →
        (s.waitingFor n).length < 4 →
        exec (.storeOrder h station kind body) s
          = .next { u with bus := { s.bus with queue := s.bus.queue ++ [⟨n, t, false⟩] } })
      ∧ (∀ x, partyOf station = some (.lift x) → (s.lift x).presence = .online →
        ((s.link x).down.filter (fun i => !i.own)).length < 6 → (s.link x).down.length < 8 →
        exec (.storeOrder h station kind body) s
          = .next (u.setLink x { s.link x with down := (s.link x).down ++ [⟨t, false, false⟩] }))
      ∧ (∀ p r, partyOf station = some p → s.NotAdmitted p r →
        exec (.storeOrder h station kind body) s = .next (u.sendNotForwarded r t).finish)
      ∧ (43 ≤ station.toNat →
        exec (.storeOrder h station kind body) s
          = .next ((u.sendNotForwarded .unmapped t).raise .route none).finish)
      ∧ (station = 0 → exec (.storeOrder h station kind body) s = .next (u.raise .linkForm none).finish)
      ∧ ∀ k : Byte, k.toNat < 0x60 → 1 ≤ station.toNat → station.toNat ≤ 42 →
        exec (.storeOrder h station k body) s = .next (u.raise .linkForm none).finish)
    ∧ (s.store.Matches h.aisle false → exec (.storeOrder h station kind body) s = .next u)
    ∧ (¬ s.store.Matches h.aisle true → ¬ s.store.Matches h.aisle false →
      exec (.storeOrder h station kind body) s = .next u) := by
  intro t u
  let f (k : Byte) : Frame := ⟨h.aisle, station, h.srcAisle, h.srcStation, k, h.tag, body⟩
  have hu : u.Rests := hl.rests
  have judged (k : Byte) : exec (.storeOrder h station k body) s = done (u.judgeStore (f k)) :=
    congrArg done (hl.onStoreLine (f := f k) hb)
  refine ⟨fun hm => ?unique, fun hm => ?shared, fun hnu hns => ?unmatched⟩
  case unique =>
    have unique (k : Byte) : exec (.storeOrder h station k body) s = done (u.judgeUnique (f k)) :=
      (judged k).trans (congrArg done (State.judgeStore_of_unique (s := u) (f := f k) hm))
    have taken {p : Party} (hp : partyOf station = some p) : exec (.storeOrder h station kind body) s = done (u.takeOrder p t) :=
      (unique kind).trans (congrArg done (State.judgeUnique_of_order (f := f kind) hp hk hb))
    refine ⟨fun n hp hon hq hw => ?_, fun x hp hon hf hd => ?_, fun p r hp hr => ?_, fun hst => ?_, fun h0 => ?_, fun k hk' h1 h42 => ?_⟩
    · have hadmit : u.orderRefusal (.shuttle n) = none := by
        unfold State.orderRefusal
        simp only [show (u.shuttle n).presence = .online from hon]
        exact if_pos ⟨hq, hw⟩
      rw [taken hp, State.takeOrder_of_admitted hadmit]
      exact done_of_rests hu
    · have hadmit : u.orderRefusal (.lift x) = none := by
        unfold State.orderRefusal
        simp only [show (u.lift x).presence = .online from hon]
        exact if_pos ⟨hf, hd⟩
      rw [taken hp, State.takeOrder_of_admitted hadmit]
      exact done_of_rests ((State.setLink_work _ _ _).trans hu)
    · rw [taken hp, State.takeOrder_of_refusal (s := u) (State.orderRefusal_of_notAdmitted (s := u) hr)]
      rfl
    · exact (unique kind).trans (congrArg done (State.judgeUnique_of_beyond (f := f kind) (knownKind_of_report hk) hst))
    · refine (unique kind).trans (congrArg done ?_)
      rw [State.judgeUnique_of_controller (f := f kind) (knownKind_of_report hk) h0]
      exact State.judgeController_of_other (ne_of_report hk (by decide)) (ne_of_report hk (by decide))
    · obtain ⟨p, hp⟩ := partyOf_of_station h1 h42
      exact (unique k).trans (congrArg done (State.judgeUnique_of_no_order (f := f k) hp fun hr => absurd hr.1 (not_le.mpr hk')))
  case shared =>
    obtain ⟨m, -, hj⟩ := State.judgeStore_of_shared (s := u) (f := f kind) hm
    rw [judged, hj, State.judgeShared_of_other (.inr (ne_of_report hk (by decide)))]
    exact done_of_rests hu
  case unmatched =>
    rw [judged, State.judgeStore_of_nothing (s := u) (f := f kind) hnu hns]
    exact done_of_rests hu

/-- A NOT-FORWARDED to the store controller (R130, R134). -/
theorem sendNotForwarded_cases (s : State) (r : Reason) (t : Tel) :
    let m := s.upward 0x40 t.tag (.notForwarded r t.dstAisle t.dstStation t.kind t.tag)
    (s.upstreamUsed < 64 →
      s.sendNotForwarded r t = { s with store := { s.store with upstream := s.store.upstream ++ [m] } })
    ∧ (64 ≤ s.upstreamUsed → s.store.nfWait.length < 16 →
      s.sendNotForwarded r t = { s with store := { s.store with nfWait := s.store.nfWait ++ [m] } })
    ∧ (64 ≤ s.upstreamUsed → 16 ≤ s.store.nfWait.length → s.sendNotForwarded r t = s.raise .queueOverrun none) :=
  ⟨fun h => State.sendNotForwarded_of_free h r t, fun h hw => State.sendNotForwarded_of_waiting h hw r t,
    fun h hw => State.sendNotForwarded_of_lost h hw r t⟩

/-- Steps 4 to 8 of a telegram that arrives as its characters: it does what its command does (R120 to R124). -/
theorem exec_discardedTelegram_of_sound (s : State) (first : Character) (rest : List Character) (f : Frame) (hs : s.Rests)
    (htx : s.store.tx = .idle) (hf : s.store.rx.take (first :: rest) = (.hunt, .sound f)) :
    let o := exec (.discardedTelegram .storeLine first rest) s
    let u := s.storeHunt
    let ready : State := { s with store := { s.store with rx := .ready } }
    let h : StoreHdr := ⟨f.dstAisle, f.srcAisle, f.srcStation, f.tag⟩
    let linkForm : Prop := o = .next (u.raise .linkForm none).finish
    let report : Prop := 0x60 ≤ f.kind.toNat
    let known : Prop := report ∨ f.kind ∈ [0x10, 0x11, 0x12, 0x13, 0x20, 0x21, 0x22, 0x23, 0x24, 0x28, 0x29, 0x2A,
      0x30, 0x31, 0x32, 0x33, 0x34, 0x35, 0x36, 0x40, 0x50, 0x51, 0x52, 0x53, 0x54, 0x55]
    let request : Prop := (f.body = [] → linkForm) ∧ (f.body ≠ [] → o = exec (.request h f.body) ready)
    (s.store.Matches f.dstAisle true →
      (¬ known → linkForm)
      ∧ (f.dstStation = 0 →
        (f.kind = 0x50 → (∀ b, f.body = [b] → o = exec (.storePoll h b) ready) ∧ (f.body.length ≠ 1 → linkForm))
        ∧ (f.kind = 0x52 → request)
        ∧ (f.kind ≠ 0x50 → f.kind ≠ 0x52 → linkForm))
      ∧ (43 ≤ f.dstStation.toNat → known →
        o = .next ((u.sendNotForwarded .unmapped ⟨f.dstAisle, f.dstStation, f.srcAisle, f.srcStation, f.kind, f.tag,
          .raw f.body⟩).raise .route none).finish)
      ∧ (1 ≤ f.dstStation.toNat → f.dstStation.toNat ≤ 42 →
        (¬ report → linkForm) ∧ (report → o = exec (.storeOrder h f.dstStation f.kind f.body) ready)))
    ∧ (s.store.Matches f.dstAisle false →
      (f.dstStation = 0 → f.kind = 0x52 → request)
      ∧ ((f.dstStation ≠ 0 ∨ f.kind ≠ 0x52) → o = .next u))
    ∧ (¬ s.store.Matches f.dstAisle true → ¬ s.store.Matches f.dstAisle false → o = .next u) := by
  intro o u ready h linkForm report known request
  have ho : o = done (u.judgeStore f) := by
    show done (s.arrive .storeLine (first :: rest)) = _
    rw [State.arrive, show s.rx .storeLine = s.store.rx from if_pos htx, hf]
    rfl
  have hready : Listens ready := ⟨hs, rfl, htx⟩
  have hline (g : Frame) : done (ready.onStoreLine g)
      = if g.body.length ≤ 48 then done (u.judgeStore g) else .next (u.raise .linkForm none).finish := by
    split
    next hg => exact congrArg done (hready.onStoreLine hg)
    next hg => exact congrArg done (hready.onStoreLine_overlong (not_le.mp hg))
  have body_overlong {m : AisleMatch} (hb : 48 < f.body.length) : u.takeRequestBody m f.tag f.body = u.raise .linkForm none := by
    unfold State.takeRequestBody
    split
    next hnil => simp [hnil] at hb
    next => rw [if_neg (not_le.mpr hb)]
  have hrequest {m : AisleMatch} (h0 : f.dstStation = 0) (hk : f.kind = 0x52)
      (hj : u.judgeStore f = u.takeRequestBody m f.tag f.body) : request := by
    refine ⟨fun hnil => ?_, fun _ => ?_⟩
    · show o = _
      rw [ho, hj, hnil]
      rfl
    · have hframe : f = ⟨h.aisle, 0, h.srcAisle, h.srcStation, kRequest, h.tag, f.body⟩ := by
        show f = ⟨f.dstAisle, 0, f.srcAisle, f.srcStation, 0x52, f.tag, f.body⟩
        rw [← h0, ← hk]
      show o = done (ready.onStoreLine ⟨h.aisle, 0, h.srcAisle, h.srcStation, kRequest, h.tag, f.body⟩)
      rw [← hframe, hline, ho]
      split
      · rfl
      next hb =>
        rw [hj, body_overlong (not_le.mp hb)]
        rfl
  refine ⟨fun hm => ?unique, fun hm => ?shared, fun hnu hns => ?unmatched⟩
  case unique =>
    have hj : u.judgeStore f = u.judgeUnique f := State.judgeStore_of_unique (s := u) hm
    have form (hu : u.judgeUnique f = u.raise .linkForm none) : linkForm := by
      show o = _
      rw [ho, hj, hu]
      rfl
    refine ⟨fun hk => form (State.judgeUnique_of_unknown (Bool.eq_false_iff.mpr (mt (knownKind_iff _).mp hk))), fun h0 => ⟨fun hk => ⟨fun b hb => ?_, fun hb => ?_⟩,
      fun hk => ?_, fun hp hr => ?_⟩, fun hst hk => ?_, fun h1 h42 => ⟨fun hr => ?_, fun hr => ?_⟩⟩
    · have hframe : f = ⟨h.aisle, 0, h.srcAisle, h.srcStation, kStorePoll, h.tag, [b]⟩ := by
        show f = ⟨f.dstAisle, 0, f.srcAisle, f.srcStation, 0x50, f.tag, [b]⟩
        rw [← h0, ← hk, ← hb]
      show o = done (ready.onStoreLine ⟨h.aisle, 0, h.srcAisle, h.srcStation, kStorePoll, h.tag, [b]⟩)
      rw [← hframe, hline, ho, if_pos (by rw [hb]; exact Nat.succ_le_succ (Nat.zero_le 47))]
    · refine form ?_
      rw [State.judgeUnique_of_controller (by rw [hk]; decide) h0]
      unfold State.judgeController
      rw [if_pos (show f.kind = kStorePoll from hk)]
      split
      next b hb1 => exact absurd (by rw [hb1]; rfl) hb
      · rfl
    · refine hrequest (m := .unique) h0 hk (hj.trans ?_)
      rw [State.judgeUnique_of_controller (by rw [hk]; decide) h0, State.judgeController_of_request hk]
    · by_cases hk : knownKind f.kind = true
      · exact form (by rw [State.judgeUnique_of_controller hk h0, State.judgeController_of_other hp hr])
      · exact form (State.judgeUnique_of_unknown (by simpa using hk))
    · rw [ho, hj, State.judgeUnique_of_beyond ((knownKind_iff _).mpr hk) hst]
      rfl
    · obtain ⟨p, hp⟩ := partyOf_of_station h1 h42
      exact form (State.judgeUnique_of_no_order hp fun h => hr h.1)
    · obtain ⟨p, hp⟩ := partyOf_of_station h1 h42
      show o = done (ready.onStoreLine f)
      rw [hline, ho]
      split
      · rfl
      next hb =>
        rw [hj, State.judgeUnique_of_no_order hp fun h => hb h.2]
        rfl
  case shared =>
    obtain ⟨m, -, hj⟩ := State.judgeStore_of_shared (s := u) hm
    refine ⟨fun h0 hk => hrequest (m := m) h0 hk (hj.trans ?_), fun hother => ?_⟩
    · unfold State.judgeShared
      exact if_pos ⟨h0, hk⟩
    · rw [ho, hj, State.judgeShared_of_other hother]
      exact done_of_rests hs
  case unmatched =>
    rw [ho, State.judgeStore_of_nothing (s := u) hnu hns]
    exact done_of_rests hs

/-- Settles O15: an order as its command, what answers one that is not passed on, and a telegram as its characters. -/
theorem storeOrders : Obligations.StoreOrders := by
  unfold Obligations.StoreOrders
  refine ⟨exec_storeOrder_cases, sendNotForwarded_cases, exec_discardedTelegram_of_sound, partyOf_eq_some_iff, fun n => rfl,
    rfl, rfl, rfl, rfl, fun p => ?_, fun s => rfl, fun s => rfl⟩
  have := p.idx.isLt
  simp only [Party.station, BitVec.toNat_ofNat]
  omega

end Sys2Proof.Machine

/-! ## Polls and freed places (O16) -/

namespace Sys2Proof.Machine

theorem countTag_eq (m : Tel) (c : Byte) : countTag m c = if m.kind = 0x54 then c + 1 else c := by
  unfold countTag Tel.isNotice
  by_cases h : m.kind = kNotice
  · exact (if_pos (decide_eq_true h)).trans (if_pos h).symm
  · exact (if_neg (by simpa using h)).trans (if_neg h).symm

namespace State

/-! ### The burst (R132) -/

/-- The burst goes on, or with nothing to send its END is made (R132). -/
theorem burst_eq (s : State) (left : Nat) (tag : Byte) : s.burst left tag = { s with store := { s.store with
    tx := if left = 0 ∨ s.store.upstream = [] then
        .ending (s.upward 0x51 tag (.endCount (BitVec.ofNat 8 s.store.upstream.length)))
      else .burst left tag } } := by
  unfold burst
  by_cases h : left = 0 ∨ s.store.upstream = []
  · rw [if_pos (h.imp id List.isEmpty_iff.mpr), if_pos h]
    rfl
  · rw [if_neg (mt (Or.imp id List.isEmpty_iff.mp) h), if_neg h]

/-- The next telegram of a burst of `left` telegrams (R132). -/
theorem burst_next_eq (s : State) (left : Nat) (tag : Byte) : s.burst (left - 1) tag = { s with store := { s.store with
    tx := if left ≤ 1 ∨ s.store.upstream = [] then
        .ending (s.upward 0x51 tag (.endCount (BitVec.ofNat 8 s.store.upstream.length)))
      else .burst (left - 1) tag } } := by
  have : left - 1 = 0 ↔ left ≤ 1 := by omega
  rw [burst_eq]
  simp only [this]

theorem takePoll_eq (s : State) (tag b : Byte) : s.takePoll tag b = s.burst (min b.toNat 8) tag := rfl

/-! ### Requests in their turn (R133) -/

/-- A request that is executed leaves the queue, its ANSWER in the place kept for it (R133, R184). -/
theorem execHead_eq {s : State} {q : ReqItem} {rest : List ReqItem} (h : s.requests = q :: rest) :
    let p := execReq { s with work := { s.work with reserved := q.answer } } q.req
    s.execHead q = { p.1.finish.executed q.tag q.answer q.req.code p.2.1 (p.1.finish.answerData q.req p.2.2) with
      requests := rest } := by
  intro p
  have hrequests : p.1.finish.requests = q :: rest := by
    rw [finish_requests]
    exact (execReq_requests _ _).trans h
  unfold execHead
  dsimp only
  rw [show (execReq { s with work := { s.work with reserved := q.answer } } q.req) = p from rfl, hrequests, executed]
  cases q.answer <;> rfl

theorem rests_execHead (s : State) (q : ReqItem) : (s.execHead q).Rests := by
  unfold execHead
  dsimp only
  split <;> simp only [finish_work] <;> rfl

theorem rests_serveRequests (k : Nat) {s : State} (h : s.Rests) : (s.serveRequests k).Rests := by
  induction k generalizing s with
  | zero => exact h
  | succ k ih =>
    unfold serveRequests
    split
    · exact h
    · split
      · exact ih (rests_execHead _ _)
      · exact h

theorem placeFree_of_lt {s : State} (h : s.upstreamUsed < 64) : s.placeFree = true := decide_eq_true h

/-- With nothing left over no place is kept for an ANSWER. -/
theorem Rests.upstreamUsed {s : State} (h : s.Rests) : s.upstreamUsed = s.store.upstream.length := by
  rw [State.upstreamUsed, show s.work.reserved = false from congrArg Work.reserved h]
  rfl

/-- The head request is not executed while no place is free for its ANSWER (R133). -/
theorem serveRequests_of_full {s : State} {q : ReqItem} {rest : List ReqItem} (h : s.requests = q :: rest)
    (ha : q.answer = true) (hu : 64 ≤ s.upstreamUsed) (k : Nat) : s.serveRequests k = s := by
  cases k with
  | zero => rfl
  | succ k =>
    unfold serveRequests
    rw [h]
    exact if_neg (by simp [ha, placeFree_of_used hu])

/-- The head request is executed while it can be (R133). -/
theorem serveRequests_of_served {s : State} {q : ReqItem} {rest : List ReqItem} (h : s.requests = q :: rest)
    (hgo : q.answer = false ∨ s.upstreamUsed < 64) (k : Nat) :
    s.serveRequests (k + 1) = (s.execHead q).serveRequests k := by
  conv_lhs => unfold serveRequests
  rw [h]
  refine if_pos ?_
  rcases hgo with ha | hu
  · simp [ha]
  · simp [placeFree_of_lt hu]

/-! ### A freed place (R130) -/

theorem givePlace_of_notice {s : State} {t : Tel} (h : s.store.noticeWait = some t) :
    s.givePlace = { s with store := { s.store with noticeWait := none, upstream := s.store.upstream ++ [t] } } := by
  unfold givePlace
  rw [h]
  rfl

section NoNotice
variable {s : State} (hn : s.store.noticeWait = none)
include hn

theorem givePlace_of_ask {t : Tel} {ts : List Tel} (h : s.unsentAsks = t :: ts) :
    s.givePlace = { s with store := { s.store with upstream := s.store.upstream ++ [t] }, unsentAsks := ts } := by
  unfold givePlace
  rw [hn, h]
  rfl

variable (ha : s.unsentAsks = [])
include ha

/-- With neither a NOTICE nor a CONFIRM-ASK waiting, requests are served first; a NOT-FORWARDED takes a place that is still
free (R130, R133). -/
theorem givePlace_of_notForwarded {t : Tel} {ts : List Tel} (h : (s.serveRequests 4).store.nfWait = t :: ts)
    (hfree : (s.serveRequests 4).upstreamUsed < 64) :
    s.givePlace = { s.serveRequests 4 with store := { (s.serveRequests 4).store with
      nfWait := ts, upstream := (s.serveRequests 4).store.upstream ++ [t] } } := by
  unfold givePlace
  rw [hn, ha]
  show (match (s.serveRequests 4).store.nfWait with
    | [] => s.serveRequests 4
    | t :: ts => if (s.serveRequests 4).placeFree then
        State.pushUpstream { s.serveRequests 4 with store := { (s.serveRequests 4).store with nfWait := ts } } t
      else s.serveRequests 4) = _
  simp only [h, placeFree_of_lt hfree, if_true]
  rfl

theorem givePlace_of_nothing (h : (s.serveRequests 4).store.nfWait = [] ∨ 64 ≤ (s.serveRequests 4).upstreamUsed) :
    s.givePlace = s.serveRequests 4 := by
  unfold givePlace
  rw [hn, ha]
  show (match (s.serveRequests 4).store.nfWait with
    | [] => s.serveRequests 4
    | t :: ts => if (s.serveRequests 4).placeFree then
        State.pushUpstream { s.serveRequests 4 with store := { (s.serveRequests 4).store with nfWait := ts } } t
      else s.serveRequests 4) = _
  split
  · rfl
  next hw =>
    have hfull := h.resolve_left (by simp [hw])
    rw [if_neg (by rw [placeFree_of_used hfull]; exact Bool.false_ne_true)]

end NoNotice

theorem upstreamSent_eq {s : State} {left : Nat} {tag : Byte} {m : Tel} {ms : List Tel} (htx : s.store.tx = .burst left tag)
    (hup : s.store.upstream = m :: ms) : s.upstreamSent = (State.givePlace { s with store := { s.store with
      upstream := ms, ownTag := if m.kind = 0x54 then s.store.ownTag + 1 else s.store.ownTag } }).burst (left - 1) tag := by
  unfold upstreamSent
  simp only [htx, hup, countTag_eq]

end State

/-- Settles O16: the burst and its END, what a freed place goes to, and the requests in their turn. -/
theorem pollsAndFreedPlaces : Obligations.PollsAndFreedPlaces := by
  unfold Obligations.PollsAndFreedPlaces
  refine ⟨fun s h b hl => ?polls, fun s left tag m ms hs htx hup hfree => ?places,
    fun s left tag m ms hs htx hup hfree hnotice hasks => ?served, fun s => rfl, fun s k => ⟨serveRequests_nil _ s, fun q rest hq => ⟨fun ha hu => ?full, fun hgo => ?next⟩⟩⟩
  case polls =>
    let f : Frame := ⟨h.aisle, 0, h.srcAisle, h.srcStation, kStorePoll, h.tag, [b]⟩
    have hu : s.storeHunt.Rests := hl.rests
    have judged : exec (.storePoll h b) s = done (s.storeHunt.judgeStore f) :=
      congrArg done (hl.onStoreLine (f := f) (show 1 ≤ 48 by decide))
    have polled (hm : s.store.Matches h.aisle true) : exec (.storePoll h b) s = done (s.storeHunt.burst (min b.toNat 8) h.tag) := by
      rw [judged, State.judgeStore_of_unique (s := s.storeHunt) (f := f) hm, State.judgeUnique_of_controller rfl rfl]
      rfl
    refine ⟨fun hm hb hne => ?_, fun hm hend => ?_, fun hm => ?_⟩
    · have hgo : ¬ (min b.toNat 8 = 0 ∨ s.storeHunt.store.upstream = []) := by
        rintro (h0 | h0)
        · exact hb (BitVec.eq_of_toNat_eq (by show b.toNat = 0; omega))
        · exact hne h0
      rw [polled hm, State.burst_eq, if_neg hgo]
      exact done_of_rests hl.rests
    · have hnone : min b.toNat 8 = 0 ∨ s.storeHunt.store.upstream = [] := hend.imp (fun h0 => by rw [h0]; rfl) id
      rw [polled hm, State.burst_eq, if_pos hnone]
      exact done_of_rests hl.rests
    · obtain ⟨m, -, hj⟩ := State.judgeStore_of_shared (s := s.storeHunt) (f := f) hm
      rw [judged, hj, State.judgeShared_of_other (.inr (show kStorePoll ≠ kRequest by decide))]
      exact done_of_rests hu
  case places =>
    intro goesOn u
    have hu : u.Rests := hs
    have sent {t : State} (hg : u.givePlace = t) (ht : t.Rests) : exec .upstreamTelegramSent s = .next (goesOn t) := by
      show done s.upstreamSent = _
      rw [State.upstreamSent_eq htx hup, show State.givePlace _ = t from hg, State.burst_next_eq]
      exact done_of_rests ht
    have used : u.upstreamUsed < 64 := by rw [State.Rests.upstreamUsed hu]; exact hfree
    refine ⟨fun w hw => sent (State.givePlace_of_notice (s := u) hw) hs, fun w ws hw ha => sent (State.givePlace_of_ask (s := u) hw ha) hs,
      fun w ws hw ha hq hnf => ?_, fun hw ha hq hnf => ?_, fun q rest hw ha hq hans => ?withRequest⟩
    · have hserve : u.serveRequests 4 = u := serveRequests_nil 4 u hq
      refine sent ((State.givePlace_of_notForwarded (s := u) hw ha (by rw [hserve]; exact hnf) (by rw [hserve]; exact used)).trans ?_) hs
      rw [hserve]
    · have hserve : u.serveRequests 4 = u := serveRequests_nil 4 u hq
      exact sent ((State.givePlace_of_nothing (s := u) hw ha (.inl (by rw [hserve]; exact hnf))).trans hserve) hs
    case withRequest =>
      intro p t served hrest
      have hhead : u.execHead q = served := by
        have := State.execHead_eq (s := u) hq
        rw [hans] at this
        exact this
      have hsrests : served.Rests := hhead ▸ u.rests_execHead q
      have hserve : u.serveRequests 4 = served := by
        rw [State.serveRequests_of_served (s := u) hq (.inr used), hhead]
        rcases hrest with hnil | ⟨hlen, hhd⟩
        · exact serveRequests_nil 3 served hnil
        · cases hr : rest with
          | nil => simp [hr] at hhd
          | cons r rs =>
            rw [hr] at hhd
            refine State.serveRequests_of_full (q := r) (rest := rs) hr (Option.some.inj hhd) ?_ 3
            rw [State.Rests.upstreamUsed hsrests]
            exact hlen
      refine ⟨fun w ws hnf hroom => ?_, fun hnf => ?_⟩
      · refine sent ((State.givePlace_of_notForwarded (s := u) hw ha (by rw [hserve]; exact hnf) ?_).trans ?_) hsrests
        · rw [hserve, State.Rests.upstreamUsed hsrests]
          exact hroom
        · rw [hserve]
      · refine sent ((State.givePlace_of_nothing (s := u) hw ha ?_).trans hserve) hsrests
        rw [hserve, State.Rests.upstreamUsed hsrests]
        exact hnf
  case served =>
    intro goesOn t
    let u : State := { s with store := { s.store with
      upstream := ms, ownTag := if m.kind = 0x54 then s.store.ownTag + 1 else s.store.ownTag } }
    have ht : t.Rests := State.rests_serveRequests 4 (s := u) hs
    have sent {v : State} (hg : u.givePlace = v) (hv : v.Rests) : exec .upstreamTelegramSent s = .next (goesOn v) := by
      show done s.upstreamSent = _
      rw [State.upstreamSent_eq htx hup, show State.givePlace _ = v from hg, State.burst_next_eq]
      exact done_of_rests hv
    refine ⟨fun w ws hw hroom => ?_, fun h => ?_⟩
    · exact sent (State.givePlace_of_notForwarded (s := u) hnotice hasks hw (by
        rw [State.Rests.upstreamUsed ht]
        exact hroom)) ht
    · exact sent (State.givePlace_of_nothing (s := u) hnotice hasks (h.imp id fun hfull => by
        rw [State.Rests.upstreamUsed ht]
        exact hfull)) ht
  case full => exact State.serveRequests_of_full hq ha hu (k + 1)
  case next =>
    intro p t
    rw [State.serveRequests_of_served hq hgo, State.execHead_eq hq]

end Sys2Proof.Machine

/-! ## Requests as bytes (O18) -/

namespace Sys2Proof.Machine

/-! ### Words and counts in bytes -/

/-- The four bytes of a word spell it. -/
theorem join32_be32 (w : BitVec 32) :
    join32 (w.extractLsb' 24 8) (w.extractLsb' 16 8) (w.extractLsb' 8 8) (w.extractLsb' 0 8) = w := by
  unfold join32
  rw [BitVec.extractLsb'_append_extractLsb'_eq_extractLsb' (start₂ := 24) (start₁ := 16) rfl,
    BitVec.extractLsb'_append_extractLsb'_eq_extractLsb' (start₂ := 16) (start₁ := 8) rfl,
    BitVec.extractLsb'_append_extractLsb'_eq_extractLsb' (start₂ := 8) (start₁ := 0) rfl]
  exact BitVec.extractLsb'_eq_self

theorem be32_join32 (a b c d : Byte) : be32 (join32 a b c d) = [a, b, c, d] := by
  unfold be32 join32
  rw [BitVec.extractLsb'_append_eq_of_le (w := 8) (start := 24) (by decide),
    BitVec.extractLsb'_append_eq_of_le (w := 8) (start := 24 - 8) (by decide),
    BitVec.extractLsb'_append_eq_of_le (w := 8) (start := 24 - 8 - 8) (by decide),
    BitVec.extractLsb'_append_eq_of_le (w := 8) (start := 16) (by decide),
    BitVec.extractLsb'_append_eq_of_le (w := 8) (start := 16 - 8) (by decide),
    BitVec.extractLsb'_append_eq_of_add_le (w := 8) (start := 16 - 8 - 8) (by decide),
    BitVec.extractLsb'_append_eq_of_le (w := 8) (start := 8) (by decide),
    BitVec.extractLsb'_append_eq_of_add_le (w := 8) (start := 8 - 8) (by decide),
    BitVec.extractLsb'_append_eq_of_add_le (w := 8) (start := 0) (by decide)]
  simp

theorem be16_join16 (a b : Byte) : be16 (join16 a b) = [a, b] := by
  unfold be16 join16
  rw [BitVec.extractLsb'_append_eq_of_le (w := 8) (start := 8) (by decide),
    BitVec.extractLsb'_append_eq_of_add_le (w := 8) (start := 0) (by decide)]
  simp

/-- A count byte counts what it spells. -/
theorem eq_toNat_iff (n : Nat) (c : Byte) : n = c.toNat ↔ n ≤ 255 ∧ c = BitVec.ofNat 8 n := by
  constructor
  · rintro rfl
    exact ⟨by omega, (BitVec.ofNat_toNat 8 c ▸ BitVec.setWidth_eq c).symm⟩
  · rintro ⟨hn, rfl⟩
    rw [BitVec.toNat_ofNat]
    omega

theorem idsOf_eq_some_iff (bytes : List Byte) (l : List ToteId) : idsOf bytes = some l ↔ bytes = l.flatMap be32 := by
  constructor
  · intro h
    induction bytes using idsOf.induct generalizing l with
    | case1 =>
      cases h
      rfl
    | case2 a b c d r ih =>
      obtain ⟨k, hk, rfl⟩ := Option.map_eq_some_iff.mp h
      rw [List.flatMap_cons, be32_join32, ih k hk]
      rfl
    | case3 bytes h0 h4 => 
      unfold idsOf at h
      split at h
      · exact absurd rfl h0
      · exact absurd rfl (h4 _ _ _ _ _)
      · contradiction
  · rintro rfl
    induction l with
    | nil => rfl
    | cons id l ih =>
      show (idsOf (l.flatMap be32)).map _ = _
      rw [ih, Option.map_some, join32_be32]

theorem countedIds_eq_some_iff (c : Byte) (bytes : List Byte) (l : List ToteId) :
    countedIds c bytes = some l ↔ bytes = l.flatMap be32 ∧ l.length = c.toNat := by
  rw [countedIds, Option.filter_eq_some_iff, idsOf_eq_some_iff, decide_eq_true_iff]

/-! ### The arguments of Table 10-2 -/

theorem timingOf_timingBytes (t : Timing) : timingOf (timingBytes t) = some t := by
  simp only [timingBytes, be16, List.cons_append, List.nil_append, timingOf, join16_be16]

theorem eq_timingBytes {l : List Byte} {t : Timing} (h : timingOf l = some t) : l = timingBytes t := by
  unfold timingOf at h
  split at h
  · cases h
    simp only [timingBytes, be16_join16, List.cons_append, List.nil_append]
  · contradiction

theorem oneByte_eq_some_iff {f : Byte → Req} {a : List Byte} {q : Req} : oneByte f a = some q ↔ ∃ b, a = [b] ∧ f b = q := by
  constructor
  · unfold oneByte
    split
    · exact fun h => ⟨_, rfl, Option.some.inj h⟩
    · exact fun h => absurd h (Option.some_ne_none q).symm
  · rintro ⟨b, rfl, rfl⟩
    rfl

theorem twoBytes_eq_some_iff {f : Byte → Byte → Req} {a : List Byte} {q : Req} :
    twoBytes f a = some q ↔ ∃ b c, a = [b, c] ∧ f b c = q := by
  constructor
  · unfold twoBytes
    split
    · exact fun h => ⟨_, _, rfl, Option.some.inj h⟩
    · exact fun h => absurd h (Option.some_ne_none q).symm
  · rintro ⟨b, c, rfl, rfl⟩
    rfl

theorem byteIdOf_eq_some_iff {a : List Byte} {b : Byte} {id : ToteId} : byteIdOf a = some (b, id) ↔ a = b :: be32 id := by
  constructor
  · unfold byteIdOf
    split
    · intro h
      cases h
      rw [be32_join32]
    · exact fun h => absurd h (Option.some_ne_none _).symm
  · rintro rfl
    exact congrArg (fun w => some (b, w)) (join32_be32 id)

theorem streamIdsOf_eq_some_iff {a : List Byte} {i : Byte} {l : List ToteId} :
    streamIdsOf a = some (i, l) ↔ l.length ≤ 255 ∧ a = [i, BitVec.ofNat 8 l.length] ++ l.flatMap be32 := by
  constructor
  · unfold streamIdsOf
    split
    · intro h
      obtain ⟨k, hk, hp⟩ := Option.map_eq_some_iff.mp h
      cases hp
      obtain ⟨rfl, hlen⟩ := (countedIds_eq_some_iff _ _ _).mp hk
      obtain ⟨hle, rfl⟩ := (eq_toNat_iff _ _).mp hlen
      exact ⟨hle, rfl⟩
    · exact fun h => absurd h (Option.some_ne_none _).symm
  · rintro ⟨hle, rfl⟩
    have hids := (countedIds_eq_some_iff (BitVec.ofNat 8 l.length) _ l).mpr ⟨rfl, (eq_toNat_iff _ _).mpr ⟨hle, rfl⟩⟩
    exact congrArg (Option.map fun l => (i, l)) hids

theorem onOf_eq_some_iff {b : Byte} {o : Bool} : onOf b = some o ↔ b = if o then 1 else 0 := by
  unfold onOf
  split
  next h1 => subst h1; cases o <;> decide
  · split
    next h0 => subst h0; cases o <;> decide
    next h1 h0 =>
      cases o with
      | true => exact ⟨fun h => absurd h (Option.some_ne_none _).symm, fun h => absurd h h1⟩
      | false => exact ⟨fun h => absurd h (Option.some_ne_none _).symm, fun h => absurd h h0⟩

theorem liftOf_eq_some_iff {b : Byte} {x : Lift} : liftOf b = some x ↔ b = x.station := by
  unfold liftOf
  split
  next h1 => subst h1; cases x <;> decide
  · split
    next h2 => subst h2; cases x <;> decide
    next h1 h2 =>
      cases x with
      | a => exact ⟨fun h => absurd h (Option.some_ne_none _).symm, fun h => absurd h h1⟩
      | b => exact ⟨fun h => absurd h (Option.some_ne_none _).symm, fun h => absurd h h2⟩

/-- A function code and arguments that Table 10-2 gives a request (R184). -/
def Spells (c : Byte) (a : List Byte) : Req → Prop
  | .unknown k => k = c
  | .badForm k => k = c
  | .slotMap m => c = 0x01 ∧ m.length = 40 ∧ a = 1 :: m
  | .routeRow i w => c = 0x01
    ∧ a = [2, i, w.routed, w.primary, w.alternate, w.window, w.stray, w.confirm, w.dflt, w.lowMark]
  | .timing t => c = 0x01 ∧ a = 3 :: timingBytes t
  | .disposition k d => c = 0x01 ∧ a = [4, k, d]
  | .priority l => c = 0x01 ∧ l.length ≤ 255 ∧ a = [5, BitVec.ofNat 8 l.length] ++ l
  | .address g v m => c = 0x01 ∧ a = [6, g, v, m]
  | .enables e => c = 0x01 ∧ a = [7, e]
  | .resumeDefault r => c = 0x01 ∧ a = [8, r]
  | .tableRead t i => c = 0x02 ∧ ((t ≠ 2 ∧ i = 0 ∧ a = [t]) ∨ (t = 2 ∧ a = [t, i]))
  | .modeSet m r => c = 0x10 ∧ a = [m, r]
  | .append i l => c = 0x20 ∧ l.length ≤ 255 ∧ a = [i, BitVec.ofNat 8 l.length] ++ l.flatMap be32
  | .cut i l => c = 0x21 ∧ l.length ≤ 255 ∧ a = [i, BitVec.ofNat 8 l.length] ++ l.flatMap be32
  | .unbar i id => c = 0x22 ∧ a = i :: be32 id
  | .confirm k id => c = 0x23 ∧ a = k :: be32 id
  | .deny k id => c = 0x24 ∧ a = k :: be32 id
  | .slotSet l k t r => c = 0x30 ∧ a = [l, k, t] ++ toteBytes r
  | .levelService l o => c = 0x31 ∧ a = [l, if o then 1 else 0]
  | .liftService x o => c = 0x32 ∧ a = [x.station, if o then 1 else 0]
  | .clearFault k => c = 0x40 ∧ a = [k]
  | .clearLead => c = 0x41 ∧ a = []
  | .clearParty k => c = 0x42 ∧ a = [k]
  | .clearNotice k => c = 0x43 ∧ a = [k]
  | .slotRead l k => c = 0x50 ∧ a = [l, k]
  | .levelRange l k => c = 0x51 ∧ a = [l, k]
  | .streamRead i k => c = 0x52 ∧ a = [i, k]
  | .carriageRead x => c = 0x53 ∧ a = [x.station]
  | .callRead x k => c = 0x54 ∧ a = [x.station, k]
  | .transferRead k => c = 0x55 ∧ a = [k]
  | .faultRead k => c = 0x56 ∧ a = [k]
  | .presenceRead l k => c = 0x57 ∧ a = [l, k]
  | .statsRead k => c = 0x58 ∧ a = [k]
  | .statsClear k => c = 0x59 ∧ a = [k]
  | .timeRead => c = 0x5A ∧ a = []
  | .summary => c = 0x5B ∧ a = []

/-- A request that its bytes spell has their function code. -/
theorem Spells.code {c : Byte} {a : List Byte} {q : Req} (h : Spells c a q) : q.code = c := by
  cases q with
  | unknown | badForm => exact h
  | _ => exact h.1.symm

theorem spells_of_tableWrite {a : List Byte} {q : Req} (h : tableWriteOf a = some q) : Spells 1 a q := by
  unfold tableWriteOf at h
  split at h
  · contradiction
  next t c =>
    have ht {n : Nat} (hn : t.toNat = n) : t = BitVec.ofNat 8 n := by rw [← hn, BitVec.ofNat_toNat, BitVec.setWidth_eq]
    split at h
    case h_1 hn =>
      split at h
      next hlen => cases h; rw [ht hn]; exact ⟨rfl, hlen, rfl⟩
      · contradiction
    case h_2 hn =>
      split at h
      · cases h; rw [ht hn]; exact ⟨rfl, rfl⟩
      · contradiction
    case h_3 hn =>
      obtain ⟨k, hk, rfl⟩ := Option.map_eq_some_iff.mp h
      rw [ht hn, eq_timingBytes hk]
      exact ⟨rfl, rfl⟩
    case h_4 hn =>
      split at h
      · cases h; rw [ht hn]; exact ⟨rfl, rfl⟩
      · contradiction
    case h_5 hn =>
      split at h
      next n l =>
        split at h
        next hlen =>
          cases h
          obtain ⟨hle, hcount⟩ := (eq_toNat_iff _ _).mp hlen
          rw [ht hn, hcount]
          exact ⟨rfl, hle, rfl⟩
        · contradiction
      · contradiction
    case h_6 hn =>
      split at h
      · cases h; rw [ht hn]; exact ⟨rfl, rfl⟩
      · contradiction
    case h_7 hn =>
      split at h
      · cases h; rw [ht hn]; exact ⟨rfl, rfl⟩
      · contradiction
    case h_8 hn =>
      split at h
      · cases h; rw [ht hn]; exact ⟨rfl, rfl⟩
      · contradiction
    case h_9 => contradiction

theorem spells_of_tableRead {a : List Byte} {q : Req} (h : tableReadOf a = some q) : Spells 2 a q := by
  unfold tableReadOf at h
  split at h
  · split at h
    · contradiction
    next ht => cases h; exact ⟨rfl, .inl ⟨ht, rfl, rfl⟩⟩
  · split at h
    next ht => cases h; exact ⟨rfl, .inr ⟨ht, rfl⟩⟩
    · contradiction
  · contradiction

/-- The requests of one byte of arguments. -/
theorem spells_of_oneByte {c : Byte} {a : List Byte} {q : Req} {f : Byte → Req} (h : oneByte f a = some q)
    (hf : ∀ b, Spells c [b] (f b)) : Spells c a q := by
  obtain ⟨b, rfl, rfl⟩ := oneByte_eq_some_iff.mp h
  exact hf b

/-- The requests of two bytes of arguments. -/
theorem spells_of_twoBytes {c : Byte} {a : List Byte} {q : Req} {f : Byte → Byte → Req} (h : twoBytes f a = some q)
    (hf : ∀ b d, Spells c [b, d] (f b d)) : Spells c a q := by
  obtain ⟨b, d, rfl, rfl⟩ := twoBytes_eq_some_iff.mp h
  exact hf b d

/-- The requests of a stream and tote IDs. -/
theorem spells_of_streamIds {c : Byte} {a : List Byte} {q : Req} {f : Byte → List ToteId → Req}
    (hf : ∀ i l, l.length ≤ 255 → Spells c ([i, BitVec.ofNat 8 l.length] ++ l.flatMap be32) (f i l))
    (h : (streamIdsOf a).map (fun x => f x.1 x.2) = some q) : Spells c a q := by
  obtain ⟨⟨i, l⟩, hil, rfl⟩ := Option.map_eq_some_iff.mp h
  obtain ⟨hle, rfl⟩ := streamIdsOf_eq_some_iff.mp hil
  exact hf i l hle

/-- The requests of a byte and a tote ID. -/
theorem spells_of_byteId {c : Byte} {a : List Byte} {q : Req} {f : Byte → ToteId → Req}
    (hf : ∀ b id, Spells c (b :: be32 id) (f b id)) (h : (byteIdOf a).map (fun x => f x.1 x.2) = some q) : Spells c a q := by
  obtain ⟨⟨b, id⟩, hb, rfl⟩ := Option.map_eq_some_iff.mp h
  obtain rfl := byteIdOf_eq_some_iff.mp hb
  exact hf b id

/-- The requests without arguments. -/
theorem spells_of_nothing {c : Byte} {a : List Byte} {q r : Req}
    (h : (if a.isEmpty then some r else none) = some q) (hr : Spells c [] r) : Spells c a q := by
  split at h
  next ha => cases h; rw [List.isEmpty_iff.mp ha]; exact hr
  · contradiction

/-- A request that is read from a function code and arguments is one they spell (R184). -/
theorem spells_of_arguments {c : Byte} {a : List Byte} {q : Req} (h : argumentsOf c a = some (some q)) : Spells c a q := by
  have hc {n : Nat} (hn : c.toNat = n) : c = BitVec.ofNat 8 n := by rw [← hn, BitVec.ofNat_toNat, BitVec.setWidth_eq]
  unfold argumentsOf at h
  split at h
  all_goals first | replace h := Option.some.inj h | contradiction
  case h_1 hn => rw [hc hn]; exact spells_of_tableWrite h
  case h_2 hn => rw [hc hn]; exact spells_of_tableRead h
  case h_3 hn => rw [hc hn]; exact spells_of_twoBytes h fun _ _ => ⟨rfl, rfl⟩
  case h_4 hn => rw [hc hn]; exact spells_of_streamIds (f := .append) (fun _ _ hl => ⟨rfl, hl, rfl⟩) h
  case h_5 hn => rw [hc hn]; exact spells_of_streamIds (f := .cut) (fun _ _ hl => ⟨rfl, hl, rfl⟩) h
  case h_6 hn => rw [hc hn]; exact spells_of_byteId (f := .unbar) (fun _ _ => ⟨rfl, rfl⟩) h
  case h_7 hn => rw [hc hn]; exact spells_of_byteId (f := .confirm) (fun _ _ => ⟨rfl, rfl⟩) h
  case h_8 hn => rw [hc hn]; exact spells_of_byteId (f := .deny) (fun _ _ => ⟨rfl, rfl⟩) h
  case h_9 hn =>
    rw [hc hn]
    split at h
    · cases h
      exact ⟨rfl, by rw [toteBytes, be32_join32]; rfl⟩
    · contradiction
  case h_10 hn =>
    rw [hc hn]
    split at h
    next l o =>
      obtain ⟨on, ho, rfl⟩ := Option.map_eq_some_iff.mp h
      rw [onOf_eq_some_iff.mp ho]
      exact ⟨rfl, rfl⟩
    · contradiction
  case h_11 hn =>
    rw [hc hn]
    split at h
    next l o =>
      split at h
      next x on hx ho =>
        cases h
        rw [liftOf_eq_some_iff.mp hx, onOf_eq_some_iff.mp ho]
        exact ⟨rfl, rfl⟩
      · contradiction
    · contradiction
  case h_12 hn => rw [hc hn]; exact spells_of_oneByte h fun _ => ⟨rfl, rfl⟩
  case h_13 hn => rw [hc hn]; exact spells_of_nothing h ⟨rfl, rfl⟩
  case h_14 hn => rw [hc hn]; exact spells_of_oneByte h fun _ => ⟨rfl, rfl⟩
  case h_15 hn => rw [hc hn]; exact spells_of_oneByte h fun _ => ⟨rfl, rfl⟩
  case h_16 hn => rw [hc hn]; exact spells_of_twoBytes h fun _ _ => ⟨rfl, rfl⟩
  case h_17 hn => rw [hc hn]; exact spells_of_twoBytes h fun _ _ => ⟨rfl, rfl⟩
  case h_18 hn => rw [hc hn]; exact spells_of_twoBytes h fun _ _ => ⟨rfl, rfl⟩
  case h_19 hn =>
    rw [hc hn]
    split at h
    · obtain ⟨x, hx, rfl⟩ := Option.map_eq_some_iff.mp h
      rw [liftOf_eq_some_iff.mp hx]
      exact ⟨rfl, rfl⟩
    · contradiction
  case h_20 hn =>
    rw [hc hn]
    split at h
    · obtain ⟨x, hx, rfl⟩ := Option.map_eq_some_iff.mp h
      rw [liftOf_eq_some_iff.mp hx]
      exact ⟨rfl, rfl⟩
    · contradiction
  case h_21 hn => rw [hc hn]; exact spells_of_oneByte h fun _ => ⟨rfl, rfl⟩
  case h_22 hn => rw [hc hn]; exact spells_of_oneByte h fun _ => ⟨rfl, rfl⟩
  case h_23 hn => rw [hc hn]; exact spells_of_twoBytes h fun _ _ => ⟨rfl, rfl⟩
  case h_24 hn => rw [hc hn]; exact spells_of_oneByte h fun _ => ⟨rfl, rfl⟩
  case h_25 hn => rw [hc hn]; exact spells_of_oneByte h fun _ => ⟨rfl, rfl⟩
  case h_26 hn => rw [hc hn]; exact spells_of_nothing h ⟨rfl, rfl⟩
  case h_27 hn => rw [hc hn]; exact spells_of_nothing h ⟨rfl, rfl⟩

theorem spells_requestOf (c : Byte) (a : List Byte) : Spells c a (requestOf c a) := by
  unfold requestOf
  split
  · rfl
  · rfl
  next q h => exact spells_of_arguments h

/-! ### The requests that bytes spell -/

section
variable {c : Byte} {a : List Byte}

theorem requestOf_of_some {q : Req} (h : argumentsOf c a = some (some q)) : requestOf c a = q := by
  unfold requestOf
  rw [h]

theorem requestOf_of_map {α : Type} {o : Option α} {f : α → Req} {x : α} {q : Req} (ho : o = some x)
    (h : argumentsOf c a = some (o.map f)) (hq : f x = q) : requestOf c a = q := by
  rw [ho] at h
  exact hq ▸ requestOf_of_some h

theorem requestOf_of_none (h : argumentsOf c a = none) : requestOf c a = .unknown c := by
  unfold requestOf
  rw [h]

theorem requestOf_of_misfit (h : argumentsOf c a = some none) : requestOf c a = .badForm c := by
  unfold requestOf
  rw [h]

end

theorem requestOf_slotMap {m : List Byte} (h : m.length = 40) : requestOf 0x01 (1 :: m) = .slotMap m :=
  requestOf_of_some (congrArg some (if_pos h))

theorem requestOf_slotMap_misfit {m : List Byte} (h : m.length ≠ 40) : requestOf 0x01 (1 :: m) = .badForm 0x01 :=
  requestOf_of_misfit (congrArg some (if_neg h))

theorem requestOf_timing (t : Timing) : requestOf 0x01 (3 :: timingBytes t) = .timing t :=
  requestOf_of_map (timingOf_timingBytes t) rfl rfl

theorem requestOf_priority {n : Byte} {l : List Byte} (h : l.length = n.toNat) :
    requestOf 0x01 (5 :: n :: l) = .priority l := requestOf_of_some (congrArg some (if_pos h))

theorem requestOf_tableRead {t : Byte} (h : t ≠ 2) : requestOf 0x02 [t] = .tableRead t 0 :=
  requestOf_of_some (congrArg some (if_neg h))

theorem streamIdsOf_spelled (i n : Byte) {l : List ToteId} (h : l.length = n.toNat) :
    streamIdsOf (i :: n :: l.flatMap be32) = some (i, l) := by
  obtain ⟨hle, rfl⟩ := (eq_toNat_iff _ _).mp h
  exact streamIdsOf_eq_some_iff.mpr ⟨hle, rfl⟩

theorem requestOf_append (i n : Byte) {l : List ToteId} (h : l.length = n.toNat) :
    requestOf 0x20 (i :: n :: l.flatMap be32) = .append i l :=
  requestOf_of_map (streamIdsOf_spelled i n h) rfl rfl

theorem requestOf_cut (i n : Byte) {l : List ToteId} (h : l.length = n.toNat) :
    requestOf 0x21 (i :: n :: l.flatMap be32) = .cut i l :=
  requestOf_of_map (streamIdsOf_spelled i n h) rfl rfl

theorem requestOf_unbar (b : Byte) (id : ToteId) : requestOf 0x22 (b :: be32 id) = .unbar b id :=
  requestOf_of_map (x := (b, id)) (byteIdOf_eq_some_iff.mpr rfl) rfl rfl

theorem requestOf_confirm (b : Byte) (id : ToteId) : requestOf 0x23 (b :: be32 id) = .confirm b id :=
  requestOf_of_map (x := (b, id)) (byteIdOf_eq_some_iff.mpr rfl) rfl rfl

theorem requestOf_deny (b : Byte) (id : ToteId) : requestOf 0x24 (b :: be32 id) = .deny b id :=
  requestOf_of_map (x := (b, id)) (byteIdOf_eq_some_iff.mpr rfl) rfl rfl

theorem requestOf_slotSet (l c t : Byte) (r : ToteRec) :
    requestOf 0x30 ([l, c, t] ++ toteBytes r) = .slotSet l c t r :=
  requestOf_of_some (congrArg (fun w => some (some (Req.slotSet l c t ⟨w, r.stream, r.dest⟩))) (join32_be32 r.id))

theorem requestOf_liftService (x : Lift) (o : Bool) : requestOf 0x32 [x.station, if o then 1 else 0] = .liftService x o := by
  cases x <;> cases o <;> rfl

theorem requestOf_carriageRead (x : Lift) : requestOf 0x53 [x.station] = .carriageRead x := by cases x <;> rfl

theorem requestOf_callRead (x : Lift) (p : Byte) : requestOf 0x54 [x.station, p] = .callRead x p := by cases x <;> rfl

/-! ### A command is the REQUEST of its bytes (log 5) -/

/-- A REQUEST of up to 48 bytes reaches the store line as what its bytes spell. -/
theorem exec_request_cons {a : List Byte} (hlen : a.length < 48) (s : State) (h : StoreHdr) (c : Byte) :
    exec (.request h (c :: a)) s = done (s.onRequest h true (requestOf c a)) := by
  refine congrArg done ?_
  unfold State.onStoreLine State.onRequest
  split
  · rw [if_pos (show (c :: a).length ≤ 48 from hlen), if_pos rfl]
    show s.storeHunt.judgeStore ⟨h.aisle, 0, h.srcAisle, h.srcStation, kRequest, h.tag, c :: a⟩ = _
    unfold State.judgeStore
    show (match s.store.aisleMatch h.aisle with
      | .nothing => s.storeHunt
      | .unique => s.storeHunt.judgeUnique _
      | .group => s.storeHunt.judgeShared .group _
      | .masked => s.storeHunt.judgeShared .masked _) = _
    have taken (m : AisleMatch) : s.storeHunt.takeRequestBody m h.tag (c :: a) = s.storeHunt.takeRequest m h.tag (requestOf c a) :=
      if_pos hlen
    cases s.store.aisleMatch h.aisle with
    | nothing => rfl
    | unique => exact taken .unique
    | group => exact taken .group
    | masked => exact taken .masked
  · rfl

/-- A command whose request these bytes spell is the REQUEST of these bytes. -/
theorem requested_eq_request {c : Byte} {a : List Byte} {q : Req} (hq : requestOf c a = q) (hlen : a.length < 48) (h : StoreHdr)
    (s : State) : requested h q s = exec (.request h (c :: a)) s := by
  rw [exec_request_cons hlen, hq]
  rfl

/-- The same for a command of a list, which fits in a body. -/
theorem onRequest_eq_request {c : Byte} {a : List Byte} {q : Req} (hq : requestOf c a = q) {n : Nat} (hn : n = a.length + 1)
    (hlen : a.length < 48) (h : StoreHdr) (s : State) :
    done (s.onRequest h (bodyFits n) q) = exec (.request h (c :: a)) s := by
  rw [show bodyFits n = true from decide_eq_true (by omega)]
  exact requested_eq_request hq hlen h s

theorem length_flatMap_be32 (l : List ToteId) : (l.flatMap be32).length = 4 * l.length := by
  induction l with
  | nil => rfl
  | cons id l ih =>
    rw [List.flatMap_cons, List.length_append, ih, List.length_cons]
    show 4 + _ = _
    omega

/-- The commands of tables (Table 10-3). -/
theorem tableCommands_are_requests (s : State) (h : StoreHdr) :
    let asked (body : List Byte) := exec (.request h body) s
    (∀ m : List Byte, m.length ≤ 46 → exec (.slotMapWrite h m) s = asked ([1, 1] ++ m))
    ∧ ∀ l : List Byte, l.length ≤ 45 → exec (.priorityListWrite h l) s = asked ([1, 5, BitVec.ofNat 8 l.length] ++ l) := by
  refine ⟨fun m hm => ?_, fun l hl => ?_⟩
  · refine onRequest_eq_request (a := 1 :: m) ?_ (by rw [List.length_cons]; omega) (by rw [List.length_cons]; omega) h s
    split
    next h40 => exact requestOf_slotMap h40
    next h40 => exact requestOf_slotMap_misfit h40
  · refine onRequest_eq_request (a := 5 :: BitVec.ofNat 8 l.length :: l) ?_ (by simp only [List.length_cons]; omega)
      (by simp only [List.length_cons]; omega) h s
    exact requestOf_priority ((eq_toNat_iff _ _).mpr ⟨by omega, rfl⟩)

/-- The commands of lists of totes (Table 10-2). -/
theorem streamCommands_are_requests (s : State) (h : StoreHdr) (i : Byte) {l : List ToteId} (hl : l.length ≤ 11) :
    let asked (body : List Byte) := exec (.request h body) s
    exec (.streamAppend h i l) s = asked ([0x20, i, BitVec.ofNat 8 l.length] ++ l.flatMap be32)
    ∧ exec (.streamCut h i l) s = asked ([0x21, i, BitVec.ofNat 8 l.length] ++ l.flatMap be32) := by
  have hcount : l.length = (BitVec.ofNat 8 l.length).toNat := (eq_toNat_iff _ _).mpr ⟨by omega, rfl⟩
  have hlen : (i :: BitVec.ofNat 8 l.length :: l.flatMap be32).length = 2 + 4 * l.length := by
    simp only [List.length_cons, length_flatMap_be32]
    omega
  exact ⟨onRequest_eq_request (requestOf_append i _ hcount) (by omega) (by omega) h s,
    onRequest_eq_request (requestOf_cut i _ hcount) (by omega) (by omega) h s⟩

/-- Settles O18: the bytes that spell each request, and each management command as the REQUEST of its bytes. -/
theorem requestBytes : Obligations.RequestBytes := by
  unfold Obligations.RequestBytes
  refine ⟨fun m => requestOf_slotMap, fun i ro pr al w st co df lo => rfl, requestOf_timing, fun k d => rfl,
    fun n l => requestOf_priority, fun g v m => rfl, fun e => rfl, fun r => rfl, fun t => requestOf_tableRead, fun i => rfl,
    fun m r => rfl, fun i n l hl => ⟨requestOf_append i n hl, requestOf_cut i n hl⟩,
    fun b id => ⟨requestOf_unbar b id, requestOf_confirm b id, requestOf_deny b id⟩, requestOf_slotSet,
    fun l => ⟨rfl, rfl⟩, fun x => ⟨requestOf_liftService x true, requestOf_liftService x false⟩, fun c => rfl, rfl,
    fun p => rfl, fun f => rfl, fun a b => ⟨rfl, rfl, rfl, rfl⟩, fun x p => ⟨requestOf_carriageRead x, requestOf_callRead x p⟩,
    fun a => ⟨rfl, rfl, rfl, rfl⟩, rfl, rfl, fun w => rfl, fun w => rfl, fun r => rfl, fun t => rfl, fun c a => ?spelled,
    fun s h => ?commands⟩
  case spelled =>
    have h := spells_requestOf c a
    generalize requestOf c a = q at h ⊢
    cases q <;> exact h
  case commands =>
    have fixed {c : Byte} {a : List Byte} {q : Req} (hq : requestOf c a = q) (hlen : a.length < 48 := by simp) :
        requested h q s = exec (.request h (c :: a)) s := requested_eq_request hq hlen h s
    have modeSet (m r : Byte) : requested h (.modeSet m r) s = exec (.request h [0x10, m, r]) s := fixed rfl
    refine ⟨(tableCommands_are_requests s h).1, fun i ro pr al w st co df lo => fixed rfl,
      fun t => fixed (requestOf_timing t) (show 22 < 48 by decide), fun k d => fixed rfl, (tableCommands_are_requests s h).2,
      fun g v m => fixed rfl, fun b => ⟨fixed rfl, fixed rfl⟩, fun t i ht => ⟨fixed (requestOf_tableRead ht), fixed rfl⟩,
      fun r => ⟨modeSet 1 r, modeSet 1 r, modeSet 0 r, modeSet 0 r, modeSet 2 r, modeSet 3 r⟩, modeSet 1 1, modeSet 1 2,
      fun i l hl => streamCommands_are_requests s h i hl,
      fun b id => ⟨fixed (requestOf_unbar b id) (show 5 < 48 by decide), fixed (requestOf_confirm b id) (show 5 < 48 by decide),
        fixed (requestOf_deny b id) (show 5 < 48 by decide)⟩,
      fun l c t r => fixed (requestOf_slotSet l c t r) (show 9 < 48 by decide), fun l => ⟨fixed rfl, fixed rfl⟩,
      fun x => ⟨fixed (requestOf_liftService x true), fixed (requestOf_liftService x false)⟩,
      fun b => ⟨fixed rfl, fixed rfl, fixed rfl⟩, fixed rfl, fun a b => ⟨fixed rfl, fixed rfl, fixed rfl, fixed rfl⟩,
      fun x p => ⟨fixed (requestOf_carriageRead x), fixed (requestOf_callRead x p)⟩,
      fun a => ⟨fixed rfl, fixed rfl, fixed rfl, fixed rfl⟩, fixed rfl, fixed rfl⟩

end Sys2Proof.Machine

/-! ## Requests are taken (O17) -/

namespace Sys2Proof.Machine

/-- The function codes of Table 10-1. -/
theorem argumentsOf_eq_none_iff (c : Byte) (args : List Byte) :
    argumentsOf c args = none ↔ c ∉ [0x01, 0x02, 0x10, 0x20, 0x21, 0x22, 0x23, 0x24, 0x30, 0x31, 0x32, 0x40, 0x41, 0x42,
      0x43, 0x50, 0x51, 0x52, 0x53, 0x54, 0x55, 0x56, 0x57, 0x58, 0x59, 0x5A, 0x5B] := by
  have hc {n : Nat} (hn : c.toNat = n) : c = BitVec.ofNat 8 n := by rw [← hn, BitVec.ofNat_toNat, BitVec.setWidth_eq]
  unfold argumentsOf
  split
  case h_28 => 
    refine ⟨fun _ hmem => ?_, fun _ => rfl⟩
    simp only [List.mem_cons, List.not_mem_nil, or_false] at hmem
    rcases hmem with rfl | rfl | rfl | rfl | rfl | rfl | rfl | rfl | rfl | rfl | rfl | rfl | rfl | rfl | rfl | rfl | rfl | rfl
      | rfl | rfl | rfl | rfl | rfl | rfl | rfl | rfl | rfl <;> contradiction
  all_goals
    next hn =>
      refine ⟨fun h => absurd h (Option.some_ne_none _), fun h => absurd ?_ h⟩
      rw [hc hn]
      decide

/-- A request that is taken, in the state in which it is executed (R133). -/
theorem exec_request_of_takes {s : State} {h : StoreHdr} {answer : Bool} {c : Byte} {args : List Byte} (ht : Takes s h answer)
    (hlen : args.length < 48) :
    let q := requestOf c args
    let x := s.storeHunt.executing h.tag answer q
    let p := x.execReq q
    exec (.request h (c :: args)) s = .next (p.1.finish.executed h.tag answer q.code p.2.1 (p.1.finish.answerData q p.2.2)) :=
  (exec_request_cons hlen s h c).trans (requested_of_takes s h answer _ ht)

/-- Where a request is put that a listening receiver hears (R124, R133). -/
theorem exec_request_of_matches {s : State} {h : StoreHdr} {answer : Bool} {c : Byte} {args : List Byte} (hl : Listens s)
    (hm : s.store.Matches h.aisle answer) (hlen : args.length < 48) :
    exec (.request h (c :: args)) s = done (s.storeHunt.enqueue ⟨answer, h.tag, requestOf c args⟩) := by
  rw [exec_request_cons hlen, State.onRequest, if_pos hl.rx, if_pos rfl]
  cases answer with
  | true => rw [aisleMatch_unique _ _ hm]; rfl
  | false => rcases aisleMatch_shared _ _ hm with hs | hs <;> rw [hs] <;> rfl

/-- Settles O17: what becomes of a request, and which codes and data an ANSWER carries. -/
theorem requestsAreTaken : Obligations.RequestsAreTaken := by
  unfold Obligations.RequestsAreTaken
  refine ⟨fun s h answer c args ht hlen => ?taken, fun s h answer c args hl hm hlen => ⟨fun hfew hfull hhead => ?waits, fun hmany => ?lost⟩,
    fun s data => ⟨fun m r => rfl, fun q hq => ?data⟩,
    fun c args => ⟨argumentsOf_eq_none_iff c args, requestOf_of_none, requestOf_of_misfit,
      fun q hq => ⟨requestOf_of_some hq, (spells_of_arguments hq).code⟩⟩⟩
  case taken =>
    intro q x p
    have hexec := exec_request_of_takes (c := c) ht hlen
    have unchanged {r : Req} {a : Answer} (hr : requestOf c args = r)
        (hx : (s.storeHunt.executing h.tag answer r).execReq r = (s.storeHunt.executing h.tag answer r, a))
        (hdata : ∀ (t : State) d, t.answerData r d = d) :
        exec (.request h (c :: args)) s = .next (x.executed h.tag answer r.code a.1 a.2) := by
      rw [exec_request_cons hlen]
      subst hr
      exact requested_of_unchanged ht hx hdata
    exact ⟨hexec, fun hnone => unchanged (requestOf_of_none hnone) rfl fun _ _ => rfl,
      fun hmisfit => unchanged (requestOf_of_misfit hmisfit) rfl fun _ _ => rfl⟩
  case waits =>
    obtain ⟨q, rest, hq, hans⟩ : ∃ q rest, s.requests ++ [⟨answer, h.tag, requestOf c args⟩] = q :: rest ∧ q.answer = true := by
      cases hr : s.requests with
      | nil => exact ⟨_, _, rfl, Option.some.inj (by simpa [hr] using hhead)⟩
      | cons q rest => exact ⟨q, _, rfl, Option.some.inj (by simpa [hr] using hhead)⟩
    let t : State := { s.storeHunt with requests := s.requests ++ [⟨answer, h.tag, requestOf c args⟩] }
    have hrests : t.Rests := hl.rests
    have hkeeps : t.serveRequests 4 = t :=
      State.serveRequests_of_full hq hans (by rw [State.Rests.upstreamUsed hrests]; exact hfull) 4
    rw [exec_request_of_matches hl hm hlen, State.enqueue, if_pos (show s.storeHunt.requests.length < Config.requestPlaces from hfew)]
    exact (congrArg done hkeeps).trans (done_of_rests hrests)
  case lost =>
    rw [exec_request_of_matches hl hm hlen, State.enqueue, if_neg (show ¬ s.storeHunt.requests.length < Config.requestPlaces from not_lt.mpr hmany)]
    rfl
  case data =>
    unfold State.answerData
    split
    · exact absurd rfl (hq _ _)
    · rfl

end Sys2Proof.Machine

/-! ## Idle telegrams, reports and answers (O19) -/

namespace Sys2Proof.Machine

theorem upstreamUsed_heard {s : State} {p : Party} (h : s.Rests) : (s.heard p).upstreamUsed = s.store.upstream.length := by
  have hr : s.work.reserved = false := congrArg Work.reserved h
  cases p <;> exact (congrArg (fun b : Bool => s.store.upstream.length + (if b then 1 else 0)) hr)

theorem store_heard (s : State) (p : Party) : (s.heard p).store = s.store := by cases p <;> rfl

/-- An IDLE, and a report upward (R121, R129, R137). -/
theorem exec_idle_of_hears {s : State} {p : Party} (tag : Byte) (hh : Hears s p) :
    exec (.idle p tag) s = .next (s.heard p).finish :=
  congrArg done (telegram_of_hears s p tag 0 .idle hh (Nat.zero_le 48))

/-- A sound telegram of a party that the port takes is judged (R120, R125). -/
theorem onPort_of_hears {s : State} {p : Party} (hh : Hears s p) (f : Frame) : s.onPort p f = (s.heard p).judgeMachine p f := by
  cases p with
  | lift x => exact if_pos hh.port
  | shuttle n =>
    obtain ⟨hb, hr⟩ : s.bus.turn = .awaiting n ∧ s.bus.rx = .ready := hh.port
    unfold State.onPort
    simp only [hb, hr, if_true]
    rw [goodAnswer_endTurn]

/-- The place of an unsent HOLD about an entry (R39; log 46). -/
def HoldsAbout (about : Option Handle) (i : BoxItem) : Prop :=
  i.begun = false ∧ ∃ (h : Handle) (why : Reason), about = some h ∧ i.tel.body = .hold (BitVec.ofNat 8 h.val) why

theorem holdsHold_iff (i : BoxItem) (h : Handle) : i.holdsHold h = true ↔ HoldsAbout (some h) i := by
  unfold BoxItem.holdsHold HoldsAbout
  rw [Bool.and_eq_true, Bool.not_eq_true']
  refine and_congr_right fun _ => ?_
  constructor
  · intro hb
    split at hb
    next h' r heq => exact ⟨h, r, rfl, by rw [heq, of_decide_eq_true hb]; rfl⟩
    · contradiction
  · rintro ⟨k, r, hk, hbody⟩
    cases hk
    rw [hbody]
    exact decide_eq_true rfl

theorem not_holdsAbout_none (i : BoxItem) : ¬ HoldsAbout none i := fun ⟨_, _, _, h, _⟩ => Option.some_ne_none _ h.symm

theorem replaceFirst_append {α : Type} {f : α → Bool} {before : List α} (hb : ∀ j ∈ before, f j = false) {i : α} (hi : f i = true)
    (v : α) (after : List α) : replaceFirst f v (before ++ i :: after) = before ++ v :: after := by
  induction before with
  | nil => exact if_pos hi
  | cons j js ih =>
    rw [List.cons_append, replaceFirst, if_neg (by rw [hb j (List.mem_cons_self ..)]; exact Bool.false_ne_true),
      ih fun k hk => hb k (List.mem_cons_of_mem _ hk)]
    rfl

section
variable {box : List BoxItem} {about : Option Handle} (t : Tel)

theorem putBox_of_hold {before after : List BoxItem} {i : BoxItem} (hi : HoldsAbout about i)
    (hb : ∀ j ∈ before, ¬ HoldsAbout about j) : putBox (before ++ i :: after) t about = before ++ ⟨t, false⟩ :: after := by
  cases about with
  | none => exact absurd hi (not_holdsAbout_none i)
  | some h =>
    have hhold : i.holdsHold h = true := (holdsHold_iff i h).mpr hi
    unfold putBox
    dsimp only
    rw [if_pos (List.any_eq_true.mpr ⟨i, by simp, hhold⟩)]
    exact replaceFirst_append (fun j hj => Bool.eq_false_iff.mpr fun hj' => hb j hj ((holdsHold_iff j h).mp hj')) hhold _ _

theorem putBox_of_no_hold (hb : ∀ i ∈ box, ¬ HoldsAbout about i) :
    putBox box t about = if box.length < 2 then box ++ [⟨t, false⟩] else box.drop 1 ++ [⟨t, false⟩] := by
  cases about with
  | none => rfl
  | some h =>
    unfold putBox
    dsimp only
    refine if_neg fun hany => ?_
    obtain ⟨i, hi, hhold⟩ := List.any_eq_true.mp hany
    exact hb i hi ((holdsHold_iff i h).mp hhold)

end

/-- An answer to a shuttle that is polled is put in the box of its level (R39, R143). -/
theorem sendShuttle_of_polled {s : State} {n : Level}
    (hp : (s.shuttle n).presence = .returning ∨ (s.shuttle n).presence = .online ∨ (s.shuttle n).presence = .absent) (t : Tel)
    (about : Option Handle) :
    s.sendShuttle n t about = s.setShuttle n { s.shuttle n with box := putBox (s.shuttle n).box t about } := by
  unfold State.sendShuttle
  rcases hp with hp | hp | hp <;> simp only [hp]

/-- An answer to a shuttle in SERVICE or UNMAPPED is discarded (R143). -/
theorem sendShuttle_of_unpolled {s : State} {n : Level}
    (hp : (s.shuttle n).presence = .service ∨ (s.shuttle n).presence = .unmapped) (t : Tel) (about : Option Handle) :
    s.sendShuttle n t about = s := by
  unfold State.sendShuttle
  rcases hp with hp | hp <;> simp only [hp]

theorem station_lift (x : Lift) : (Party.lift x).station = x.station := by cases x <;> rfl

/-- A report upward (R121, R129). -/
theorem exec_machineReport_of_hears {s : State} {p : Party} (tag : Byte) {kind : Byte} {body : List Byte} (hh : Hears s p)
    (hk : 0x60 ≤ kind.toNat) (hb : body.length ≤ 48) :
    exec (.machineReport p tag kind body) s
      = done ((s.heard p).forwardReport p ⟨0, 0, s.store.unique, p.station, kind, tag, .raw body⟩) := by
  let f : Frame := ⟨0, 0, s.store.unique, p.station, kind, tag, body⟩
  have hunique : (s.heard p).store.unique = s.store.unique := congrArg StoreLine.unique (store_heard s p)
  have hreport : isReport kind = true := (isReport_iff kind).mpr hk
  have hsrc : (s.heard p).machineSrc p f = true := by
    unfold State.machineSrc
    rw [hunique]
    cases p with
    | shuttle n => simp [f]
    | lift x => simp [f, station_lift]
  have hdst : (s.heard p).machineDst f = true := by simp [State.machineDst, f]
  have hjudge : (s.heard p).judgeMachine p f = (s.heard p).forwardReport p f.tel := by
    unfold State.judgeMachine
    rw [if_neg (by simp [f, knownKind_of_report hk]), if_neg (by simp [hsrc, hdst]), if_pos ⟨rfl, hreport⟩]
  show done (if bodyFits body.length then s.onPort p f else s.overlong p) = _
  rw [if_pos (show bodyFits body.length = true from decide_eq_true hb), onPort_of_hears hh, hjudge]
  rfl

/-- Settles O19: an IDLE and a report upward, and where an answer goes. -/
theorem idleReportsAndAnswers : Obligations.IdleReportsAndAnswers := by
  unfold Obligations.IdleReportsAndAnswers
  refine ⟨fun s p tag kind body hh => ⟨exec_idle_of_hears tag hh, fun hk hb => ?reports⟩,
    fun s m about => ⟨fun x => rfl, fun x => ⟨fun hroom => if_pos hroom, fun hfull => if_neg (not_lt.mpr hfull)⟩, fun n => ?boxes⟩⟩
  case reports =>
    intro t
    have used := upstreamUsed_heard (p := p) hh.rests
    rw [exec_machineReport_of_hears tag hh hk hb]
    unfold State.forwardReport
    refine ⟨fun hroom => ?_, fun hfull => ?_⟩
    · rw [if_pos (show (s.heard p).upstreamUsed < Config.reportPlaces from used.trans_lt hroom), State.pushUpstream, store_heard]
      rfl
    · rw [if_neg (show ¬ (s.heard p).upstreamUsed < Config.reportPlaces by rw [used]; exact not_lt.mpr hfull)]
      cases p <;> rfl
  case boxes =>
    intro r put holds
    refine ⟨fun hp => sendShuttle_of_unpolled hp m about, fun hp => ⟨fun before i after hbox hi hb => ?_, fun hno hroom => ?_, fun hno hfull => ?_⟩⟩
    all_goals
      refine (sendShuttle_of_polled hp m about).trans (congrArg (fun b => s.setShuttle n { s.shuttle n with box := b }) ?_)
    · rw [show (s.shuttle n).box = _ from hbox]
      exact putBox_of_hold m hi hb
    · exact (putBox_of_no_hold m hno).trans (if_pos hroom)
    · exact (putBox_of_no_hold m hno).trans (if_neg (not_lt.mpr hfull))

end Sys2Proof.Machine

/-! ## Asks are refused in order (O20) -/

namespace Sys2Proof.Machine

/-! ### First failures and searches -/

theorem firstFailure_cons (b : Bool) (r : Reason) (cs : List (Bool × Reason)) :
    firstFailure ((b, r) :: cs) = if b = true then some r else firstFailure cs := by cases b <;> rfl

theorem firstFailure_refusal (o : Option Reason) (cs : List (Bool × Reason)) :
    firstFailure (checkOfRefusal o :: cs) = o.or (firstFailure cs) := by cases o <;> rfl

theorem allDiffer_iff {α : Type} [DecidableEq α] (l : List α) : allDiffer l = true ↔ l.Nodup := by
  induction l with
  | nil => exact ⟨fun _ => List.nodup_nil, fun _ => rfl⟩
  | cons a l ih => simp [allDiffer, ih]

theorem badIds_iff (ids : List ToteId) : badIds ids = true ↔ 0 ∈ ids ∨ ¬ ids.Nodup := by
  rw [badIds, Bool.or_eq_true, List.contains_iff_mem, Bool.not_eq_true', Bool.eq_false_iff, ne_eq, allDiffer_iff]

theorem badCount_iff (n : Nat) : badCount n = true ↔ n ≠ 1 ∧ n ≠ 2 := by simp [badCount]

theorem badCount_byte_iff (c : Byte) : badCount c.toNat = true ↔ c ≠ 1 ∧ c ≠ 2 := by
  rw [badCount_iff]
  exact and_congr (not_congr (BitVec.toNat_inj (y := 1))) (not_congr (BitVec.toNat_inj (y := 2)))

/-- Of all numbers below `n` the first that a test picks is the lowest. -/
theorem find?_finRange_eq_some_iff {n : Nat} (f : Fin n → Bool) (k : Fin n) :
    (List.finRange n).find? f = some k ↔ f k = true ∧ ∀ j, j < k → f j = false := by
  rw [List.find?_eq_some_iff_getElem]
  refine and_congr_right fun _ => ⟨?_, fun h => ⟨k, by simp, by simp, fun j hj => by simpa using h ⟨j, hj.trans k.isLt⟩ hj⟩⟩
  rintro ⟨i, hi, hk, hbefore⟩ j hj
  have hik : i = k.val := by simpa using congrArg Fin.val hk
  subst hik
  simpa using hbefore j hj

namespace State

theorem entries_find?_eq_some_iff (s : State) (f : Entry → Bool) (h : Handle) (e : Entry) :
    s.entries.find? (fun x => f x.2) = some (h, e) ↔
      s.entry h = some e ∧ f e = true ∧ ∀ k, k < h → ∀ g ∈ s.entry k, f g = false := by
  have any_iff (k : Handle) : ((s.entry k).map fun e => (k, e)).any (fun x => f x.2) = (s.entry k).any f := by
    cases s.entry k <;> rfl
  simp only [entries, List.find?_filterMap, any_iff, Option.bind_eq_some_iff, find?_finRange_eq_some_iff, Option.any_eq_true,
    Option.map_eq_some_iff, Prod.mk.injEq]
  constructor
  · rintro ⟨k, ⟨⟨g, hg, hf⟩, hfirst⟩, g', hg', rfl, rfl⟩
    obtain rfl := Option.some.inj (hg.symm.trans hg')
    refine ⟨hg, hf, fun j hj g' hg' => ?_⟩
    simpa [Option.mem_def.mp hg'] using hfirst j hj
  · rintro ⟨he, hf, hfirst⟩
    refine ⟨h, ⟨⟨e, he, hf⟩, fun j hj => ?_⟩, e, he, rfl, rfl⟩
    cases hg : s.entry j with
    | none => rfl
    | some g => exact hfirst j hj g hg

/-- The entry of a party is the one that names it (R25). -/
theorem entryOf_eq_some_iff (s : State) (p : Party) (h : Handle) (e : Entry) : s.entryOf p = some (h, e) ↔
    s.entry h = some e ∧ e.party = p ∧ ∀ k, k < h → ∀ f ∈ s.entry k, f.party ≠ p := by
  refine (s.entries_find?_eq_some_iff (fun e => e.party = p) h e).trans ?_
  simp only [decide_eq_true_eq, decide_eq_false_iff_not, ne_eq]

theorem freeHandle_eq_some_iff (s : State) (h : Handle) :
    s.freeHandle = some h ↔ s.entry h = none ∧ ∀ k, k < h → s.entry k ≠ none := by
  refine (find?_finRange_eq_some_iff _ h).trans (and_congr Option.isNone_iff_eq_none (forall₂_congr fun k _ => ?_))
  cases s.entry k <;> simp

theorem freeHandle_eq_none_iff (s : State) : s.freeHandle = none ↔ ∀ k, s.entry k ≠ none := by
  simp only [freeHandle, List.find?_eq_none, allHandles, List.mem_finRange, true_imp_iff, Option.isNone_iff_eq_none, ne_eq]

/-! ### The checks of an ask in their order (R28, R29) -/

section
variable {s : State} {p : Party}

theorem askGate_of_mode {r : Reason} (h : s.mode.refusal = some r) : s.askGate p = some r := by
  rw [askGate, h]
  rfl

theorem askGate_of_latch (hm : s.mode = .run) (h : s.latch p = true) : s.askGate p = some .partyFault := by
  rw [askGate, hm, h]
  rfl

theorem askGate_of_presence (hm : s.mode = .run) (h : s.latch p = false) : s.askGate p = s.presenceRefusal p := by
  rw [askGate, hm, h]
  show firstFailure [checkOfRefusal (s.presenceRefusal p)] = _
  rw [firstFailure_refusal, firstFailure_nil, Option.or_none]

theorem presenceRefusal_of_online (h : s.Online p) : s.presenceRefusal p = none := by
  cases p with
  | shuttle n => exact congrArg LevelPresence.refusal h
  | lift x => exact congrArg LiftPresence.refusal h

end

section
variable {s : State} {e : Entry} {bad : Option Reason}

theorem ask_of_gate {r : Reason} (h : s.askGate e.party = some r) :
    s.ask e bad = s.refuse e.party e.kind.ask r 255 e.tag none := by
  unfold ask
  rw [h]

variable (hg : s.askGate e.party = none)
include hg

theorem ask_of_busy {h : Handle} {f : Entry} (hf : s.entryOf e.party = some (h, f)) :
    s.ask e bad = s.refuse e.party e.kind.ask .busy (handleByte h) e.tag none := by
  unfold ask
  rw [hg, hf]

variable (hf : s.entryOf e.party = none)
include hf

theorem ask_of_bad {r : Reason} : s.ask e (some r) = s.refuse e.party e.kind.ask r 255 e.tag none := by
  unfold ask
  rw [hg, hf]

theorem ask_of_full (hfull : s.freeHandle = none) : s.ask e none = s.refuse e.party e.kind.ask .tableFull 255 e.tag none := by
  unfold ask
  rw [hg, hf, hfull]

theorem ask_of_free {h : Handle} (hfree : s.freeHandle = some h) : s.ask e none = s.decideAsk h e := by
  unfold ask
  rw [hg, hf, hfree]

end

/-! ### What hearing a telegram leaves as it was -/

section
variable (s : State) (p : Party)

@[simp] theorem mode_heard : (s.heard p).mode = s.mode := by cases p <;> rfl

@[simp] theorem latch_heard (q : Party) : (s.heard p).latch q = s.latch q := by cases p <;> rfl

@[simp] theorem entry_heard : (s.heard p).entry = s.entry := by cases p <;> rfl

@[simp] theorem entryOf_heard (q : Party) : (s.heard p).entryOf q = s.entryOf q := by cases p <;> rfl

@[simp] theorem lift_heard (x : Lift) : (s.heard p).lift x = s.lift x := by cases p <;> rfl

theorem freeHandle_heard : (s.heard p).freeHandle = s.freeHandle := by cases p <;> rfl

/-- A REFUSE is made in the state in which it is sent, and addressed in the one that the telegram found (R135). -/
theorem refuse_heard (q : Party) (kind : Byte) (r : Reason) (h tag : Byte) (about : Option Handle) :
    (s.heard p).refuse q kind r h tag about = (s.heard p).sendParty q (s.toward q 0x2A tag (.refuse kind r h)) about := by
  cases p <;> rfl

theorem online_heard (h : s.Online p) : (s.heard p).Online p := by
  cases p with
  | lift x => exact h
  | shuttle n =>
    show ((s.heard (.shuttle n)).shuttle n).presence = .online
    have hp : (s.shuttle n).presence = .online := h
    simp [heard, hp]

end

end State

/-! ### An ask as its command -/

/-- The entry of an ask is its party's, with its tag (R25). -/
theorem AskOf.entry {u : State} {p : Party} {tag wait count : Byte} {a : Instr} {e : Entry} {bad : Option Reason}
    (h : AskOf u p tag wait count a e bad) : ∃ k items, e = newEntry u p k tag wait count items := by
  cases p with
  | shuttle n => rcases h with ⟨r, -, he, -⟩ | ⟨-, he, -⟩ <;> exact ⟨_, _, he⟩
  | lift x => rcases h with ⟨l, -, -, -, he, -⟩ | ⟨-, he, -⟩ <;> exact ⟨_, _, he⟩

/-- An ask that is heard is judged (R28). -/
theorem exec_ask_of_hears {s : State} {p : Party} {tag wait count : Byte} {a : Instr} {e : Entry} {bad : Option Reason}
    (hh : Hears s p) (ha : AskOf (s.heard p) p tag wait count a e bad) : exec a s = done ((s.heard p).ask e bad) := by
  have fetch : exec (.fetchAsk p tag wait count) s
      = done ((s.heard p).ask (newEntry (s.heard p) p .fetch tag wait count []) ((s.heard p).fetchFailure p count)) :=
    congrArg done (telegram_of_hears s p tag 2 (.fetchAsk wait count) hh (by decide))
  cases p with
  | shuttle n =>
    rcases ha with ⟨r, rfl, rfl, rfl⟩ | ⟨rfl, rfl, rfl⟩
    · exact congrArg done (telegram_of_hears s (.shuttle n) tag 8 (.placeAsk wait count (.record r)) hh (by decide))
    · exact fetch
  | lift x =>
    rcases ha with ⟨l, rfl, hcount, hlen, rfl, rfl⟩ | ⟨rfl, rfl, rfl⟩
    · have hfits : PlaceBody.fits (.lift x) count (.ids l) = true := by
        simp only [PlaceBody.fits, PlaceBody.length, bodyFits, hcount, Bool.and_eq_true, decide_eq_true_eq, true_and]
        omega
      show done (s.telegram (.lift x) tag (2 + 4 * l.length) (PlaceBody.fits (.lift x) count (.ids l)) _) = _
      rw [hfits, telegram_of_hears s _ _ _ _ hh hlen]
      rfl
    · exact fetch

/-! ### Slots and records -/

theorem Slot.mapped_eq_false_iff (v : Slot) : v.mapped = false ↔ v = .off := by cases v <;> simp [Slot.mapped]

theorem mem_outPair_iff (c : SlotCode) (x : Lift) : c ∈ outPair x ↔ c.outLift = some x := by
  cases c <;> cases x <;> decide

theorem validTote_iff (r : ToteRec) :
    validTote r = true ↔ r.id ≠ 0 ∧ r.stream.toNat ≤ 16 ∧ r.dest.toNat ≤ 40 ∧ (r.stream = 0 ∨ r.dest = 0) := by
  simp only [validTote, Bool.and_eq_true, Bool.not_eq_true', decide_eq_true_eq, Bool.and_eq_false_iff, decide_eq_false_iff_not,
    not_not, and_assoc]

/-! ### What checks 5 to 8 find -/

namespace State

theorem shuttlePlaceFailure_eq (s : State) (n : Level) (count : Byte) (r : ToteRec) : s.shuttlePlaceFailure n count r =
    if validTote r = false ∨ r.dest ≠ 0 then some .badTote
    else if count ≠ 1 then some .badCount
    else if s.noMappedPair n r = true then some .badSlot
    else if s.inCensus r.id none = true then some .duplicate
    else s.routingFailure r := by
  have hbad : (!validTote r || isInbound r) = true ↔ validTote r = false ∨ r.dest ≠ 0 := by simp [isInbound]
  simp only [shuttlePlaceFailure, firstFailure_cons, firstFailure_refusal, firstFailure_nil, Option.or_none, hbad, decide_eq_true_eq]

theorem liftPlaceFailure_eq (s : State) (x : Lift) (count : Byte) (ids : List ToteId) : s.liftPlaceFailure x count ids =
    if 0 ∈ ids ∨ ¬ ids.Nodup then some .badTote
    else if count ≠ 1 ∧ count ≠ 2 then some .badCount
    else match (s.lift x).visit with
      | none => some .noVisit
      | some v =>
        if ∃ id ∈ ids, ∀ r ∈ (s.lift x).carriage, ¬ (r.id = id ∧ r.dest = BitVec.ofNat 8 (v.level.val + 1)) then some .badTote
        else if v.p < count.toNat then some .badCount
        else none := by
  have unnamed (v : Visit) : (!ids.all (fun id => (s.lift x).carriage.any (fun r => r.id = id && r.dest = levelByte v.level))) = true
      ↔ ∃ id ∈ ids, ∀ r ∈ (s.lift x).carriage, ¬ (r.id = id ∧ r.dest = BitVec.ofNat 8 (v.level.val + 1)) := by
    simp only [Bool.not_eq_true', List.all_eq_false, List.any_eq_true, Bool.and_eq_true, decide_eq_true_eq, not_exists, not_and]
    rfl
  unfold liftPlaceFailure
  by_cases hids : 0 ∈ ids ∨ ¬ ids.Nodup
  · simp only [firstFailure_cons, badIds_iff, if_pos hids]
  · by_cases hcount : count ≠ 1 ∧ count ≠ 2
    · simp only [firstFailure_cons, badIds_iff, badCount_byte_iff, if_neg hids, if_pos hcount]
    · cases hv : (s.lift x).visit with
      | none => simp only [firstFailure_cons, badIds_iff, badCount_byte_iff, firstFailure_nil, if_neg hids, if_neg hcount]
      | some v =>
        simp only [firstFailure_cons, badIds_iff, badCount_byte_iff, firstFailure_nil, if_neg hids, if_neg hcount, unnamed,
          decide_eq_true_eq]

theorem fetchFailure_lift_eq (s : State) (x : Lift) (count : Byte) : s.fetchFailure (.lift x) count =
    if count ≠ 1 ∧ count ≠ 2 then some .badCount
    else match (s.lift x).visit with
      | none => some .noVisit
      | some v =>
        if v.f < count.toNat ∨ 2 ≤ (s.lift x).carriage.length then some .badCount
        else if ∀ c ∈ outPair x, (s.slot v.level c).mapped = false then some .badSlot
        else none := by
  have full : (s.lift x).freePlaces = 0 ↔ 2 ≤ (s.lift x).carriage.length := by
    show 2 - _ = 0 ↔ _
    omega
  have unmapped (n : Level) : (!(outPair x).any (fun c => (s.slot n c).mapped)) = true
      ↔ ∀ c ∈ outPair x, (s.slot n c).mapped = false := by
    simp
  unfold fetchFailure
  cases hv : (s.lift x).visit with
  | none => simp only [hv, badCount_byte_iff]
  | some v =>
    simp only [hv, firstFailure_cons, badCount_byte_iff, firstFailure_nil, unmapped, full, Bool.or_eq_true, decide_eq_true_eq]

/-! ### Pairs, records and items -/

theorem routingFailure_eq {s : State} {r : ToteRec} {i : StreamNo} (h : r.stream.toNat = i.val) : s.routingFailure r =
    if (s.stream i).row.routed = false then some .noRoute
    else if s.isStray r = true ∧ (s.stream i).row.stray = .refuse then some .stray
    else none := by
  unfold routingFailure
  rw [(toteStream_eq_some_iff r i).mpr h]
  simp only [Bool.not_eq_true', Bool.and_eq_true, decide_eq_true_eq]

theorem noMappedPair_iff {s : State} {n : Level} {r : ToteRec} {i : StreamNo} (h : r.stream.toNat = i.val) :
    s.noMappedPair n r = true ↔ ∀ c : SlotCode, c.outLift = some (s.stream i).active → s.slot n c = .off := by
  unfold noMappedPair
  rw [(toteStream_eq_some_iff r i).mpr h]
  simp only [Bool.not_eq_true', List.any_eq_false, Bool.not_eq_true, Slot.mapped_eq_false_iff, mem_outPair_iff]

theorem namedItems_ids {s : State} {x : Lift} {ids : List ToteId} (h : ∀ id ∈ ids, ∃ r ∈ (s.lift x).carriage, r.id = id) :
    (s.namedItems x ids).map (fun i => i.tote.id) = ids := by
  induction ids with
  | nil => rfl
  | cons id ids ih =>
    obtain ⟨r, hr, hid⟩ := h id (List.mem_cons_self ..)
    obtain ⟨q, hq⟩ := Option.isSome_iff_exists.mp
      (List.find?_isSome (p := fun r : ToteRec => decide (r.id = id)).mpr ⟨r, hr, decide_eq_true hid⟩)
    have hqid : q.id = id := of_decide_eq_true (List.find?_some (p := fun r : ToteRec => decide (r.id = id)) hq)
    have hrest := ih fun k hk => h k (List.mem_cons_of_mem _ hk)
    unfold namedItems at hrest ⊢
    rw [List.filterMap_cons, hq]
    show q.id :: _ = _
    rw [hqid, hrest]

theorem mem_namedItems {s : State} {x : Lift} {ids : List ToteId} {i : Item} (h : i ∈ s.namedItems x ids) :
    i.tote ∈ (s.lift x).carriage ∧ i.slot = none ∧ i.conf = .none := by
  obtain ⟨id, -, hi⟩ := List.mem_filterMap.mp h
  obtain ⟨r, hr, rfl⟩ := Option.map_eq_some_iff.mp hi
  exact ⟨List.mem_of_find?_eq_some hr, rfl, rfl⟩

end State

/-- Settles O20: the checks of an ask in their order, and what each of them finds. -/
theorem asksAreRefusedInOrder : Obligations.AsksAreRefusedInOrder := by
  unfold Obligations.AsksAreRefusedInOrder
  refine ⟨fun s p tag wait count a e bad hh ha => ?order,
    fun s => ⟨s.shuttlePlaceFailure_eq, s.liftPlaceFailure_eq, fun n count => rfl, s.fetchFailure_lift_eq⟩,
    fun s n r i hi => ⟨State.noMappedPair_iff hi, State.routingFailure_eq hi⟩, validTote_iff,
    fun s p => ⟨s.entryOf_eq_none_iff p, s.entryOf_eq_some_iff p⟩, rfl, rfl, fun s p k tag wait count items => rfl,
    fun s x ids hids => ⟨State.namedItems_ids hids, fun i hi => State.mem_namedItems hi⟩⟩
  case order =>
    obtain ⟨k, items, rfl⟩ := ha.entry
    intro u refused
    set e := newEntry (s.heard p) p k tag wait count items
    have refuses {r : Reason} {h : Byte} (hask : u.ask e bad = u.refuse e.party e.kind.ask r h e.tag none) :
        exec a s = refused r h := by
      rw [exec_ask_of_hears hh ha, show (s.heard p).ask e bad = _ from hask, s.refuse_heard p]
      rfl
    have hparty : e.party = p := rfl
    have gated {r : Reason} (hg : u.askGate p = some r) : exec a s = refused r 255 := refuses (State.ask_of_gate (by rw [hparty]; exact hg))
    have hmode : u.mode = s.mode := s.mode_heard p
    have hlatch : u.latch p = s.latch p := s.latch_heard p p
    have inMode {m : Mode} {r : Reason} (hr : m.refusal = some r) (hm : s.mode = m) : exec a s = refused r 255 :=
      gated (State.askGate_of_mode (by rw [hmode, hm, hr]))
    refine ⟨inMode rfl, inMode rfl, inMode rfl, fun hm hl => gated (State.askGate_of_latch (hmode.trans hm) (hlatch.trans hl)), fun hm hl => ?_⟩
    have hpresence := State.askGate_of_presence (hmode.trans hm) (hlatch.trans hl)
    refine ⟨fun n hn => ?_, fun x hx => ?_, fun hon => ?_⟩
    · subst hn
      exact ⟨fun hp => gated (hpresence.trans (congrArg LevelPresence.refusal hp)),
        fun hp => gated (hpresence.trans (congrArg LevelPresence.refusal hp))⟩
    · subst hx
      exact ⟨fun hp => gated (hpresence.trans (congrArg LiftPresence.refusal hp)),
        fun hp => gated (hpresence.trans (congrArg LiftPresence.refusal hp))⟩
    · have passes : u.askGate e.party = none := by
        rw [hparty]
        exact hpresence.trans (State.presenceRefusal_of_online (s.online_heard p hon))
      have entryless (hno : s.Entryless p) : u.entryOf e.party = none := by
        rw [hparty]
        exact (s.entryOf_heard p p).trans ((s.entryOf_eq_none_iff p).mpr hno)
      refine ⟨fun k f hf => refuses (State.ask_of_busy (f := f) passes ?_), fun hno r hr => refuses ?_, fun hno hnone hfull => refuses ?_⟩
      · rw [hparty]
        exact (s.entryOf_heard p p).trans hf
      · rw [hr]
        exact State.ask_of_bad passes (entryless hno)
      · rw [hnone]
        exact State.ask_of_full passes (entryless hno) ((s.freeHandle_heard p).trans (s.freeHandle_eq_none_iff.mpr hfull))

end Sys2Proof.Machine

/-! ## Asks are decided (O21) -/

namespace Sys2Proof.Machine

namespace State

section
variable {s : State} {h : Handle} {e : Entry}

theorem decideAsk_of_grant {items : List Item} (hv : s.verdict e = .grant items) :
    s.decideAsk h e = (s.setLastExpired e.party none).grant h e items := by
  unfold decideAsk
  rw [hv]

theorem decideAsk_of_confirm {items : List Item} (hv : s.verdict e = .confirm items) :
    s.decideAsk h e = (s.setLastExpired e.party none).enterConfirming h e items := by
  unfold decideAsk
  rw [hv]

theorem decideAsk_of_hold {r : Reason} (hv : s.verdict e = .wait r) (hw : e.wait = true) :
    s.decideAsk h e = (s.setLastExpired e.party none).hold h e r := by
  unfold decideAsk
  rw [hv]
  exact if_pos hw

theorem decideAsk_of_refuse {r : Reason} (hv : s.verdict e = .wait r) (hw : e.wait = false) :
    s.decideAsk h e = s.refuse e.party e.kind.ask r 255 e.tag none := by
  unfold decideAsk
  rw [hv]
  exact if_neg (by rw [hw]; exact Bool.false_ne_true)

end

end State

/-- Settles O21: an ask that passes checks 1 to 9 is granted, handed to the confirm unit, held or refused. -/
theorem asksAreDecided : Obligations.AsksAreDecided := by
  unfold Obligations.AsksAreDecided
  intro s p tag wait count a e h hh ha hm hl hon hno hfree hlow u v
  obtain ⟨k, items, rfl⟩ := ha.entry
  set e := newEntry (s.heard p) p k tag wait count items
  have passes : u.askGate p = none :=
    (State.askGate_of_presence ((s.mode_heard p).trans hm) ((s.latch_heard p p).trans hl)).trans
      (State.presenceRefusal_of_online (s.online_heard p hon))
  have entryless : u.entryOf p = none := (s.entryOf_heard p p).trans ((s.entryOf_eq_none_iff p).mpr hno)
  have lowest : u.freeHandle = some h := (s.freeHandle_heard p).trans ((s.freeHandle_eq_some_iff h).mpr ⟨hfree, hlow⟩)
  have decided : exec a s = done (u.decideAsk h e) :=
    (exec_ask_of_hears hh ha).trans (congrArg done (State.ask_of_free (e := e) passes entryless lowest))
  refine ⟨fun items hv => ?_, fun items hv => ?_, fun r hv hw => ?_, fun r hv hw => ?_⟩
  · exact decided.trans (congrArg done (State.decideAsk_of_grant hv))
  · exact decided.trans (congrArg done (State.decideAsk_of_confirm hv))
  · exact decided.trans (congrArg done (State.decideAsk_of_hold hv (decide_eq_true hw)))
  · rw [decided, State.decideAsk_of_refuse hv (decide_eq_false (not_not.mpr hw)), s.refuse_heard p]
    rfl

end Sys2Proof.Machine

/-! ## Custody and switches (O23) -/

namespace Sys2Proof.Machine

theorem outboundOf_iff (r : ToteRec) (i : StreamNo) : outboundOf r i = true ↔ r.dest = 0 ∧ r.stream.toNat = i.val := by
  rw [outboundOf, Bool.and_eq_true, decide_eq_true_eq, decide_eq_true_eq, toteStream_eq_some_iff]

theorem inOutPair_iff (a : Option (Level × SlotCode)) (x : Lift) :
    inOutPair a x = true ↔ ∃ l c, a = some (l, c) ∧ c.outLift = some x := by
  cases a with
  | none => simp [inOutPair]
  | some p =>
    obtain ⟨l, c⟩ := p
    simp [inOutPair]

theorem Phase.isGranted_iff (p : Phase) : p.isGranted = true ↔ ∃ t, p = .granted t := by cases p <;> simp [Phase.isGranted]

/-- The release entry of an ID is the first in the list that has it. -/
theorem relEntry_eq_some_iff (l : List RelEntry) (id : ToteId) (r : RelEntry) : relEntry l id = some r ↔
    ∃ before after, l = before ++ r :: after ∧ r.id = id ∧ ∀ q ∈ before, q.id ≠ id := by
  rw [relEntry, List.find?_eq_some_iff_append]
  simp only [decide_eq_true_eq, Bool.not_eq_true', decide_eq_false_iff_not]
  constructor
  · rintro ⟨hid, before, after, rfl, hb⟩
    exact ⟨before, after, rfl, hid, hb⟩
  · rintro ⟨before, after, rfl, hid, hb⟩
    exact ⟨hid, before, after, rfl, hb⟩

namespace State
variable (s : State) (i : StreamNo)

theorem custodySlots_iff (x : Lift) : s.custodySlots i x = true ↔
    ∃ n c t, c.outLift = some x ∧ (s.slot n c).content = some t ∧ t.tote.dest = 0 ∧ t.tote.stream.toNat = i.val := by
  unfold custodySlots
  simp only [List.any_eq_true, allLevels, List.mem_finRange, true_and, mem_outPair_iff]
  refine exists_congr fun n => exists_congr fun c => ?_
  cases hc : (s.slot n c).content with
  | none => simp
  | some t => simp [outboundOf_iff]

theorem custodyEntries_iff (x : Lift) : s.custodyEntries i x = true ↔
    (∃ h n, ∃ e ∈ s.entry h, e.party = .shuttle n ∧ e.kind = .place ∧ e.phase.isGranted = true
      ∧ ∃ j ∈ e.items, (j.tote.dest = 0 ∧ j.tote.stream.toNat = i.val) ∧ ∃ l c, j.slot = some (l, c) ∧ c.outLift = some x)
    ∨ ∃ h, ∃ e ∈ s.entry h, e.party = .lift x ∧ e.kind = .fetch ∧ e.phase.isGranted = true
      ∧ ∃ j ∈ e.items, (j.tote.dest = 0 ∧ j.tote.stream.toNat = i.val) ∧ ∃ r, relEntry (s.stream i).list j.tote.id = some r
        ∧ r.pledged = true := by
  unfold custodyEntries
  rw [List.any_eq_true]
  constructor
  · rintro ⟨⟨h, e⟩, hmem, hb⟩
    have he := (s.mem_entries_iff h e).mp hmem
    dsimp only at hb
    split at hb
    next t n hphase hparty hkind =>
      obtain ⟨j, hj, hjb⟩ := List.any_eq_true.mp hb
      obtain ⟨hslot, hof⟩ := Bool.and_eq_true_iff.mp hjb
      exact .inl ⟨h, n, e, he, hparty, hkind, by rw [hphase]; rfl, j, hj, (outboundOf_iff _ _).mp hof, (inOutPair_iff _ _).mp hslot⟩
    next t y hphase hparty hkind =>
      obtain ⟨hy, hany⟩ := Bool.and_eq_true_iff.mp hb
      obtain rfl : y = x := of_decide_eq_true hy
      obtain ⟨j, hj, hjb⟩ := List.any_eq_true.mp hany
      split at hjb
      next r hr =>
        obtain ⟨hpledged, hof⟩ := Bool.and_eq_true_iff.mp hjb
        exact .inr ⟨h, e, he, hparty, hkind, by rw [hphase]; rfl, j, hj, (outboundOf_iff _ _).mp hof, r, hr, hpledged⟩
      · contradiction
    · contradiction
  · rintro (⟨h, n, e, he, hparty, hkind, hphase, j, hj, hof, hslot⟩ | ⟨h, e, he, hparty, hkind, hphase, j, hj, hof, r, hr, hpledged⟩)
    · obtain ⟨t, ht⟩ := (Phase.isGranted_iff _).mp hphase
      refine ⟨(h, e), (s.mem_entries_iff h e).mpr he, ?_⟩
      simp only [ht, hparty, hkind]
      exact List.any_eq_true.mpr ⟨j, hj, Bool.and_eq_true_iff.mpr ⟨(inOutPair_iff _ _).mpr hslot, (outboundOf_iff _ _).mpr hof⟩⟩
    · obtain ⟨t, ht⟩ := (Phase.isGranted_iff _).mp hphase
      refine ⟨(h, e), (s.mem_entries_iff h e).mpr he, ?_⟩
      simp only [ht, hparty, hkind, decide_true, Bool.true_and]
      refine List.any_eq_true.mpr ⟨j, hj, ?_⟩
      simp only [hr, hpledged, (outboundOf_iff _ _).mpr hof, Bool.true_and]

variable {s i}

theorem wanted_of_primary (h : (s.stream i).active = (s.stream i).row.primary) : s.wanted i =
    match (s.stream i).row.alternate with
    | some x => if (s.lift (s.stream i).row.primary).presence = .service then x else (s.stream i).row.primary
    | none => (s.stream i).row.primary := by
  unfold wanted
  exact if_pos h

theorem wanted_of_alternate (h : (s.stream i).active ≠ (s.stream i).row.primary) : s.wanted i =
    if (s.lift (s.stream i).row.primary).presence = .online then (s.stream i).row.primary else (s.stream i).active := by
  unfold wanted
  exact if_neg h

theorem evalStream_of_same (hw : s.wanted i = (s.stream i).active) : s.evalStream i =
    if (s.stream i).switchPending then (s.setStream i { s.stream i with switchPending := false }).wantReeval else s := by
  unfold evalStream
  exact if_pos hw

theorem evalStream_of_other (hw : s.wanted i ≠ (s.stream i).active) : s.evalStream i =
    if s.custody i (s.stream i).active then s.setStream i { s.stream i with switchPending := true }
    else (s.setStream i { s.stream i with active := s.wanted i, switchPending := false }).wantReeval := by
  unfold evalStream
  exact if_neg hw

end State

/-- Settles O23: custody, the wanted lift, and what an evaluation does. -/
theorem custodyAndSwitches : Obligations.CustodyAndSwitches := by
  unfold Obligations.CustodyAndSwitches
  intro s i of old
  refine ⟨fun x => ?custody, fun y ha hy => ?_, fun ha hn => ?_, fun ha => State.wanted_of_alternate ha, fun hw hp => ?_, fun hw hp => ?_,
    fun hw hc => (State.evalStream_of_other hw).trans (if_pos hc), fun hw hc => ?_⟩
  case custody =>
    rw [State.custody, Bool.or_eq_true, Bool.or_eq_true, State.custodySlots_iff, State.custodyEntries_iff, List.any_eq_true, or_assoc,
      or_assoc]
    simp only [relEntry_eq_some_iff, outboundOf_iff]
    refine or_congr Iff.rfl (or_congr Iff.rfl (or_congr ?_ Iff.rfl))
    refine exists_congr fun h => exists_congr fun e => and_congr_right fun _ => and_congr_right fun _ => and_congr_right fun _ =>
      and_congr_right fun _ => exists_congr fun j => and_congr_right fun _ => and_congr_right fun _ => ?_
    constructor
    · rintro ⟨r, ⟨before, after, hl, hid, hb⟩, hp⟩
      exact ⟨before, r, after, hl, hid, hp, hb⟩
    · rintro ⟨before, r, after, hl, hid, hp, hb⟩
      exact ⟨r, ⟨before, after, hl, hid, hb⟩, hp⟩
  · rw [State.wanted_of_primary ha, hy]
  · rw [State.wanted_of_primary ha, hn]
  · exact (State.evalStream_of_same hw).trans (if_neg (by rw [hp]; exact Bool.false_ne_true))
  · exact (State.evalStream_of_same hw).trans (if_pos hp)
  · exact (State.evalStream_of_other hw).trans (if_neg (by rw [hc]; exact Bool.false_ne_true))

end Sys2Proof.Machine

/-! ## Choices of slots (O24) -/

namespace Sys2Proof.Machine

/-! ### What slots hold -/

theorem Slot.ready_eq_some_iff (v : Slot) (t : Content) : v.ready = some t ↔ v = .opened (some t) none := by
  cases v with
  | opened c k => cases k <;> simp [Slot.ready]
  | _ => simp [Slot.ready]

theorem Slot.content_eq_some_iff (v : Slot) (t : Content) : v.content = some t ↔ (∃ claim, v = .opened (some t) claim)
    ∨ (∃ cause expired reported, v = .doubt (some t) cause expired reported) ∨ v = .fenced (some t) := by
  cases v <;> simp [Slot.content]

theorem Slot.claim_eq_some_iff (v : Slot) (k : Claim) : v.claim = some k ↔ ∃ content, v = .opened content (some k) := by
  cases v <;> simp [Slot.claim]

theorem isFree_eq_true_iff (s : State) (n : Level) (c : SlotCode) : (s.slot n c).isFree = true ↔ s.slot n c = .opened none none :=
  Slot.isFree_iff _

theorem older_iff (now a b : Stamp) : older now a b = true ↔ (now - b).toNat < (now - a).toNat := decide_eq_true_iff

/-- A sorted list of two. -/
theorem sortBy_pair {α : Type} (before : α → α → Bool) (c d : α) :
    sortBy before [c, d] = if before d c then [d, c] else [c, d] := rfl

namespace State

/-! ### Shuttles (R33, R34) -/

/-- What RESERVE looks at (R33). -/
theorem blocksReserve_iff (s : State) (n : Level) (c : SlotCode) : s.blocksReserve n c = true ↔
    (∃ t : Content, s.eligible t.tote = false ∧ (s.slot n c).content = some t)
    ∨ ∃ k e, (s.slot n c).claim = some k ∧ k.kind = .place ∧ s.entry k.handle = some e
      ∧ ∃ i ∈ e.items, i.tote.id = k.toteId ∧ s.eligible i.tote = false := by
  unfold blocksReserve
  rw [Bool.or_eq_true]
  refine or_congr ?_ ?_
  · cases (s.slot n c).content <;> simp
  · cases (s.slot n c).claim with
    | none => simp
    | some k => cases he : s.entry k.handle <;> simp [he]

/-- The choice for a shuttle PLACE by the two places of the pair (R33). -/
theorem chooseShuttlePlace_of_switch {s : State} {i : Item} {k : StreamNo} (n : Level) (hk : i.tote.stream.toNat = k.val)
    (hs : (s.stream k).switchPending = true) : s.chooseShuttlePlace n i = .wait .route := by
  unfold chooseShuttlePlace
  rw [(toteStream_eq_some_iff _ _).mpr hk]
  exact if_pos hs

section
variable {s : State} {n : Level} {i : Item} {k : StreamNo} (hk : i.tote.stream.toNat = k.val)
  (hs : (s.stream k).switchPending = false)
include hk hs

/-- With a free place in the pair it is RESERVE that decides (R33). -/
theorem chooseShuttlePlace_of_free {c : SlotCode} (hc : (outPair (s.stream k).active).find? (fun c => (s.slot n c).isFree) = some c) :
    s.chooseShuttlePlace n i = if s.eligible i.tote || !s.blocksReserve n c.partner then .grant [{ i with slot := some (n, c) }]
      else .wait .reserve := by
  unfold chooseShuttlePlace
  simp only [(toteStream_eq_some_iff _ _).mpr hk, hs, hc, Bool.false_eq_true, if_false]

theorem chooseShuttlePlace_of_full (hc : (outPair (s.stream k).active).find? (fun c => (s.slot n c).isFree) = none) :
    s.chooseShuttlePlace n i = .wait .full := by
  unfold chooseShuttlePlace
  simp only [(toteStream_eq_some_iff _ _).mpr hk, hs, hc, Bool.false_eq_true, if_false]

theorem chooseShuttlePlace_grants {c : SlotCode}
    (hc : (outPair (s.stream k).active).find? (fun c => (s.slot n c).isFree) = some c)
    (h : s.eligible i.tote = true ∨ s.blocksReserve n c.partner = false) :
    s.chooseShuttlePlace n i = .grant [{ i with slot := some (n, c) }] := by
  rw [chooseShuttlePlace_of_free hk hs hc, if_pos]
  rcases h with h | h <;> simp [h]

theorem chooseShuttlePlace_reserves {c : SlotCode}
    (hc : (outPair (s.stream k).active).find? (fun c => (s.slot n c).isFree) = some c) (he : s.eligible i.tote = false)
    (hb : s.blocksReserve n c.partner = true) : s.chooseShuttlePlace n i = .wait .reserve := by
  rw [chooseShuttlePlace_of_free hk hs hc, if_neg]
  simp [he, hb]

end

section
variable {s : State} {n : Level} {x : Lift} {one two : SlotCode} (hpair : outPair x = [one, two])
include hpair

theorem find?_pair_first (h1 : s.slot n one = .opened none none) :
    (outPair x).find? (fun c => (s.slot n c).isFree) = some one := by
  simp [hpair, (isFree_eq_true_iff s n one).mpr h1]

theorem find?_pair_second (h1 : ¬ s.slot n one = .opened none none) (h2 : s.slot n two = .opened none none) :
    (outPair x).find? (fun c => (s.slot n c).isFree) = some two := by
  simp [hpair, Bool.eq_false_iff.mpr (mt (isFree_eq_true_iff s n one).mp h1), (isFree_eq_true_iff s n two).mpr h2]

theorem find?_pair_none (h1 : ¬ s.slot n one = .opened none none) (h2 : ¬ s.slot n two = .opened none none) :
    (outPair x).find? (fun c => (s.slot n c).isFree) = none := by
  simp [hpair, Bool.eq_false_iff.mpr (mt (isFree_eq_true_iff s n one).mp h1),
    Bool.eq_false_iff.mpr (mt (isFree_eq_true_iff s n two).mp h2)]

end

/-- The choice for a shuttle PLACE in a pair of place 1 and place 2 (R33). -/
theorem chooseShuttlePlace_cases {s : State} (n : Level) {i : Item} {k : StreamNo} (hk : i.tote.stream.toNat = k.val)
    {one two : SlotCode} (hpair : outPair (s.stream k).active = [one, two]) (h1 : one.partner = two) (h2 : two.partner = one) :
    let free (c : SlotCode) : Prop := s.slot n c = .opened none none
    ((s.stream k).switchPending = true → s.chooseShuttlePlace n i = .wait .route)
    ∧ ((s.stream k).switchPending = false →
      (¬ free one → ¬ free two → s.chooseShuttlePlace n i = .wait .full)
      ∧ (free one → (s.eligible i.tote = true ∨ s.blocksReserve n two = false) →
        s.chooseShuttlePlace n i = .grant [{ i with slot := some (n, one) }])
      ∧ (¬ free one → free two → (s.eligible i.tote = true ∨ s.blocksReserve n one = false) →
        s.chooseShuttlePlace n i = .grant [{ i with slot := some (n, two) }])
      ∧ (free one → s.eligible i.tote = false → s.blocksReserve n two = true → s.chooseShuttlePlace n i = .wait .reserve)
      ∧ (¬ free one → free two → s.eligible i.tote = false → s.blocksReserve n one = true →
        s.chooseShuttlePlace n i = .wait .reserve)) := by
  subst h1
  refine ⟨chooseShuttlePlace_of_switch n hk, fun hs => ⟨fun hn1 hn2 => chooseShuttlePlace_of_full hk hs (find?_pair_none hpair hn1 hn2),
    fun hf h => chooseShuttlePlace_grants hk hs (find?_pair_first hpair hf) h,
    fun hn1 hf h => chooseShuttlePlace_grants hk hs (find?_pair_second hpair hn1 hf) (by rw [h2]; exact h),
    fun hf he hb => chooseShuttlePlace_reserves hk hs (find?_pair_first hpair hf) he hb,
    fun hn1 hf he hb => chooseShuttlePlace_reserves hk hs (find?_pair_second hpair hn1 hf) he (by rw [h2]; exact hb)⟩⟩

/-- The choice for a shuttle FETCH by what the IN pair holds (R34). -/
theorem chooseShuttleFetch_cases (s : State) (n : Level) :
    let granted (c : SlotCode) (t : Content) : Verdict := .grant [⟨t.tote, some (n, c), .none⟩]
    ((s.slot n .in1).ready = none → (s.slot n .in2).ready = none → s.chooseShuttleFetch n = .wait .empty)
    ∧ (∀ t, (s.slot n .in1).ready = some t → (s.slot n .in2).ready = none → s.chooseShuttleFetch n = granted .in1 t)
    ∧ (∀ t, (s.slot n .in1).ready = none → (s.slot n .in2).ready = some t → s.chooseShuttleFetch n = granted .in2 t)
    ∧ (∀ t u, (s.slot n .in1).ready = some t → (s.slot n .in2).ready = some u →
      s.chooseShuttleFetch n
        = if (s.time - t.stamp).toNat < (s.time - u.stamp).toNat then granted .in2 u else granted .in1 t) := by
  refine ⟨fun h1 h2 => ?_, fun t h1 h2 => ?_, fun t h1 h2 => ?_, fun t u h1 h2 => ?_⟩
  all_goals simp only [chooseShuttleFetch, inPair, List.filterMap_cons, List.filterMap_nil, h1, h2, Option.map_none, Option.map_some,
    List.foldl_cons, List.foldl_nil, older_iff]
  split <;> rfl

/-! ### Lifts (R35, R36) -/

theorem chooseLiftPlace_of_full {s : State} {n : Level} (h : s.freeIn n = []) (items : List Item) :
    s.chooseLiftPlace n items = .wait .full := by
  unfold chooseLiftPlace
  rw [h]

theorem chooseLiftPlace_of_free {s : State} {n : Level} {c : SlotCode} {cs : List SlotCode} (h : s.freeIn n = c :: cs)
    (items : List Item) :
    s.chooseLiftPlace n items = .grant ((items.zip (c :: cs)).map (fun p => { p.1 with slot := some (n, p.2) })) := by
  unfold chooseLiftPlace
  rw [h]

/-- The choice for a lift PLACE by the free IN slots (R35). -/
theorem chooseLiftPlace_cases (s : State) (n : Level) (items : List Item) :
    let slotted (i : Item) (c : SlotCode) : Item := { i with slot := some (n, c) }
    let free (c : SlotCode) : Prop := s.slot n c = .opened none none
    (¬ free .in1 → ¬ free .in2 → s.chooseLiftPlace n items = .wait .full)
    ∧ (∀ i is, items = i :: is → free .in1 → ¬ free .in2 → s.chooseLiftPlace n items = .grant [slotted i .in1])
    ∧ (∀ i is, items = i :: is → ¬ free .in1 → free .in2 → s.chooseLiftPlace n items = .grant [slotted i .in2])
    ∧ (∀ i, items = [i] → free .in1 → free .in2 → s.chooseLiftPlace n items = .grant [slotted i .in1])
    ∧ (∀ i j, items = [i, j] → free .in1 → free .in2 →
      s.chooseLiftPlace n items = .grant [slotted i .in1, slotted j .in2]) := by
  have freeIn : s.freeIn n = [SlotCode.in1, .in2].filter (fun c => decide (s.slot n c = .opened none none)) := s.freeIn_eq n
  refine ⟨fun h1 h2 => chooseLiftPlace_of_full (by rw [freeIn]; simp [h1, h2]) items, fun i is hi h1 h2 => ?_, fun i is hi h1 h2 => ?_,
    fun i hi h1 h2 => ?_, fun i j hi h1 h2 => ?_⟩
  all_goals subst hi
  · rw [chooseLiftPlace_of_free (c := .in1) (cs := []) (by rw [freeIn]; simp [h1, h2]), List.zip_cons_cons, List.zip_nil_right]
    rfl
  · rw [chooseLiftPlace_of_free (c := .in2) (cs := []) (by rw [freeIn]; simp [h1, h2]), List.zip_cons_cons, List.zip_nil_right]
    rfl
  · exact chooseLiftPlace_of_free (c := .in1) (cs := [.in2]) (by rw [freeIn]; simp [h1, h2]) _
  · exact chooseLiftPlace_of_free (c := .in1) (cs := [.in2]) (by rw [freeIn]; simp [h1, h2]) _

section
variable {s : State} {x : Lift} {n : Level} {count : Nat}

/-- With nothing fetchable a lift FETCH waits (R36). -/
theorem chooseLiftFetch_of_nothing (h : s.fetchables x n = []) : s.chooseLiftFetch x n count
    = .wait (if (outPair x).any (fun c => (s.slot n c).isOpen && (s.slot n c).content.isSome) then .notEligible else .empty) := by
  have hnone : (sortBy s.candidateBefore (s.fetchables x n)).take (min count (s.lift x).freePlaces) = [] := by
    rw [h]
    exact List.take_nil
  unfold chooseLiftFetch
  rw [hnone]
  refine (if_pos rfl).trans ?_
  split <;> rfl

/-- A lift FETCH takes the first of what is fetchable, for confirmation or for a grant (R36, R105). -/
theorem chooseLiftFetch_of_chosen {l : List (SlotCode × Content)} (hl : l ≠ [])
    (h : (sortBy s.candidateBefore (s.fetchables x n)).take (min count (2 - (s.lift x).carriage.length)) = l) :
    s.chooseLiftFetch x n count = if l.any (fun c => s.needsConfirm c.2.tote) then
        .confirm (l.map (fun c => ⟨c.2.tote, none, if s.needsConfirm c.2.tote then .asked else .none⟩))
      else .grant (l.map (fun c => ⟨c.2.tote, some (n, c.1), .none⟩)) := by
  have hne : ¬ l.isEmpty = true := mt List.isEmpty_iff.mp hl
  unfold chooseLiftFetch
  rw [show (sortBy s.candidateBefore (s.fetchables x n)).take (min count (s.lift x).freePlaces) = l from h]
  exact if_neg hne

/-- Of two fetchable totes a lift FETCH takes as many as it has room for (R36). -/
theorem take_sorted_pair (c d : SlotCode × Content) {room : Nat} (h : 1 ≤ room) :
    (sortBy s.candidateBefore [c, d]).take room =
      if s.candidateBefore d c then (if room = 1 then [d] else [d, c]) else (if room = 1 then [c] else [c, d]) := by
  have take_pair (a b : SlotCode × Content) : [a, b].take room = if room = 1 then [a] else [a, b] := by
    split
    next h1 => rw [h1]; rfl
    next h1 => exact List.take_of_length_le (show 2 ≤ room by omega)
  rw [sortBy_pair]
  split <;> exact take_pair _ _

theorem covered_iff (id : ToteId) : s.covered id = true ↔
    ∃ h, ∃ e ∈ s.entry h, e.phase = .confirming ∧ ∃ i ∈ e.items, i.tote.id = id := by
  unfold covered
  rw [List.any_eq_true]
  constructor
  · rintro ⟨⟨h, e⟩, hmem, hb⟩
    dsimp only at hb
    split at hb
    next hphase =>
      obtain ⟨i, hi, hid⟩ := List.any_eq_true.mp hb
      exact ⟨h, e, (s.mem_entries_iff h e).mp hmem, hphase, i, hi, of_decide_eq_true hid⟩
    · contradiction
    · contradiction
  · rintro ⟨h, e, he, hphase, i, hi, hid⟩
    refine ⟨(h, e), (s.mem_entries_iff h e).mpr he, ?_⟩
    simp only [hphase]
    exact List.any_eq_true.mpr ⟨i, hi, decide_eq_true hid⟩

theorem fetchableAt_eq_some_iff (c : SlotCode) (t : Content) : s.fetchableAt n c = some t ↔
    s.slot n c = .opened (some t) none ∧ s.eligible t.tote = true
      ∧ ∀ h, ∀ e ∈ s.entry h, e.phase = .confirming → ∀ i ∈ e.items, i.tote.id ≠ t.tote.id := by
  have uncovered : s.covered t.tote.id = false ↔
      ∀ h, ∀ e ∈ s.entry h, e.phase = .confirming → ∀ i ∈ e.items, i.tote.id ≠ t.tote.id := by
    rw [Bool.eq_false_iff, ne_eq, covered_iff]
    push Not
    rfl
  rw [← Slot.ready_eq_some_iff, ← uncovered]
  unfold fetchableAt
  cases (s.slot n c).ready with
  | none => simp
  | some y =>
    simp only [Option.ite_none_right_eq_some, Bool.and_eq_true, Bool.not_eq_true', Option.some.injEq]
    constructor
    · rintro ⟨h, rfl⟩
      exact ⟨rfl, h⟩
    · rintro ⟨rfl, h⟩
      exact ⟨h, rfl⟩

theorem mem_fetchables_iff (c : SlotCode) (t : Content) : (c, t) ∈ s.fetchables x n ↔
    c.outLift = some x ∧ s.slot n c = .opened (some t) none ∧ s.eligible t.tote = true
      ∧ ∀ h, ∀ e ∈ s.entry h, e.phase = .confirming → ∀ i ∈ e.items, i.tote.id ≠ t.tote.id := by
  unfold fetchables
  rw [List.mem_filterMap]
  constructor
  · rintro ⟨d, hd, h⟩
    obtain ⟨y, hy, hp⟩ := Option.map_eq_some_iff.mp h
    cases hp
    exact ⟨(mem_outPair_iff _ _).mp hd, (fetchableAt_eq_some_iff _ _).mp hy⟩
  · rintro ⟨hc, h⟩
    exact ⟨c, (mem_outPair_iff _ _).mpr hc, by rw [(fetchableAt_eq_some_iff c t).mpr h]; rfl⟩

end

/-! ### The order of candidates (R36) -/

theorem orderIndex_of_stream_zero {s : State} {r : ToteRec} (h : r.stream = 0) : s.orderIndex r = 255 := by
  unfold orderIndex
  rw [(toteStream_eq_some_iff r 0).mpr (by rw [h]; rfl)]
  rfl

theorem orderIndex_of_listed {s : State} {r : ToteRec} {i : StreamNo} {k : Nat} {e : RelEntry} (hi : i ≠ 0)
    (hr : r.stream.toNat = i.val) (h : StandsAt (s.stream i).list r.id k e) : s.orderIndex r = k := by
  unfold orderIndex
  simp only [(toteStream_eq_some_iff r i).mpr hr, if_neg hi, (relIndex_eq_some_iff _ _ _).mpr ⟨e, h⟩, Option.getD_some]

/-- The order of candidates by their indices, placement stamps and places (R36). -/
theorem candidateBefore_iff {s : State} {a b : SlotCode × Content} {ka kb : Nat} (ha : s.orderIndex a.2.tote = ka)
    (hb : s.orderIndex b.2.tote = kb) : s.candidateBefore a b = true ↔ ka < kb ∨ (ka = kb ∧
      ((s.time - b.2.stamp).toNat < (s.time - a.2.stamp).toNat ∨ (a.2.stamp = b.2.stamp ∧ a.1.byte.toNat < b.1.byte.toNat))) := by
  unfold candidateBefore
  rw [ha, hb]
  by_cases hk : ka = kb
  · by_cases hst : a.2.stamp = b.2.stamp
    · simp [hk, hst]
    · simp [hk, hst, older_iff]
  · simp [hk]

theorem needsConfirm_eq {s : State} {r : ToteRec} {i : StreamNo} (h : r.stream.toNat = i.val) :
    s.needsConfirm r = (s.stream i).row.confirm := by
  unfold needsConfirm
  rw [(toteStream_eq_some_iff r i).mpr h]

end State

/-- Settles O24: the choices of check 10, and what they look at. -/
theorem choicesOfSlots : Obligations.ChoicesOfSlots := by
  unfold Obligations.ChoicesOfSlots
  refine ⟨fun s n => ⟨fun i k hk => ?shuttlePlace, s.chooseShuttleFetch_cases n⟩,
    fun s x n => ⟨s.chooseLiftPlace_cases n, fun count hcount hroom => ?liftFetch, State.mem_fetchables_iff⟩, fun s n c => ?reserve,
    fun s a b ka kb => ?order, fun s r i => State.needsConfirm_eq, fun s e => ⟨fun n i is hp hk hi => ?_, fun n hp hk => ?_,
      fun x v hp hv => ⟨fun hk => ?_, fun hk => ?_⟩⟩⟩
  case shuttlePlace =>
    have cases {one two : SlotCode} := s.chooseShuttlePlace_cases n hk (one := one) (two := two)
    generalize hx : (s.stream k).active = x at cases ⊢
    cases x with
    | a => exact cases rfl rfl rfl
    | b => exact cases rfl rfl rfl
  case liftFetch =>
    intro room chosen
    have hr : 1 ≤ room := by show 1 ≤ min count _; omega
    refine ⟨State.chooseLiftFetch_of_nothing, fun c hc => ?_, fun c d hcd => ?_⟩
    · exact State.chooseLiftFetch_of_chosen (List.cons_ne_nil _ _) (by rw [hc]; exact List.take_of_length_le hr)
    · have htake := (congrArg (fun l => (sortBy s.candidateBefore l).take room) hcd).trans (State.take_sorted_pair c d hr)
      by_cases hb : s.candidateBefore d c = true
      · rw [if_pos hb] at htake ⊢
        exact State.chooseLiftFetch_of_chosen (by split <;> exact List.cons_ne_nil _ _) htake
      · rw [if_neg hb] at htake ⊢
        exact State.chooseLiftFetch_of_chosen (by split <;> exact List.cons_ne_nil _ _) htake
  case reserve =>
    rw [State.blocksReserve_iff]
    simp only [Slot.content_eq_some_iff, Slot.claim_eq_some_iff]
    refine or_congr Iff.rfl ?_
    constructor
    · rintro ⟨k, e, ⟨content, hc⟩, h⟩
      exact ⟨content, k, e, hc, h⟩
    · rintro ⟨content, k, e, hc, h⟩
      exact ⟨k, e, ⟨content, hc⟩, h⟩
  case order =>
    intro index age ha hb
    have ordered {r : ToteRec} {k : Nat} (h : index r k) : s.orderIndex r = k := by
      rcases h with ⟨h0, rfl⟩ | ⟨i, hi, hr, ⟨e, hget, hid⟩, hfirst⟩
      · exact State.orderIndex_of_stream_zero h0
      · exact State.orderIndex_of_listed hi hr ⟨hget, hid, hfirst⟩
    exact State.candidateBefore_iff (ordered ha) (ordered hb)
  all_goals unfold State.verdict
  · simp only [hp, hk, hi]
  · simp only [hp, hk]
  · simp only [hp, hk, hv]
  · simp only [hp, hk, hv]

end Sys2Proof.Machine

/-! ## What an operation leaves as it was -/

namespace Sys2Proof.Machine.State

theorem sendLift_keeps (s : State) (x : Lift) (t : Tel) : s.sendLift x t = { s with
    links := (s.sendLift x t).links, work := { s.work with raises := (s.sendLift x t).work.raises } } := by
  unfold sendLift
  dsimp only
  split <;> rfl

theorem sendShuttle_keeps (s : State) (n : Level) (t : Tel) (a : Option Handle) :
    s.sendShuttle n t a = { s with shuttles := (s.sendShuttle n t a).shuttles } := by
  unfold sendShuttle
  dsimp only
  split <;> rfl

/-- An answer changes the ports of the party, and may raise (R39, R128). -/
theorem sendParty_keeps (s : State) (p : Party) (t : Tel) (a : Option Handle) : s.sendParty p t a = { s with
    links := (s.sendParty p t a).links, shuttles := (s.sendParty p t a).shuttles
    work := { s.work with raises := (s.sendParty p t a).work.raises } } := by
  cases p with
  | shuttle n =>
    have h := sendShuttle_keeps s n t a
    unfold sendParty
    dsimp only
    generalize s.sendShuttle n t a = u at h ⊢
    rw [h]
  | lift x =>
    have h := sendLift_keeps s x t
    unfold sendParty
    dsimp only
    generalize s.sendLift x t = u at h ⊢
    rw [h]

/-- A NOTICE is kept with the store line alone (R131). -/
theorem makeNotice_keeps (s : State) : s.makeNotice = { s with store := s.makeNotice.store } := by
  unfold makeNotice
  split
  · rfl
  · dsimp only
    split <;> rfl

/-- A flag is kept with the notices, and may make a NOTICE (R190). -/
theorem handFlag_keeps (s : State) (f : Flag) :
    s.handFlag f = { s with store := (s.handFlag f).store, notices := (s.handFlag f).notices } := by
  unfold handFlag
  dsimp only
  split
  · rw [makeNotice_keeps]
  · rfl

theorem setMode_keeps (s : State) (m : Mode) : s.setMode m = { s with
    store := (s.setMode m).store, notices := (s.setMode m).notices, modeCtl := (s.setMode m).modeCtl } := by
  unfold setMode
  rw [handFlag_keeps]

theorem checkDrain_keeps (s : State) : s.checkDrain = { s with
    store := s.checkDrain.store, notices := s.checkDrain.notices, modeCtl := s.checkDrain.modeCtl } := by
  unfold checkDrain
  split
  · exact setMode_keeps _ _
  · rfl

theorem foldl_streams_eq {α : Type} {f : State → α → State} (hf : ∀ s a, f s a = { s with streams := (f s a).streams })
    (l : List α) (s : State) : l.foldl f s = { s with streams := (l.foldl f s).streams } := by
  induction l generalizing s with
  | nil => rfl
  | cons a l ih =>
    rw [List.foldl_cons, ih, hf s a]

end Sys2Proof.Machine.State

/-! ## Grants, holds and confirmations (O25) -/

namespace Sys2Proof.Machine

namespace State

/-! ### Claims taken (R8, R37) -/

section
variable {h : Handle} {k : Kind} {items : List Item} {n : Level} {c : SlotCode}

theorem slot_takeClaim_ne (s : State) {m : Level} {d : SlotCode} (hne : (m, d) ≠ (n, c)) (q : Claim) :
    (s.takeClaim m d q).slot n c = s.slot n c := by
  unfold takeClaim
  split
  · exact slot_setSlot_ne _ _ _ _ _ _ hne
  all_goals rfl

theorem slot_takeClaim_self {s : State} {content : Option Content} (hs : s.slot n c = .opened content none) (q : Claim) :
    (s.takeClaim n c q).slot n c = .opened content (some q) := by
  unfold takeClaim
  rw [hs]
  exact slot_setSlot_self _ _ _ _

/-- A slot that no item names stays as it was. -/
theorem slot_takeClaims_of_not_named (s : State) (hn : ∀ i ∈ items, i.slot ≠ some (n, c)) :
    (s.takeClaims h k items).slot n c = s.slot n c := by
  induction items generalizing s with
  | nil => rfl
  | cons i items ih =>
    have hrest := fun u : State => ih u fun j hj => hn j (List.mem_cons_of_mem _ hj)
    cases hi : i.slot with
    | none => rw [takeClaims_cons_none _ _ _ _ hi, hrest]
    | some a =>
      obtain ⟨m, d⟩ := a
      rw [takeClaims_cons_some _ _ _ _ hi, hrest]
      exact slot_takeClaim_ne s (fun heq => hn i (List.mem_cons_self ..) (hi.trans (congrArg some heq))) _

/-- A granted slot that was OPEN and unclaimed takes the claim of its item. -/
theorem slot_takeClaims_of_named {s : State} (hd : (items.filterMap (fun i => i.slot)).Nodup) {i : Item} (hi : i ∈ items)
    {content : Option Content} (hslot : i.slot = some (n, c)) (hs : s.slot n c = .opened content none) :
    (s.takeClaims h k items).slot n c = .opened content (some ⟨k, h, i.tote.id⟩) := by
  induction items generalizing s with
  | nil => contradiction
  | cons j items ih =>
    rcases List.mem_cons.mp hi with rfl | hmem
    · rw [List.filterMap_cons_some hslot, List.nodup_cons] at hd
      rw [takeClaims_cons_some _ _ _ _ hslot, slot_takeClaims_of_not_named, slot_takeClaim_self hs]
      exact fun q hq hqs => hd.1 (List.mem_filterMap.mpr ⟨q, hq, hqs⟩)
    · cases hj : j.slot with
      | none =>
        rw [List.filterMap_cons_none hj] at hd
        rw [takeClaims_cons_none _ _ _ _ hj]
        exact ih hd hmem hs
      | some a =>
        obtain ⟨m, d⟩ := a
        rw [List.filterMap_cons_some hj, List.nodup_cons] at hd
        rw [takeClaims_cons_some _ _ _ _ hj]
        have hne : (m, d) ≠ (n, c) := fun heq => hd.1 (List.mem_filterMap.mpr ⟨i, hmem, hslot.trans (congrArg some heq.symm)⟩)
        exact ih hd.2 hmem ((slot_takeClaim_ne s hne _).trans hs)

end

/-! ### Pledges (R85) -/

/-- The release entries of the totes of items, in streams 1 to 16, pledged or not (R85). -/
def setPledges (s : State) (b : Bool) (items : List Item) : State :=
  items.foldl (fun s i => match toteStream i.tote with
    | some k => if k = 0 then s else s.changeRel k i.tote.id (fun e => { e with pledged := b })
    | none => s) s

theorem pledge_eq (s : State) (items : List Item) : s.pledge items = s.setPledges true items := rfl

theorem unpledge_eq (s : State) (items : List Item) : s.unpledge items = s.setPledges false items := rfl

theorem setPledges_keeps (s : State) (b : Bool) (items : List Item) :
    s.setPledges b items = { s with streams := (s.setPledges b items).streams } := by
  refine foldl_streams_eq (fun s i => ?_) items s
  split
  · split <;> rfl
  · rfl

theorem setPledges_cons (s : State) (b : Bool) (j : Item) (items : List Item) :
    s.setPledges b (j :: items) = (s.setPledges b [j]).setPledges b items := rfl

theorem stream_changeRel (s : State) (i k : StreamNo) (id : ToteId) (f : RelEntry → RelEntry) :
    (s.changeRel k id f).stream i = { s.stream i with
      list := (s.stream i).list.map (fun r => if i = k ∧ r.id = id then f r else r) } := by
  unfold changeRel
  dsimp only
  by_cases hik : i = k
  · subst hik
    simp
  · rw [stream_setStream_ne _ _ _ _ (Ne.symm hik)]
    simp [hik]

theorem stream_setPledges_single (s : State) (b : Bool) (j : Item) (i : StreamNo) :
    (s.setPledges b [j]).stream i = { s.stream i with list := (s.stream i).list.map (fun r =>
      if i ≠ 0 ∧ j.tote.id = r.id ∧ j.tote.stream.toNat = i.val then { r with pledged := b } else r) } := by
  have unchanged (h : ¬ (i ≠ 0 ∧ j.tote.stream.toNat = i.val)) : s.stream i = { s.stream i with list := (s.stream i).list.map (fun r =>
      if i ≠ 0 ∧ j.tote.id = r.id ∧ j.tote.stream.toNat = i.val then { r with pledged := b } else r) } := by
    have hid : (fun r : RelEntry => if i ≠ 0 ∧ j.tote.id = r.id ∧ j.tote.stream.toNat = i.val then { r with pledged := b } else r)
        = id := funext fun r => if_neg fun ⟨h0, _, hs⟩ => h ⟨h0, hs⟩
    rw [hid, List.map_id]
  unfold setPledges
  rw [List.foldl_cons, List.foldl_nil]
  split
  next k hk =>
    have hk' := (toteStream_eq_some_iff _ _).mp hk
    split
    next h0 => exact unchanged fun ⟨hi, hs⟩ => hi (by rw [← h0]; exact Fin.ext (hs.symm.trans hk'))
    next h0 =>
      rw [stream_changeRel]
      refine congrArg (fun l => { s.stream i with list := l }) (List.map_congr_left fun r _ => ?_)
      refine if_congr ?_ rfl rfl
      constructor
      · rintro ⟨rfl, hid⟩
        exact ⟨h0, hid.symm, hk'⟩
      · rintro ⟨-, hid, hs⟩
        exact ⟨Fin.ext (hs.symm.trans hk'), hid.symm⟩
  next hnone => exact unchanged fun ⟨_, hs⟩ => Option.some_ne_none _ (((toteStream_eq_some_iff _ _).mpr hs).symm.trans hnone)

/-- The pledges of totes, stream by stream (R85). -/
theorem stream_setPledges (s : State) (b : Bool) (items : List Item) (i : StreamNo) :
    (s.setPledges b items).stream i = { s.stream i with list := (s.stream i).list.map (fun r =>
      if i ≠ 0 ∧ ∃ j ∈ items, j.tote.id = r.id ∧ j.tote.stream.toNat = i.val then { r with pledged := b } else r) } := by
  induction items generalizing s with
  | nil => simp [setPledges]
  | cons j items ih =>
    rw [setPledges_cons, ih, stream_setPledges_single]
    dsimp only
    rw [List.map_map]
    refine congrArg (fun l => { s.stream i with list := l }) (List.map_congr_left fun r _ => ?_)
    rw [Function.comp_apply]
    by_cases hj : i ≠ 0 ∧ j.tote.id = r.id ∧ j.tote.stream.toNat = i.val
    · have hex : i ≠ 0 ∧ ∃ q ∈ j :: items, q.tote.id = r.id ∧ q.tote.stream.toNat = i.val := ⟨hj.1, j, List.mem_cons_self .., hj.2⟩
      rw [if_pos hj, if_pos hex]
      split <;> rfl
    · rw [if_neg hj]
      refine if_congr (and_congr_right fun h0 => ?_) rfl rfl
      simp only [List.exists_mem_cons_iff, or_iff_right fun h => hj ⟨h0, h⟩]

/-! ### CONFIRM-ASKs (R107) -/

/-- CONFIRM-ASKs one after the other: those that find a place join the upstream queue, the others stay unsent. What they
say does not depend on the asks before them. -/
theorem foldl_sendConfirmAsk {f : State → Item → Tel} (items : List Item) (s : State)
    (hf : ∀ (u : State) up un i, f { u with store := { u.store with upstream := up }, unsentAsks := un } i = f u i) :
    let asks := (items.filter (fun i => i.conf = .asked)).map (f s)
    let room := 64 - s.upstreamUsed
    items.foldl (fun s i => if i.conf = .asked then s.sendConfirmAsk (f s i) else s) s = { s with
      store := { s.store with upstream := s.store.upstream ++ asks.take room }
      unsentAsks := s.unsentAsks ++ asks.drop room } := by
  induction items generalizing s with
  | nil => simp
  | cons i items ih =>
    intro asks room
    rw [List.foldl_cons, ih]
    by_cases hi : i.conf = .asked
    · have hasks : asks = f s i :: (items.filter (fun i => i.conf = .asked)).map (f s) :=
        congrArg (List.map (f s)) (List.filter_cons_of_pos (p := fun i : Item => decide (i.conf = .asked)) (decide_eq_true hi))
      rw [if_pos hi, hasks]
      by_cases hfree : s.upstreamUsed < 64
      · have hroom : room = (63 - s.upstreamUsed) + 1 := by show 64 - _ = _; omega
        have hused : (s.pushUpstream (f s i)).upstreamUsed = s.upstreamUsed + 1 := by
          unfold upstreamUsed pushUpstream
          rw [List.length_append, List.length_singleton]
          exact Nat.add_right_comm _ _ _
        have hsame : f (s.pushUpstream (f s i)) = f s := funext fun j => hf s _ _ j
        rw [sendConfirmAsk, if_pos (placeFree_of_lt hfree), hused, hroom, hsame, List.take_succ_cons, List.drop_succ_cons,
          show 64 - (s.upstreamUsed + 1) = 63 - s.upstreamUsed by omega]
        simp only [pushUpstream, List.append_assoc, List.singleton_append]
      · have hroom : room = 0 := by show 64 - _ = _; omega
        have hsame : f { s with unsentAsks := s.unsentAsks ++ [f s i] } = f s := funext fun j => hf s s.store.upstream _ j
        have hused : ({ s with unsentAsks := s.unsentAsks ++ [f s i] } : State).upstreamUsed = s.upstreamUsed := rfl
        rw [sendConfirmAsk, if_neg (by rw [placeFree_of_used (not_lt.mp hfree)]; exact Bool.false_ne_true), hsame, hused,
          show 64 - s.upstreamUsed = 0 from hroom, hroom]
        simp only [List.take_zero, List.drop_zero, List.append_nil, List.append_assoc, List.singleton_append]
    · have hasks : asks = (items.filter (fun i => i.conf = .asked)).map (f s) :=
        congrArg (List.map (f s)) (List.filter_cons_of_neg (p := fun i : Item => decide (i.conf = .asked)) (mt of_decide_eq_true hi))
      rw [if_neg hi, hasks]

/-! ### A grant taken apart (R37) -/

/-- The state in which the GO of a grant is sent. -/
def granting (s : State) (h : Handle) (e : Entry) (items : List Item) : State :=
  let u := (s.takeClaims h e.kind items).setEntry h (some (e.granted s.time s.timing items))
  if e.isLiftFetch then u.pledge items else u

theorem granting_keeps (s : State) (h : Handle) (e : Entry) (items : List Item) : s.granting h e items = { s with
    slots := (s.takeClaims h e.kind items).slots
    table := (s.setEntry h (some (e.granted s.time s.timing items))).table
    streams := (s.granting h e items).streams } := by
  unfold granting
  dsimp only
  rw [takeClaims_eq]
  split
  · rw [pledge_eq, setPledges_keeps]
    rfl
  · rfl

theorem grant_eq (s : State) (h : Handle) (e : Entry) (items : List Item) : s.grant h e items =
    ((s.granting h e items).sendParty e.party (s.toward e.party 0x28 e.tag (.go (BitVec.ofNat 8 h.val) e.kind.ask
      (items.filterMap (fun i => i.slot.map (fun a => (a.1, a.2, i.tote.id)))))) (some h)).touch := by
  have hstore : (s.granting h e items).store = s.store := by rw [granting_keeps]
  show State.touch ((s.granting h e items).sendParty e.party ((s.granting h e items).toParty e.party kGo e.tag _) (some h)) = _
  unfold toParty
  rw [hstore]
  rfl

/-- What a grant leaves of everything but the streams and the port of the GO. -/
theorem grant_keeps (s : State) (h : Handle) (e : Entry) (items : List Item) : s.grant h e items = { s with
    slots := (s.takeClaims h e.kind items).slots
    table := (s.setEntry h (some (e.granted s.time s.timing items))).table
    streams := (s.granting h e items).streams
    links := (s.grant h e items).links, shuttles := (s.grant h e items).shuttles, work := (s.grant h e items).work } := by
  rw [grant_eq, sendParty_keeps]
  unfold touch
  dsimp only
  rw [granting_keeps]

/-- The streams after a grant: a lift's FETCH pledges the totes granted (R37, R85). -/
theorem stream_granting (s : State) (h : Handle) (e : Entry) (items : List Item) (i : StreamNo) :
    (s.granting h e items).stream i = if e.isLiftFetch then (s.setPledges true items).stream i else s.stream i := by
  have claimed : ((s.takeClaims h e.kind items).setEntry h (some (e.granted s.time s.timing items))).stream i = s.stream i := by
    rw [takeClaims_eq]
    rfl
  unfold granting
  dsimp only
  split
  · rw [pledge_eq, stream_setPledges, stream_setPledges, claimed]
  · exact claimed

/-- Entry into CONFIRMING: the HOLD, then the CONFIRM-ASKs (R106, R107). -/
theorem enterConfirming_eq (s : State) (h : Handle) (e : Entry) (items : List Item) :
    let u := (s.setEntry h (some { e with phase := .confirming, items := items, timer := s.timing.confirmLimit.zeroExtend 32 })).sendParty
      e.party (s.toward e.party 0x29 e.tag (.hold (BitVec.ofNat 8 h.val) .confirm)) (some h)
    let asks := (items.filter (fun i => i.conf = .asked)).map (fun i => s.upward 0x55 e.tag
      (.confirmAsk (BitVec.ofNat 8 h.val) i.tote.id i.tote.stream e.party.station (s.visitLevelByte e.party)))
    let room := 64 - s.upstreamUsed
    s.enterConfirming h e items = State.touch { u with
      store := { s.store with upstream := s.store.upstream ++ asks.take room }
      unsentAsks := s.unsentAsks ++ asks.drop room } := by
  intro u asks room
  let e' : Entry := { e with phase := .confirming, items := items, timer := s.timing.confirmLimit.zeroExtend 32 }
  have kept : u = { s with
      table := (s.setEntry h (some e')).table
      links := u.links, shuttles := u.shuttles, work := { s.work with raises := u.work.raises } } := sendParty_keeps _ _ _ _
  have hstore : u.store = s.store := (congrArg State.store kept :)
  have hunsent : u.unsentAsks = s.unsentAsks := (congrArg State.unsentAsks kept :)
  have hused : u.upstreamUsed = s.upstreamUsed := by
    show u.store.upstream.length + (if u.work.reserved then 1 else 0) = _
    rw [hstore, congrArg (fun t : State => t.work.reserved) kept]
    rfl
  have hask : u.confirmAskOf h e' = fun i => s.upward 0x55 e.tag
      (.confirmAsk (BitVec.ofNat 8 h.val) i.tote.id i.tote.stream e.party.station (s.visitLevelByte e.party)) := by
    funext i
    unfold confirmAskOf toStore upward visitLevelByte lift
    rw [hstore, congrArg State.coord kept]
    rfl
  have hfold := foldl_sendConfirmAsk (f := fun t i => t.confirmAskOf h e' i) items u (fun _ _ _ _ => rfl)
  dsimp only at hfold
  rw [hused, hask, hstore, hunsent] at hfold
  exact congrArg State.touch hfold

end State

/-- Settles O25: a grant, a hold, and an entry into CONFIRMING, each as one step. -/
theorem grantsHoldsAndConfirmations : Obligations.GrantsHoldsAndConfirmations := by
  unfold Obligations.GrantsHoldsAndConfirmations
  intro s h e items t limit
  have kept := s.grant_keeps h e items
  have htable : t.table = (s.setEntry h (some (e.granted s.time s.timing items))).table := by
    show (s.grant h e items).table = _
    rw [kept]
  have hslots (n : Level) (c : SlotCode) : t.slot n c = (s.takeClaims h e.kind items).slot n c := by
    show (s.grant h e items).slot n c = _
    rw [kept]
    rfl
  refine ⟨?entry, fun k hk => ?others, fun n c hn => ?unnamed, fun hd i hi n c content hslot hs => ?named, (congrArg State.time kept :), (congrArg State.lastExpired kept :),
    (congrArg State.stats kept :), (congrArg State.coord kept :), (congrArg State.modeCtl kept :), (congrArg State.faults kept :), (congrArg State.notices kept :),
    (congrArg State.store kept :), (congrArg State.requests kept :),
    ⟨s.granting h e items, s.grant_eq h e items, ?apart⟩, ?pledged, fun r => ?hold, ?confirming⟩
  case entry =>
    rw [State.entry_of_table htable, State.entry_setEntry_self]
    cases hp : e.party <;> simp only [Entry.granted, limit, hp, actLimit]
  case others => rw [State.entry_of_table htable, State.entry_setEntry_ne _ _ _ _ (Ne.symm hk)]
  case unnamed => rw [hslots, State.slot_takeClaims_of_not_named s hn]
  case named => rw [hslots, State.slot_takeClaims_of_named hd hi hslot hs]
  case apart => rw [State.granting_keeps]
  case pledged =>
    intro lifted i
    have hlifted : e.isLiftFetch = lifted := by
      unfold Entry.isLiftFetch
      cases hp : e.party <;> cases hk : e.kind <;> simp only [lifted, hp, hk]
    have hstream : t.stream i = (s.granting h e items).stream i :=
      (congrArg (fun v : State => v.stream i) kept :)
    rw [hstream, State.stream_granting, hlifted]
    cases lifted with
    | true =>
      rw [if_pos rfl, State.stream_setPledges]
      refine congrArg (fun l => { s.stream i with list := l }) (List.map_congr_left fun r _ => ?_)
      exact if_congr ⟨fun h => ⟨rfl, h⟩, fun h => h.2⟩ rfl rfl
    | false => simp
  case hold =>
    cases hp : e.party <;> simp only [State.hold, State.sendHold, Entry.held, holdLimit, hp] <;> rfl
  case confirming =>
    intro u level
    have hlevel : s.visitLevelByte e.party = level := by
      unfold State.visitLevelByte
      cases hp : e.party with
      | shuttle n => simp only [level, hp]
      | lift x =>
        cases hv : (s.lift x).visit with
        | none => simp only [level, hp, hv]
        | some v => simp only [level, hp, hv, levelByte, byte]
    have hconfirming := s.enterConfirming_eq h e items
    rw [hlevel] at hconfirming
    exact hconfirming

end Sys2Proof.Machine

/-! ## Reports and quits (O26) -/

namespace Sys2Proof.Machine

theorem badCount_of_one_or_two {n : Nat} (h : n = 1 ∨ n = 2) : badCount n = false := by
  rw [Bool.eq_false_iff, ne_eq, badCount_iff]
  omega

/-! ### Late reports (R11, R47) -/

theorem Slot.report_doubt (p : Party) (h : Handle) (id : ToteId) (content : Option Content) (k : ExpiredClaim) (r : Option ToteId) :
    (Slot.doubt content .actTimeout (some k) r).report p h id
      = .doubt content .actTimeout (some k) (if k.party = p ∧ k.handle = h ∧ k.toteId = id then some id else r) := by
  by_cases hk : k.party = p ∧ k.handle = h ∧ k.toteId = id
  · exact (if_pos hk).trans (congrArg _ (if_pos hk).symm)
  · exact (if_neg hk).trans (congrArg _ (if_neg hk).symm)

/-- A late report sets the reported tote of a slot in DOUBT whose expired claim it answers, and of no other slot. -/
theorem Slot.foldl_report_doubt (p : Party) (h : Handle) (ids : List ToteId) (content : Option Content) (k : ExpiredClaim)
    (r : Option ToteId) : ids.foldl (fun (v : Slot) id => v.report p h id) (.doubt content .actTimeout (some k) r)
      = Slot.doubt content .actTimeout (some k) (if k.party = p ∧ k.handle = h ∧ k.toteId ∈ ids then some k.toteId else r) := by
  induction ids generalizing r with
  | nil => simp
  | cons id ids ih =>
    rw [List.foldl_cons, Slot.report_doubt, ih]
    refine congrArg _ ?_
    by_cases hk : k.party = p ∧ k.handle = h ∧ k.toteId = id
    · obtain ⟨hp, hh, hid⟩ := hk
      simp [hp, hh, hid]
    · rw [if_neg hk]
      refine if_congr (and_congr_right fun hp => and_congr_right fun hh => ?_) rfl rfl
      rw [List.mem_cons, or_iff_right fun hid => hk ⟨hp, hh, hid⟩]

/-- A slot that no report can be about stays as it was. -/
theorem Slot.foldl_report_fixed {v : Slot} (p : Party) (h : Handle) (hv : ∀ id, v.report p h id = v) (ids : List ToteId) :
    ids.foldl (fun v id => v.report p h id) v = v := by
  induction ids with
  | nil => rfl
  | cons id ids ih => rw [List.foldl_cons, hv, ih]

theorem slot_reportTotes (s : State) (p : Party) (h : Handle) (ids : List ToteId) (n : Level) (c : SlotCode) :
    (s.reportTotes p h ids).slot n c = ids.foldl (fun v id => v.report p h id) (s.slot n c) :=
  State.slot_vmap s (fun _ _ v => ids.foldl (fun v id => v.report p h id) v) n c

/-! ### Completions judged (R40) -/

section
variable {e : Entry} {k : Kind} {ids : List ToteId}

theorem Entry.accepts_of_granted {g : Stamp} (hg : e.phase = .granted g) (hk : e.kind = k)
    (hids : ∀ id ∈ ids, ∃ i ∈ e.items, i.tote.id = id) : e.accepts k ids = some g := by
  unfold Entry.accepts
  rw [hg]
  exact if_pos ⟨hk, by simpa using hids⟩

theorem Entry.accepts_eq_none (h : e.phase.isGranted = false ∨ e.kind ≠ k ∨ ∃ id ∈ ids, ∀ i ∈ e.items, i.tote.id ≠ id) :
    e.accepts k ids = none := by
  unfold Entry.accepts
  split
  next g hg =>
    refine if_neg fun ⟨hk, hall⟩ => ?_
    rcases h with h | h | ⟨id, hid, hno⟩
    · rw [hg] at h
      exact absurd h (by simp [Phase.isGranted])
    · exact h hk
    · obtain ⟨i, hi, heq⟩ := List.any_eq_true.mp (List.all_eq_true.mp hall id hid)
      exact hno i hi (of_decide_eq_true heq)
  · rfl
  · rfl

end

namespace State

section
variable {s : State} {p : Party} {handle : Byte}

/-- The party's own entry, when the handle names it. -/
theorem entryOf_named {h : Handle} {e : Entry} (he : s.entryOf p = some (h, e)) (hh : handle = BitVec.ofNat 8 h.val) :
    (s.entryOf p).filter (fun x => handleByte x.1 = handle) = some (h, e) := by
  rw [he, Option.filter_some_pos]
  exact decide_eq_true hh.symm

theorem entryOf_not_named (hno : ∀ h e, s.entryOf p = some (h, e) → handle ≠ BitVec.ofNat 8 h.val) :
    (s.entryOf p).filter (fun x => handleByte x.1 = handle) = none := by
  rw [Option.filter_eq_none_iff]
  rintro ⟨h, e⟩ he hh
  exact hno h e he (of_decide_eq_true hh).symm

theorem lastExpired_named {h : Handle} (he : s.lastExpiredOf p = some h) (hh : handle = BitVec.ofNat 8 h.val) :
    (s.lastExpiredOf p).filter (fun h => handleByte h = handle) = some h := by
  rw [he, Option.filter_some_pos]
  exact decide_eq_true hh.symm

theorem lastExpired_not_named (hno : ∀ h, s.lastExpiredOf p = some h → handle ≠ BitVec.ofNat 8 h.val) :
    (s.lastExpiredOf p).filter (fun h => handleByte h = handle) = none := by
  rw [Option.filter_eq_none_iff]
  intro h he hh
  exact hno h he (of_decide_eq_true hh).symm

variable {k : Kind} {tag : Byte} {ids : List ToteId}

theorem judge_of_accepted {h : Handle} {e : Entry} {g : Stamp} (he : s.entryOf p = some (h, e)) (hh : handle = BitVec.ofNat 8 h.val)
    (ha : e.accepts k ids = some g) : s.judge p k tag handle ids = s.complete h e g ids := by
  unfold judge
  simp only [entryOf_named he hh, ha]

theorem judge_of_unaccepted {h : Handle} {e : Entry} (he : s.entryOf p = some (h, e)) (hh : handle = BitVec.ofNat 8 h.val)
    (ha : e.accepts k ids = none) : s.judge p k tag handle ids = s.ungranted p k tag handle := by
  unfold judge
  simp only [entryOf_named he hh, ha]

variable (hno : ∀ h e, s.entryOf p = some (h, e) → handle ≠ BitVec.ofNat 8 h.val)
include hno

theorem judge_of_late {h : Handle} (hl : s.lastExpiredOf p = some h) (hh : handle = BitVec.ofNat 8 h.val) :
    s.judge p k tag handle ids = s.lateReport p k tag h ids := by
  unfold judge
  simp only [entryOf_not_named hno, lastExpired_named hl hh]

theorem judge_of_nothing (hl : ∀ h, s.lastExpiredOf p = some h → handle ≠ BitVec.ofNat 8 h.val) :
    s.judge p k tag handle ids = s.ungranted p k tag handle := by
  unfold judge
  simp only [entryOf_not_named hno, lastExpired_not_named hl]

theorem takeQuit_of_late (hr : s.reportRefusal p = none) {h : Handle} (hl : s.lastExpiredOf p = some h)
    (hh : handle = BitVec.ofNat 8 h.val) : s.takeQuit p tag handle = s.refuse p kQuit .late handle tag none := by
  unfold takeQuit
  simp only [hr, entryOf_not_named hno, lastExpired_named hl hh, Option.isSome_some, if_true]

theorem takeQuit_of_nothing (hr : s.reportRefusal p = none)
    (hl : ∀ h, s.lastExpiredOf p = some h → handle ≠ BitVec.ofNat 8 h.val) :
    s.takeQuit p tag handle = s.refuse p kQuit .noGrant handle tag none := by
  unfold takeQuit
  simp only [hr, entryOf_not_named hno, lastExpired_not_named hl, Option.isSome_none, Bool.false_eq_true, if_false]

end

section
variable {s : State} {p : Party} {tag handle : Byte}

theorem takeQuit_of_refusal {r : Reason} (hr : s.reportRefusal p = some r) :
    s.takeQuit p tag handle = s.refuse p kQuit r handle tag none := by
  unfold takeQuit
  rw [hr]

theorem takeQuit_of_named (hr : s.reportRefusal p = none) {h : Handle} {e : Entry} (he : s.entryOf p = some (h, e))
    (hh : handle = BitVec.ofNat 8 h.val) : s.takeQuit p tag handle = s.removeEntry h e := by
  unfold takeQuit
  simp only [hr, entryOf_named he hh]

variable {k : Kind} {ids : List ToteId}

theorem takeReport_of_refusal {r : Reason} (hr : s.reportRefusal p = some r) :
    s.takeReport p k tag handle ids = s.refuse p k.report r handle tag none := by
  unfold takeReport
  rw [hr]

variable (hr : s.reportRefusal p = none)
include hr

theorem takeReport_of_badCount (hc : ids.length ≠ 1 ∧ ids.length ≠ 2) :
    s.takeReport p k tag handle ids = s.refuse p k.report .badCount 255 tag none := by
  unfold takeReport
  rw [hr, (badCount_iff _).mpr hc]
  rfl

variable (hc : ids.length = 1 ∨ ids.length = 2)
include hc

theorem takeReport_of_badIds (hb : 0 ∈ ids ∨ ¬ ids.Nodup) :
    s.takeReport p k tag handle ids = s.refuse p k.report .badTote 255 tag none := by
  unfold takeReport
  rw [hr, badCount_of_one_or_two hc, (badIds_iff _).mpr hb]
  rfl

theorem takeReport_of_sound (h0 : 0 ∉ ids) (hd : ids.Nodup) :
    s.takeReport p k tag handle ids = s.judge p k tag handle ids := by
  have hb : badIds ids = false := by
    rw [Bool.eq_false_iff, ne_eq, badIds_iff]
    exact fun h => h.elim h0 (· hd)
  unfold takeReport
  rw [hr, badCount_of_one_or_two hc, hb]
  rfl

end

theorem reportRefusal_heard (s : State) (p q : Party) : (s.heard p).reportRefusal q = s.reportRefusal q := by
  cases p <;> rfl

theorem lastExpiredOf_heard (s : State) (p q : Party) : (s.heard p).lastExpiredOf q = s.lastExpiredOf q := by
  cases p <;> rfl

theorem reportRefusal_of_online {s : State} {p : Party} (h : ∀ x, p = .lift x → (s.lift x).presence = .online) :
    s.reportRefusal p = none := by
  cases p with
  | shuttle n => rfl
  | lift x => exact congrArg LiftPresence.refusal (h x rfl)

end State

/-- Settles O26: completions and QUITs in the order in which they are judged, and late reports. -/
theorem reportsAndQuitsAreJudged : Obligations.ReportsAndQuitsAreJudged := by
  unfold Obligations.ReportsAndQuitsAreJudged
  refine ⟨fun s p k tag handle ids hh hlen => ?reports, fun s p tag handle hh => ?quits, fun s p h ids => ⟨rfl, fun n c => ?late⟩⟩
  case reports =>
    intro a code u refused ungranted
    have hcode : k.report = code := by cases k <;> rfl
    have taken {t : State} (ht : u.takeReport p k tag handle ids = t) : exec a s = done t := by
      have hexec : exec a s = done (s.telegram p tag (2 + 4 * ids.length) true (.report k handle ids)) := by cases k <;> rfl
      rw [hexec, telegram_of_hears s p tag _ _ hh hlen]
      exact congrArg done ht
    have refuses {r : Reason} {hd : Byte} : u.refuse p k.report r hd tag none = refused r hd := by
      rw [hcode]
      exact s.refuse_heard p p code r hd tag none
    have hungranted : u.ungranted p k tag handle = ungranted := congrArg (fun t : State => t.raise .ungrantedAct (some p)) refuses
    have late {h : Handle} (hh : handle = BitVec.ofNat 8 h.val) :
        u.lateReport p k tag h ids = ((refused .late handle).reportTotes p h ids).raise .lateReport (some p) := by
      unfold State.lateReport
      rw [show handleByte h = handle from hh.symm, refuses]
    have notOnline {x : Lift} {r : Reason} (hx : p = .lift x) (hp : (s.lift x).presence.refusal = some r) :
        exec a s = done (refused r handle) := by
      refine taken ((State.takeReport_of_refusal ?_).trans refuses)
      rw [s.reportRefusal_heard, hx]
      exact hp
    refine ⟨fun x hx => ⟨fun hp => notOnline hx (congrArg LiftPresence.refusal hp), fun hp => notOnline hx (congrArg LiftPresence.refusal hp)⟩,
      fun hon => ?_⟩
    have hr : u.reportRefusal p = none := (s.reportRefusal_heard p p).trans (State.reportRefusal_of_online hon)
    have hentry : u.entryOf p = s.entryOf p := s.entryOf_heard p p
    have hlast : u.lastExpiredOf p = s.lastExpiredOf p := s.lastExpiredOf_heard p p
    refine ⟨fun hc => taken ((State.takeReport_of_badCount hr hc).trans refuses), fun hc =>
      ⟨fun hb => taken ((State.takeReport_of_badIds hr hc hb).trans refuses), fun h0 hd => ?_⟩⟩
    have judged {t : State} (ht : u.judge p k tag handle ids = t) : exec a s = done t :=
      taken ((State.takeReport_of_sound hr hc h0 hd).trans ht)
    rw [← hentry, ← hlast]
    exact ⟨fun h e he hh => ⟨fun g hg hk hids => judged (State.judge_of_accepted he hh (Entry.accepts_of_granted hg hk hids)),
        fun hno => judged ((State.judge_of_unaccepted he hh (Entry.accepts_eq_none hno)).trans hungranted)⟩,
      fun hno => ⟨fun h hl hh => judged ((State.judge_of_late hno hl hh).trans (late hh)),
        fun hl => judged ((State.judge_of_nothing hno hl).trans hungranted)⟩⟩
  case quits =>
    intro u refused
    have taken {t : State} (ht : u.takeQuit p tag handle = t) : exec (.quit p tag handle) s = done t :=
      congrArg done ((telegram_of_hears s p tag 1 (.quit handle) hh (by decide)).trans ht)
    have refuses {r : Reason} (hq : u.takeQuit p tag handle = u.refuse p kQuit r handle tag none) :
        exec (.quit p tag handle) s = refused r :=
      taken (hq.trans (s.refuse_heard p p 0x24 r handle tag none))
    have notOnline {x : Lift} {r : Reason} (hx : p = .lift x) (hp : (s.lift x).presence.refusal = some r) :
        exec (.quit p tag handle) s = refused r := by
      refine refuses (State.takeQuit_of_refusal ?_)
      rw [s.reportRefusal_heard, hx]
      exact hp
    refine ⟨fun x hx => ⟨fun hp => notOnline hx (congrArg LiftPresence.refusal hp), fun hp => notOnline hx (congrArg LiftPresence.refusal hp)⟩,
      fun hon => ?_⟩
    have hr : u.reportRefusal p = none := (s.reportRefusal_heard p p).trans (State.reportRefusal_of_online hon)
    rw [← show u.entryOf p = s.entryOf p from s.entryOf_heard p p, ← show u.lastExpiredOf p = s.lastExpiredOf p from s.lastExpiredOf_heard p p]
    exact ⟨fun h e he hh => taken (State.takeQuit_of_named hr he hh), fun hno =>
      ⟨fun h hl hh => refuses (State.takeQuit_of_late hno hr hl hh), fun hl => refuses (State.takeQuit_of_nothing hno hr hl)⟩⟩
  case late =>
    rw [slot_reportTotes]
    cases s.slot n c with
    | doubt content cause k r =>
      cases cause with
      | actTimeout =>
        cases k with
        | some k => exact Slot.foldl_report_doubt p h ids content k r
        | none => exact Slot.foldl_report_fixed p h (fun _ => rfl) ids
      | _ => exact Slot.foldl_report_fixed p h (fun _ => rfl) ids
    | _ => exact Slot.foldl_report_fixed p h (fun _ => rfl) ids

end Sys2Proof.Machine

/-! ## Entries are removed (O28) -/

namespace Sys2Proof.Machine

theorem Tel.asksAbout_iff (m : Tel) (h : Handle) :
    m.asksAbout h = true ↔ ∃ id st x l, m.body = .confirmAsk (BitVec.ofNat 8 h.val) id st x l := by
  unfold Tel.asksAbout
  constructor
  · intro hb
    split at hb
    next k id st x l heq => exact ⟨id, st, x, l, by rw [heq, of_decide_eq_true hb]; rfl⟩
    · contradiction
  · rintro ⟨id, st, x, l, heq⟩
    rw [heq]
    exact decide_eq_true rfl

/-! ### Claims given up, and slots sent into DOUBT (R9, R10) -/

/-- A slot where the claim of the entry with this handle has ended; `g` says what becomes of it. -/
def Slot.ended (h : Handle) (g : Option Content → Claim → Slot) : Slot → Slot
  | .opened content (some k) => if k.handle = h then g content k else .opened content (some k)
  | .opened content none => .opened content none
  | .off => .off
  | .doubt content cause k r => .doubt content cause k r
  | .fenced content => .fenced content

/-- A slot whose claim is given up keeps its content (R9). -/
def Slot.unclaim (content : Option Content) (_ : Claim) : Slot := .opened content none

/-- A slot that enters DOUBT keeps its content, and for ACT-TIMEOUT the claim and its party (R10). -/
def Slot.doubted (p : Party) (h : Handle) (cause : DoubtCause) (content : Option Content) (k : Claim) : Slot :=
  .doubt content cause (if cause = .actTimeout then some ⟨p, h, k.kind, k.toteId⟩ else none) none

theorem Slot.ended_if (h : Handle) (g : Option Content → Claim → Slot) (content : Option Content) (k : Claim) (named : Prop)
    [Decidable named] : (if named then (Slot.opened content (some k)).ended h g else .opened content (some k))
      = if k.handle = h ∧ named then g content k else .opened content (some k) := by
  by_cases hk : k.handle = h <;> by_cases hn : named <;> simp [ended, hk, hn]

theorem Slot.ended_unclaim_twice (h : Handle) (v : Slot) : (v.ended h unclaim).ended h unclaim = v.ended h unclaim := by
  cases v with
  | opened content k =>
    cases k with
    | none => rfl
    | some k => by_cases hk : k.handle = h <;> simp [ended, unclaim, hk]
  | _ => rfl

theorem Slot.ended_doubted_twice (p : Party) (h : Handle) (cause : DoubtCause) (v : Slot) :
    (v.ended h (doubted p h cause)).ended h (doubted p h cause) = v.ended h (doubted p h cause) := by
  cases v with
  | opened content k =>
    cases k with
    | none => rfl
    | some k => by_cases hk : k.handle = h <;> simp [ended, doubted, hk]
  | _ => rfl

namespace State

section
variable (s : State) (h : Handle) (p : Party) (cause : DoubtCause) (m n : Level) (d c : SlotCode)

/-- One slot after a write of one slot. -/
theorem slot_setSlot (v : Slot) : (s.setSlot m d v).slot n c = if (m, d) = (n, c) then v else s.slot n c := by
  split
  next heq => cases heq; exact slot_setSlot_self _ _ _ _
  next hne => exact slot_setSlot_ne _ _ _ _ _ _ hne

theorem slot_releaseClaim : (s.releaseClaim m d h).slot n c
    = if (m, d) = (n, c) then (s.slot n c).ended h Slot.unclaim else s.slot n c := by
  unfold releaseClaim
  split
  next content k hk =>
    split
    next hh =>
      rw [slot_setSlot]
      split
      next heq => cases heq; rw [hk]; exact (if_pos hh).symm
      · rfl
    next hh =>
      split
      next heq => cases heq; rw [hk]; exact (if_neg hh).symm
      · rfl
  all_goals
    next hk =>
      split
      next heq => cases heq; rw [hk]; rfl
      · rfl

theorem slot_doubtClaim : (s.doubtClaim m d h p cause).slot n c
    = if (m, d) = (n, c) then (s.slot n c).ended h (Slot.doubted p h cause) else s.slot n c := by
  unfold doubtClaim
  split
  next content k hk =>
    split
    next hh =>
      rw [slot_setSlot]
      split
      next heq => cases heq; rw [hk]; exact (if_pos hh).symm
      · rfl
    next hh =>
      split
      next heq => cases heq; rw [hk]; exact (if_neg hh).symm
      · rfl
  all_goals
    next hk =>
      split
      next heq => cases heq; rw [hk]; rfl
      · rfl

theorem doubtClaim_keeps : s.doubtClaim m d h p cause = { s with slots := (s.doubtClaim m d h p cause).slots } := by
  unfold doubtClaim
  split
  · split <;> rfl
  all_goals rfl

end

/-- A change that items make at their slots: what it makes of a slot it makes once. -/
theorem slot_foldl_items {f : State → Level → SlotCode → State} {g : Slot → Slot} {n : Level} {c : SlotCode} (hg : ∀ v, g (g v) = g v)
    (hf : ∀ (s : State) m d, (f s m d).slot n c = if (m, d) = (n, c) then g (s.slot n c) else s.slot n c) (items : List Item) (s : State) :
    (items.foldl (fun s i => match i.slot with
      | some (m, d) => f s m d
      | none => s) s).slot n c = if ∃ i ∈ items, i.slot = some (n, c) then g (s.slot n c) else s.slot n c := by
  induction items generalizing s with
  | nil => simp
  | cons i items ih =>
    rw [List.foldl_cons, ih]
    by_cases hi : i.slot = some (n, c)
    · have hhere : ∃ j ∈ i :: items, j.slot = some (n, c) := ⟨i, List.mem_cons_self .., hi⟩
      rw [if_pos hhere, hi]
      simp only [hf, if_true, hg, ite_self]
    · have hsame : (match i.slot with
          | some (m, d) => f s m d
          | none => s).slot n c = s.slot n c := by
        split
        next m d hmd => rw [hf, if_neg fun heq => hi (hmd.trans (congrArg some heq))]
        · rfl
      rw [hsame]
      refine if_congr ?_ rfl rfl
      rw [List.exists_mem_cons_iff, or_iff_right hi]

/-- The slots after the claims of items have been given up (R9). -/
theorem slot_releaseClaims (s : State) (h : Handle) (items : List Item) (n : Level) (c : SlotCode) : (s.releaseClaims h items).slot n c
    = if ∃ i ∈ items, i.slot = some (n, c) then (s.slot n c).ended h Slot.unclaim else s.slot n c :=
  slot_foldl_items (f := fun s m d => s.releaseClaim m d h) (Slot.ended_unclaim_twice h) (fun s m d => s.slot_releaseClaim h m n d c) items s

/-- The slots after those that items claim have entered DOUBT (R10). -/
theorem slot_doubtClaims (s : State) (h : Handle) (p : Party) (cause : DoubtCause) (items : List Item) (n : Level) (c : SlotCode) :
    (s.doubtClaims h p cause items).slot n c
      = if ∃ i ∈ items, i.slot = some (n, c) then (s.slot n c).ended h (Slot.doubted p h cause) else s.slot n c :=
  slot_foldl_items (f := fun s m d => s.doubtClaim m d h p cause) (Slot.ended_doubted_twice p h cause)
    (fun s m d => s.slot_doubtClaim h p cause m n d c) items s

theorem doubtClaims_keeps (s : State) (h : Handle) (p : Party) (cause : DoubtCause) (items : List Item) :
    s.doubtClaims h p cause items = { s with slots := (s.doubtClaims h p cause items).slots } := by
  refine foldl_slots_eq (fun s i => ?_) items s
  split
  · exact s.doubtClaim_keeps _ _ _ _ _
  · rfl

/-! ### The automatic return to CONFIG (R162) -/

theorem isEmpty_entries_iff (s : State) : s.entries.isEmpty = true ↔ ∀ k, s.entry k = none := by
  refine ⟨entry_eq_none_of_isEmpty, fun h => List.isEmpty_iff.mpr (List.eq_nil_iff_forall_not_mem.mpr ?_)⟩
  rintro ⟨k, e⟩ hmem
  have he := (s.mem_entries_iff k e).mp hmem
  rw [h k] at he
  contradiction

theorem openVisits_eq_zero_iff (s : State) : s.openVisits = 0 ↔ ∀ x, (s.lift x).visit = none := by
  refine ⟨visit_eq_none_of_openVisits, fun h => ?_⟩
  simp [openVisits, bothLifts, h]

theorem checkDrain_of_last {s : State} (hm : s.mode = .drain) (he : ∀ k, s.entry k = none) (hv : ∀ x, (s.lift x).visit = none) :
    s.checkDrain = s.setMode .config := by
  unfold checkDrain
  exact if_pos ⟨hm, s.isEmpty_entries_iff.mpr he, s.openVisits_eq_zero_iff.mpr hv⟩

theorem checkDrain_of_not_last {s : State} (h : s.mode ≠ .drain ∨ (∃ k, s.entry k ≠ none) ∨ ∃ x, (s.lift x).visit ≠ none) :
    s.checkDrain = s := by
  unfold checkDrain
  refine if_neg fun ⟨hm, he, hv⟩ => ?_
  rcases h with h | ⟨k, h⟩ | ⟨x, h⟩
  · exact h hm
  · exact h (s.isEmpty_entries_iff.mp he k)
  · exact h (s.openVisits_eq_zero_iff.mp hv x)

/-! ### Removal taken apart (R52) -/

/-- The state after an entry has been removed, before the return to CONFIG is looked for. -/
def removed (s : State) (h : Handle) (e : Entry) : State :=
  let u := s.releaseClaims h e.items
  let u := if e.isLiftFetch && e.phase.isGranted then u.unpledge e.items else u
  ((u.dropConfirmAsks h).setEntry h none).wantReeval

theorem removeEntry_eq (s : State) (h : Handle) (e : Entry) : s.removeEntry h e = (s.removed h e).checkDrain := rfl

theorem removed_keeps (s : State) (h : Handle) (e : Entry) : s.removed h e = { s with
    table := (s.setEntry h none).table, slots := (s.releaseClaims h e.items).slots, streams := (s.removed h e).streams
    unsentAsks := s.unsentAsks.filter (fun m => !m.asksAbout h)
    work := { s.work with touched := true, reeval := true } } := by
  unfold removed
  dsimp only
  rw [releaseClaims_eq]
  split
  · rw [unpledge_eq, setPledges_keeps]
    rfl
  · rfl

/-- The streams after a removal: the pledges of a GRANTED lift FETCH end (R52, R85). -/
theorem stream_removed (s : State) (h : Handle) (e : Entry) (i : StreamNo) : (s.removed h e).stream i
    = if e.isLiftFetch && e.phase.isGranted then (s.setPledges false e.items).stream i else s.stream i := by
  have released : (s.releaseClaims h e.items).stream i = s.stream i := by
    rw [releaseClaims_eq]
    rfl
  unfold removed
  dsimp only
  split
  · rw [unpledge_eq]
    show ((s.releaseClaims h e.items).setPledges false e.items).stream i = _
    rw [stream_setPledges, stream_setPledges, released]
  · exact released

/-- A slot after a removal: a claim that the entry owns on a slot of its items goes (R9). -/
theorem slot_removed (s : State) (h : Handle) (e : Entry) (n : Level) (c : SlotCode) : (s.removed h e).slot n c
    = if ∃ i ∈ e.items, i.slot = some (n, c) then (s.slot n c).ended h Slot.unclaim else s.slot n c := by
  rw [← slot_releaseClaims, removed_keeps]
  rfl

theorem coord_removed (s : State) (h : Handle) (e : Entry) : (s.removed h e).coord = s.coord := by rw [removed_keeps]

theorem modeCtl_removed (s : State) (h : Handle) (e : Entry) : (s.removed h e).modeCtl = s.modeCtl := by rw [removed_keeps]

theorem entry_removed (s : State) (h : Handle) (e : Entry) (k : Handle) :
    (s.removed h e).entry k = if k = h then none else s.entry k := by
  rw [entry_of_table (t := s.removed h e) (s := s.setEntry h none) (by rw [removed_keeps])]
  split
  next hk => subst hk; exact entry_setEntry_self _ _ _
  next hk => exact entry_setEntry_ne _ _ _ _ (Ne.symm hk)

end State

/-- Settles O28: what the removal of an entry does, its refusal, and its revocation. -/
theorem entriesAreRemoved : Obligations.EntriesAreRemoved := by
  unfold Obligations.EntriesAreRemoved
  intro s h e
  refine ⟨?removal, fun r => ?refusal, fun p cause items => ⟨s.doubtClaims_keeps h p cause items, fun n c => ?doubts, fun hg => if_pos hg,
    fun hg => if_neg (by rw [hg]; exact Bool.false_ne_true), Phase.isGranted_iff _, fun m => m.asksAbout_iff h⟩⟩
  case removal =>
    intro t lifted
    have kept : t = { s.removed h e with
        store := t.store, notices := t.notices, modeCtl := t.modeCtl } := (s.removed h e).checkDrain_keeps
    have htable : t.table = (s.removed h e).table := (congrArg State.table kept :)
    have hentry (k : Handle) : t.entry k = if k = h then none else s.entry k :=
      (State.entry_of_table htable k).trans (s.entry_removed h e k)
    have hremoved := s.removed_keeps h e
    refine ⟨(hentry h).trans (if_pos rfl), fun k hk => (hentry k).trans (if_neg hk), fun n c => ?_, fun i => ?_,
      (congrArg State.unsentAsks kept :).trans (congrArg State.unsentAsks hremoved),
      (congrArg State.work kept :).trans (congrArg State.work hremoved), ?_⟩
    · have hslot : t.slot n c = (s.removed h e).slot n c := (congrArg (fun u : State => u.slot n c) kept :)
      rw [hslot, State.slot_removed]
      cases s.slot n c with
      | opened content k =>
        cases k with
        | none => exact ite_self _
        | some k => exact (Slot.ended_if h Slot.unclaim content k _).trans (apply_ite (Slot.opened content) _ none (some k)).symm
      | _ => exact ite_self _
    · have hstream : t.stream i = (s.removed h e).stream i := (congrArg (fun u : State => u.stream i) kept :)
      have hlifted : (e.isLiftFetch && e.phase.isGranted) = lifted := by
        unfold Entry.isLiftFetch
        cases hp : e.party <;> cases hk : e.kind <;> simp only [lifted, hp, hk, Bool.true_and, Bool.false_and]
      rw [hstream, State.stream_removed, hlifted]
      cases lifted with
      | true =>
        rw [if_pos rfl, State.stream_setPledges]
        refine congrArg (fun l => { s.stream i with list := l }) (List.map_congr_left fun r _ => ?_)
        exact if_congr ⟨fun h => ⟨rfl, h⟩, fun h => h.2⟩ rfl rfl
      | false => simp
    · intro u
      have hmode : (s.removed h e).mode = s.mode := congrArg ModeCtl.mode (s.modeCtl_removed h e)
      have hlift (x : Lift) : (s.removed h e).lift x = s.lift x := congrArg (fun c => PerLift.get c x) (s.coord_removed h e)
      have hu : u = s.removed h e := by
        show ({ s with
          table := t.table, slots := t.slots, streams := t.streams, unsentAsks := t.unsentAsks, work := t.work } : State) = _
        rw [htable, (congrArg State.slots kept :), (congrArg State.streams kept :), (congrArg State.unsentAsks kept :),
          (congrArg State.work kept :)]
        dsimp only
        rw [hremoved]
      rw [hu]
      refine ⟨fun hm he hv => State.checkDrain_of_last (hmode.trans hm) (fun k => (s.entry_removed h e k).trans ?_)
        fun x => (congrArg LiftRec.visit (hlift x)).trans (hv x), fun hnot => State.checkDrain_of_not_last ?_⟩
      · split
        · rfl
        next hk => exact he k hk
      · rcases hnot with hm | ⟨k, hk, he⟩ | ⟨x, hx⟩
        · exact .inl (hmode ▸ hm)
        · exact .inr (.inl ⟨k, fun hnone => he ((if_neg hk).symm.trans ((s.entry_removed h e k).symm.trans hnone))⟩)
        · exact .inr (.inr ⟨x, fun hnone => hx ((congrArg LiftRec.visit (hlift x)).symm.trans hnone)⟩)
  case refusal => rfl
  case doubts =>
    rw [State.slot_doubtClaims]
    cases s.slot n c with
    | opened content k =>
      cases k with
      | none => exact ite_self _
      | some k =>
        exact Slot.ended_if h (Slot.doubted p h cause) content k _
    | _ => exact ite_self _

end Sys2Proof.Machine

/-! ## Streams that get shorter, and the flags they hand on -/

namespace Sys2Proof.Machine

namespace State

/-- A flag handed on is pending, and the attention output follows (R190, R192). -/
theorem notices_handFlag (s : State) (f : Flag) :
    (s.handFlag f).notices = NoticeUnit.make (s.notices.pending.put f) s.notices.enabled := by
  unfold handFlag
  dsimp only
  split
  · rw [makeNotice_keeps]
  · rfl

/-! ### One list replaced by a shorter one (R88) -/

section
variable (s : State) (i : StreamNo) (l : List RelEntry)

theorem shrinkList_keeps : s.shrinkList i l = { s with
    streams := (s.shrinkList i l).streams, store := (s.shrinkList i l).store, notices := (s.shrinkList i l).notices } := by
  unfold shrinkList
  dsimp only
  split
  · rw [handFlag_keeps]
    rfl
  · rfl

/-- One stream after a write of one stream. -/
theorem stream_setStream_if (j : StreamNo) (v : Stream) : (s.setStream i v).stream j = if j = i then v else s.stream j := by
  split
  next h => subst h; exact stream_setStream_self _ _ _
  next h => exact stream_setStream_ne _ _ _ _ (Ne.symm h)

theorem stream_shrinkList (j : StreamNo) : (s.shrinkList i l).stream j = if j = i then { s.stream i with
    list := l
    lowMarker := (s.stream i).lowMarker || fallsBelow (s.stream i).list.length l.length (s.stream i).row.lowMark }
    else s.stream j := by
  unfold shrinkList
  dsimp only
  split
  next hf =>
    rw [handFlag_keeps, hf, Bool.or_true]
    exact stream_setStream_if _ _ _ _
  next hf =>
    rw [Bool.eq_false_iff.mpr hf, Bool.or_false]
    exact stream_setStream_if _ _ _ _

theorem streamLow_shrinkList : (s.shrinkList i l).notices.pending.streamLow
    = (s.notices.pending.streamLow || fallsBelow (s.stream i).list.length l.length (s.stream i).row.lowMark) := by
  unfold shrinkList
  dsimp only
  split
  next hf => rw [notices_handFlag, hf, Bool.or_true]; rfl
  next hf => rw [Bool.eq_false_iff.mpr hf, Bool.or_false]; rfl

theorem shrinkList_of_no_fall (h : fallsBelow (s.stream i).list.length l.length (s.stream i).row.lowMark = false) :
    s.shrinkList i l = s.setStream i { s.stream i with list := l } := by
  unfold shrinkList
  dsimp only
  exact if_neg (by rw [h]; exact Bool.false_ne_true)

end

theorem fallsBelow_self (n : Nat) (mark : Byte) : fallsBelow n n mark = false := by
  simp [fallsBelow]

/-! ### Fetched totes released (R86, R193) -/

/-- The fetched totes of a stream. -/
def fetchedOf (items : List Item) (i : StreamNo) : List Item := items.filter (fun t => toteStream t.tote = some i)

/-- The release entries of a stream that are left when the fetched totes' are removed. -/
def leftOf (s : State) (items : List Item) (i : StreamNo) : List RelEntry :=
  (s.stream i).list.filter (fun e => !(fetchedOf items i).any (fun t => t.tote.id = e.id))

/-- The list of a stream falls below its low mark by that. -/
def fellOf (s : State) (items : List Item) (i : StreamNo) : Bool :=
  fallsBelow (s.stream i).list.length (s.leftOf items i).length (s.stream i).row.lowMark

/-- A stream whose fetched totes are released. -/
def releasedOf (s : State) (items : List Item) (i : StreamNo) : Stream :=
  { s.stream i with
    list := s.leftOf items i
    lowMarker := (s.stream i).lowMarker || s.fellOf items i
    released := (s.stream i).released + BitVec.ofNat 32 (fetchedOf items i).length }

section
variable {items : List Item} {i : StreamNo} {s : State}

theorem leftOf_of_none (h : fetchedOf items i = []) : s.leftOf items i = (s.stream i).list := by
  unfold leftOf
  rw [h]
  exact List.filter_eq_self.mpr fun _ _ => rfl

theorem fellOf_of_none (h : fetchedOf items i = []) : s.fellOf items i = false := by
  rw [fellOf, leftOf_of_none h]
  exact fallsBelow_self _ _

theorem releasedOf_of_none (h : fetchedOf items i = []) : s.releasedOf items i = s.stream i := by
  rw [releasedOf, leftOf_of_none h, fellOf_of_none h, h]
  simp

theorem releaseFetched_of_none (h : fetchedOf items i = []) : s.releaseFetched i items = s := by
  unfold releaseFetched
  exact if_pos (List.isEmpty_iff.mpr h)

theorem releaseFetched_of_some (h : fetchedOf items i ≠ []) : s.releaseFetched i items =
    (s.shrinkList i (s.leftOf items i)).setStream i (s.releasedOf items i) := by
  have hshrunk := s.stream_shrinkList i (s.leftOf items i) i
  rw [if_pos rfl] at hshrunk
  unfold releaseFetched
  dsimp only
  refine (if_neg (mt List.isEmpty_iff.mp h)).trans ?_
  show (s.shrinkList i (s.leftOf items i)).setStream i { (s.shrinkList i (s.leftOf items i)).stream i with
    released := ((s.shrinkList i (s.leftOf items i)).stream i).released + BitVec.ofNat 32 (fetchedOf items i).length } = _
  rw [hshrunk]
  rfl

variable (s items i)

theorem releaseFetched_keeps : s.releaseFetched i items = { s with
    streams := (s.releaseFetched i items).streams, store := (s.releaseFetched i items).store
    notices := (s.releaseFetched i items).notices } := by
  by_cases h : fetchedOf items i = []
  · rw [releaseFetched_of_none h]
  · rw [releaseFetched_of_some h, shrinkList_keeps]
    rfl

theorem stream_releaseFetched (j : StreamNo) :
    (s.releaseFetched i items).stream j = if j = i then s.releasedOf items i else s.stream j := by
  by_cases h : fetchedOf items i = []
  · rw [releaseFetched_of_none h, releasedOf_of_none h]
    split
    next hj => rw [hj]
    · rfl
  · rw [releaseFetched_of_some h, stream_setStream_if]
    split
    · rfl
    next hj => rw [stream_shrinkList, if_neg hj]

theorem streamLow_releaseFetched :
    (s.releaseFetched i items).notices.pending.streamLow = (s.notices.pending.streamLow || s.fellOf items i) := by
  by_cases h : fetchedOf items i = []
  · rw [releaseFetched_of_none h, fellOf_of_none h, Bool.or_false]
  · rw [releaseFetched_of_some h]
    exact s.streamLow_shrinkList i _

theorem releaseFetched_of_no_fall (h : s.fellOf items i = false) :
    (s.releaseFetched i items).notices = s.notices ∧ (s.releaseFetched i items).store = s.store := by
  by_cases hn : fetchedOf items i = []
  · rw [releaseFetched_of_none hn]
    exact ⟨rfl, rfl⟩
  · rw [releaseFetched_of_some hn, shrinkList_of_no_fall _ _ _ h]
    exact ⟨rfl, rfl⟩

end

/-- What a stream's release looks at is that stream alone. -/
theorem releasedOf_congr {s t : State} {i : StreamNo} (h : t.stream i = s.stream i) (items : List Item) :
    t.releasedOf items i = s.releasedOf items i ∧ t.fellOf items i = s.fellOf items i := by
  have hl : t.leftOf items i = s.leftOf items i := by rw [leftOf, h]; rfl
  have hf : t.fellOf items i = s.fellOf items i := by rw [fellOf, h, hl]; rfl
  exact ⟨by rw [releasedOf, h, hl, hf]; rfl, hf⟩

/-- The streams of a list released one after the other. -/
def releaseThose (s : State) (items : List Item) (l : List StreamNo) : State := l.foldl (fun s i => s.releaseFetched i items) s

theorem releaseAll_eq (s : State) (items : List Item) : s.releaseAll items = s.releaseThose items allStreams.tail := rfl

theorem releaseThose_keeps (s : State) (items : List Item) (l : List StreamNo) : s.releaseThose items l = { s with
    streams := (s.releaseThose items l).streams, store := (s.releaseThose items l).store
    notices := (s.releaseThose items l).notices } := by
  induction l generalizing s with
  | nil => rfl
  | cons i l ih =>
    have h := ih (s.releaseFetched i items)
    show (s.releaseFetched i items).releaseThose items l = { s with
      streams := ((s.releaseFetched i items).releaseThose items l).streams
      store := ((s.releaseFetched i items).releaseThose items l).store
      notices := ((s.releaseFetched i items).releaseThose items l).notices }
    generalize (s.releaseFetched i items).releaseThose items l = u at h ⊢
    rw [h, releaseFetched_keeps]

section
variable {items : List Item} {l : List StreamNo}

theorem stream_releaseThose {s : State} (hl : l.Nodup) (j : StreamNo) :
    (s.releaseThose items l).stream j = if j ∈ l then s.releasedOf items j else s.stream j := by
  induction l generalizing s with
  | nil => rfl
  | cons i l ih =>
    obtain ⟨hi, hl⟩ := List.nodup_cons.mp hl
    refine (ih (s := s.releaseFetched i items) hl).trans ?_
    have hstream := s.stream_releaseFetched items i j
    by_cases hji : j = i
    · subst hji
      rw [if_neg hi, hstream, if_pos rfl, if_pos (List.mem_cons_self ..)]
    · rw [if_neg hji] at hstream
      rw [(releasedOf_congr hstream items).1, hstream]
      exact if_congr (by rw [List.mem_cons, or_iff_right hji]) rfl rfl

theorem streamLow_releaseThose {s : State} (hl : l.Nodup) : (s.releaseThose items l).notices.pending.streamLow
    = (s.notices.pending.streamLow || l.any (fun i => s.fellOf items i)) := by
  induction l generalizing s with
  | nil => exact (Bool.or_false _).symm
  | cons i l ih =>
    obtain ⟨hi, hl⟩ := List.nodup_cons.mp hl
    refine (ih (s := s.releaseFetched i items) hl).trans ?_
    have same (j : StreamNo) (hj : j ∈ l) : (s.releaseFetched i items).fellOf items j = s.fellOf items j := by
      refine (releasedOf_congr ((s.stream_releaseFetched items i j).trans (if_neg ?_)) items).2
      rintro rfl
      exact hi hj
    have hany : l.any (fun j => (s.releaseFetched i items).fellOf items j) = l.any (fun j => s.fellOf items j) := by
      rw [Bool.eq_iff_iff, List.any_eq_true, List.any_eq_true]
      exact exists_congr fun j => and_congr_right fun hj => by rw [same j hj]
    rw [streamLow_releaseFetched, List.any_cons, Bool.or_assoc, hany]

theorem releaseThose_of_no_fall {s : State} (hl : l.Nodup) (h : ∀ i ∈ l, s.fellOf items i = false) :
    (s.releaseThose items l).notices = s.notices ∧ (s.releaseThose items l).store = s.store := by
  induction l generalizing s with
  | nil => exact ⟨rfl, rfl⟩
  | cons i l ih =>
    obtain ⟨hi, hl⟩ := List.nodup_cons.mp hl
    obtain ⟨hn, hs⟩ := s.releaseFetched_of_no_fall items i (h i (List.mem_cons_self ..))
    have hrest := ih (s := s.releaseFetched i items) hl fun j hj => by
      refine (releasedOf_congr ((s.stream_releaseFetched items i j).trans (if_neg ?_)) items).2.trans (h j (List.mem_cons_of_mem _ hj))
      rintro rfl
      exact hi hj
    exact ⟨hrest.1.trans hn, hrest.2.trans hs⟩

end

theorem nodup_tail_allStreams : allStreams.tail.Nodup := (List.nodup_finRange 17).sublist (List.tail_sublist _)

theorem mem_tail_allStreams (i : StreamNo) : i ∈ allStreams.tail ↔ i ≠ 0 := by
  revert i
  decide

end State

end Sys2Proof.Machine

/-! ## The end of a visit, and the counts of one (R69, R70, R162) -/

namespace Sys2Proof.Machine

namespace State

theorem link_sendLift_ne (s : State) {x y : Lift} (h : y ≠ x) (t : Tel) : (s.sendLift x t).link y = s.link y := by
  unfold sendLift
  dsimp only
  split
  · exact link_setLink_ne _ _ _ _ (Ne.symm h)
  · rfl

theorem work_sendLift_of_room {s : State} {x : Lift} (h : (s.link x).down.length < 8) (t : Tel) : (s.sendLift x t).work = s.work := by
  unfold sendLift
  dsimp only
  rw [if_pos (show (s.link x).down.length < Config.liftQueuePlaces from h)]
  rfl

/-! ### The return to CONFIG -/

theorem streamLow_setMode (s : State) (m : Mode) : (s.setMode m).notices.pending.streamLow = s.notices.pending.streamLow := by
  unfold setMode
  rw [notices_handFlag]
  rfl

theorem modeCtl_setMode (s : State) (m : Mode) : (s.setMode m).modeCtl = { s.modeCtl with mode := m, motion := m.permits } := by
  unfold setMode
  rw [handFlag_keeps]

theorem streamLow_checkDrain (s : State) : s.checkDrain.notices.pending.streamLow = s.notices.pending.streamLow := by
  unfold checkDrain
  split
  · exact s.streamLow_setMode _
  · rfl

/-! ### The end of a visit taken apart (R70) -/

/-- The state after the VISIT-END of a visit, before the return to CONFIG is looked for. -/
def visitEnded (s : State) (x : Lift) (tag : Byte) (v : Visit) : State :=
  let u := s.sendLift x (s.toParty (.lift x) kVisitEnd tag (.visit (levelByte v.level) (byte v.p) (byte v.f)))
  u.setLift x { u.lift x with visit := none }

theorem endVisit_of_none {s : State} {x : Lift} (h : (s.lift x).visit = none) (tag : Option Byte) : s.endVisit x tag = s := by
  unfold endVisit
  rw [h]

theorem endVisit_of_some {s : State} {x : Lift} {v : Visit} (h : (s.lift x).visit = some v) (tag : Option Byte) :
    s.endVisit x tag = (s.visitEnded x (tag.getD v.tag) v).checkDrain := by
  unfold endVisit
  rw [h]
  rfl

section
variable (s : State) (x : Lift) (tag : Byte) (v : Visit)

theorem visitEnded_keeps : s.visitEnded x tag v = { s with
    coord := (s.visitEnded x tag v).coord, links := (s.visitEnded x tag v).links
    work := { s.work with raises := (s.visitEnded x tag v).work.raises } } := by
  unfold visitEnded
  dsimp only
  rw [sendLift_keeps]
  rfl

theorem lift_visitEnded (y : Lift) : (s.visitEnded x tag v).lift y = if y = x then { s.lift x with visit := none } else s.lift y := by
  have hlift (t : Tel) (z : Lift) : (s.sendLift x t).lift z = s.lift z := by
    rw [sendLift_keeps]
    rfl
  unfold visitEnded
  dsimp only
  split
  next h => rw [h, lift_setLift_self, hlift]
  next h => rw [lift_setLift_ne _ _ _ _ (Ne.symm h), hlift]

theorem link_visitEnded_ne {y : Lift} (h : y ≠ x) : (s.visitEnded x tag v).link y = s.link y := s.link_sendLift_ne h _

variable {s x} in
theorem work_visitEnded_of_room (h : (s.link x).down.length < 8) : (s.visitEnded x tag v).work = s.work := work_sendLift_of_room h _

end

/-! ### The counts of a visit (R69) -/

/-- The state after a completion has been handed to the lift's visit, before the return to CONFIG is looked for. -/
def counted (s : State) (p : Party) (k : Kind) (n : Nat) : State :=
  match p with
  | .shuttle _ => s
  | .lift x => match (s.lift x).visit with
    | none => s
    | some v =>
      let u := s.setLift x { s.lift x with visit := some (v.lower k n) }
      if ((v.lower k n).p = 0 ∧ (v.lower k n).f = 0) ∨ s.mode = .drain then u.visitEnded x v.tag (v.lower k n) else u

theorem counted_lift_none {s : State} {x : Lift} (h : (s.lift x).visit = none) (k : Kind) (n : Nat) : s.counted (.lift x) k n = s := by
  unfold counted
  simp only [h]

theorem counted_lift_some {s : State} {x : Lift} {v : Visit} (h : (s.lift x).visit = some v) (k : Kind) (n : Nat) :
    s.counted (.lift x) k n =
      if ((v.lower k n).p = 0 ∧ (v.lower k n).f = 0) ∨ s.mode = .drain then
        (s.setLift x { s.lift x with visit := some (v.lower k n) }).visitEnded x v.tag (v.lower k n)
      else s.setLift x { s.lift x with visit := some (v.lower k n) } := by
  unfold counted
  simp only [h]

theorem lift_checkDrain (s : State) (x : Lift) : s.checkDrain.lift x = s.lift x := by
  rw [checkDrain_keeps]
  rfl

/-- A lift with a visit, after a removal: its visit is lowered, and ended when nothing is left of it or in DRAIN. -/
theorem countVisit_checkDrain_some {s : State} {x : Lift} {v : Visit} (h : (s.lift x).visit = some v) (k : Kind) (n : Nat) :
    let u := s.setLift x { s.lift x with visit := some (v.lower k n) }
    s.checkDrain.countVisit (.lift x) k n
      = if ((v.lower k n).p = 0 ∧ (v.lower k n).f = 0) ∨ s.mode = .drain then u.endVisit x none else u := by
  have hsame : s.checkDrain = s := checkDrain_of_not_last (.inr (.inr ⟨x, by rw [h]; exact Option.some_ne_none _⟩))
  unfold countVisit
  rw [hsame]
  simp only [h]
  rfl

/-- The return to CONFIG is looked for once more at the end: it comes to the same. -/
theorem countVisit_checkDrain (s : State) (p : Party) (k : Kind) (n : Nat) :
    s.checkDrain.countVisit p k n = (s.counted p k n).checkDrain := by
  cases p with
  | shuttle m => rfl
  | lift x =>
    cases hv : (s.lift x).visit with
    | none =>
      rw [counted_lift_none hv]
      unfold countVisit
      simp only [lift_checkDrain, hv]
    | some v =>
      rw [counted_lift_some hv, countVisit_checkDrain_some hv]
      dsimp only
      split
      · refine (endVisit_of_some (v := v.lower k n) ?_ none).trans ?_
        · rw [lift_setLift_self]
        · cases k <;> rfl
      next hc =>
        refine (checkDrain_of_not_last (.inl ?_)).symm
        exact fun hm => hc (.inr hm)

section
variable (s : State) (p : Party) (k : Kind) (n : Nat)

theorem counted_keeps : s.counted p k n = { s with
    coord := (s.counted p k n).coord, links := (s.counted p k n).links
    work := { s.work with raises := (s.counted p k n).work.raises } } := by
  cases p with
  | shuttle m => rfl
  | lift x =>
    cases hv : (s.lift x).visit with
    | none => rw [counted_lift_none hv]
    | some v =>
      rw [counted_lift_some hv]
      split
      · rw [visitEnded_keeps]
        rfl
      · rfl

/-- The count changes the visit of the party's own lift alone. -/
theorem lift_counted (y : Lift) : (s.counted p k n).lift y = { s.lift y with visit := ((s.counted p k n).lift y).visit }
    ∧ (p ≠ .lift y → (s.counted p k n).lift y = s.lift y)
    ∧ ((s.lift y).visit = none → (s.counted p k n).lift y = s.lift y)
    ∧ (p = .lift y → s.mode = .drain → ((s.counted p k n).lift y).visit = none) := by
  cases p with
  | shuttle m => exact ⟨rfl, fun _ => rfl, fun _ => rfl, fun h => Party.noConfusion h⟩
  | lift x =>
    cases hv : (s.lift x).visit with
    | none =>
      rw [counted_lift_none hv]
      refine ⟨rfl, fun _ => rfl, fun _ => rfl, fun h _ => ?_⟩
      cases h
      exact hv
    | some v =>
      rw [counted_lift_some hv]
      by_cases hy : y = x
      · subst hy
        refine ⟨?_, fun h => absurd rfl h, fun h => absurd (h.symm.trans hv) (Option.some_ne_none v).symm, fun _ hm => ?_⟩
        · split
          · rw [lift_visitEnded, if_pos rfl, lift_setLift_self]
          · rw [lift_setLift_self]
        · rw [if_pos (.inr hm), lift_visitEnded, if_pos rfl]
      · have hsame : (if ((v.lower k n).p = 0 ∧ (v.lower k n).f = 0) ∨ s.mode = .drain then
            (s.setLift x { s.lift x with visit := some (v.lower k n) }).visitEnded x v.tag (v.lower k n)
            else s.setLift x { s.lift x with visit := some (v.lower k n) }).lift y = s.lift y := by
          split
          · rw [lift_visitEnded, if_neg hy, lift_setLift_ne _ _ _ _ (Ne.symm hy)]
          · rw [lift_setLift_ne _ _ _ _ (Ne.symm hy)]
        exact ⟨by rw [hsame], fun _ => hsame, fun _ => hsame, fun h => absurd (Party.lift.inj h).symm hy⟩

theorem link_counted_ne {y : Lift} (h : p ≠ .lift y) : (s.counted p k n).link y = s.link y := by
  cases p with
  | shuttle m => rfl
  | lift x =>
    have hy : y ≠ x := fun heq => h (congrArg Party.lift heq.symm)
    cases hv : (s.lift x).visit with
    | none => rw [counted_lift_none hv]
    | some v =>
      rw [counted_lift_some hv]
      split
      · exact link_visitEnded_ne _ _ _ _ hy
      · rfl

variable {s p} in
theorem work_counted_of_room (h : ∀ y, p = .lift y → (s.link y).down.length < 8) : (s.counted p k n).work = s.work := by
  cases p with
  | shuttle m => rfl
  | lift x =>
    cases hv : (s.lift x).visit with
    | none => rw [counted_lift_none hv]
    | some v =>
      rw [counted_lift_some hv]
      split
      · exact work_visitEnded_of_room _ _ (h x rfl)
      · rfl

end

end State

end Sys2Proof.Machine

/-! ## Completions (O27) -/

namespace Sys2Proof.Machine

/-- What a completion leaves in the slot of an item (R41, R42). -/
def Kind.leaves (k : Kind) (i : Item) (now : Stamp) : Option Content :=
  match k with
  | .place => some ⟨i.tote, now⟩
  | .fetch => none

/-! ### The items that a completion names -/

section
variable {e : Entry} {ids : List ToteId}

theorem Entry.mem_named {i : Item} (h : i ∈ e.named ids) : i ∈ e.items ∧ i.tote.id ∈ ids := by
  obtain ⟨id, hid, hf⟩ := List.mem_filterMap.mp h
  have : i.tote.id = id := of_decide_eq_true (List.find?_some (p := fun i : Item => decide (i.tote.id = id)) hf)
  exact ⟨List.mem_of_find?_eq_some hf, this ▸ hid⟩

/-- A list whose items have different keys finds each by its own. -/
theorem find?_of_nodup_map {α β : Type} [DecidableEq β] {f : α → β} {l : List α} (hd : (l.map f).Nodup) {a : α} (ha : a ∈ l) :
    l.find? (fun b => f b = f a) = some a := by
  induction l with
  | nil => contradiction
  | cons b l ih =>
    obtain ⟨hb, hd⟩ := List.nodup_cons.mp hd
    rcases List.mem_cons.mp ha with rfl | hmem
    · exact List.find?_cons_of_pos (decide_eq_true rfl)
    · have hne : f b ≠ f a := fun heq => hb (List.mem_map.mpr ⟨a, hmem, heq.symm⟩)
      refine (List.find?_cons_of_neg (p := fun b => decide (f b = f a)) ?_).trans (ih hd hmem)
      exact fun h => hne (of_decide_eq_true h)

theorem Entry.mem_named_iff (hd : (e.items.map (fun i => i.tote.id)).Nodup) (i : Item) :
    i ∈ e.named ids ↔ i ∈ e.items ∧ i.tote.id ∈ ids := by
  refine ⟨Entry.mem_named, fun ⟨hi, hid⟩ => List.mem_filterMap.mpr ⟨i.tote.id, hid, ?_⟩⟩
  exact find?_of_nodup_map (f := fun i : Item => i.tote.id) hd hi

/-- Items in different slots: two that share one are one item. -/
theorem eq_of_slot {l : List Item} (hd : (l.filterMap (fun i => i.slot)).Nodup) {i j : Item} (hi : i ∈ l) (hj : j ∈ l)
    {a : Level × SlotCode} (hia : i.slot = some a) (hja : j.slot = some a) : i = j := by
  induction l with
  | nil => contradiction
  | cons b l ih =>
    have hb {k : Item} (hk : k ∈ l) (hka : k.slot = some a) : b.slot ≠ some a := fun hba => by
      rw [List.filterMap_cons_some hba, List.nodup_cons] at hd
      exact hd.1 (List.mem_filterMap.mpr ⟨k, hk, hka⟩)
    have hrest : (l.filterMap (fun i => i.slot)).Nodup := by
      cases hs : b.slot with
      | none => rwa [List.filterMap_cons_none hs] at hd
      | some c =>
        rw [List.filterMap_cons_some hs, List.nodup_cons] at hd
        exact hd.2
    rcases List.mem_cons.mp hi with rfl | hi'
    · rcases List.mem_cons.mp hj with rfl | hj'
      · rfl
      · exact absurd hia (hb hj' hja)
    · rcases List.mem_cons.mp hj with rfl | hj'
      · exact absurd hja (hb hi' hia)
      · exact ih hrest hi' hj'

end

namespace State

/-! ### Slots filled and emptied -/

theorem moveSlots_keeps (s : State) (k : Kind) (items : List Item) : s.moveSlots k items = { s with slots := (s.moveSlots k items).slots } := by
  refine foldl_slots_eq (fun s i => ?_) items s
  split <;> rfl

theorem moveSlots_cons_some (s : State) (k : Kind) {i : Item} {n : Level} {c : SlotCode} (items : List Item) (hi : i.slot = some (n, c)) :
    s.moveSlots k (i :: items) = (s.setSlot n c (.opened (k.leaves i s.time) none)).moveSlots k items := by
  unfold moveSlots
  rw [List.foldl_cons, hi]
  cases k <;> rfl

theorem moveSlots_cons_none (s : State) (k : Kind) {i : Item} (items : List Item) (hi : i.slot = none) :
    s.moveSlots k (i :: items) = s.moveSlots k items := by
  unfold moveSlots
  rw [List.foldl_cons, hi]

section
variable {k : Kind} {items : List Item} {n : Level} {c : SlotCode}

theorem slot_moveSlots_of_not_named (s : State) (hn : ∀ i ∈ items, i.slot ≠ some (n, c)) :
    (s.moveSlots k items).slot n c = s.slot n c := by
  induction items generalizing s with
  | nil => rfl
  | cons i items ih =>
    have hrest := fun u : State => ih u fun j hj => hn j (List.mem_cons_of_mem _ hj)
    cases hi : i.slot with
    | none => rw [moveSlots_cons_none _ _ _ hi, hrest]
    | some a =>
      obtain ⟨m, d⟩ := a
      rw [moveSlots_cons_some _ _ _ hi, hrest]
      exact slot_setSlot_ne _ _ _ _ _ _ fun heq => hn i (List.mem_cons_self ..) (hi.trans (congrArg some heq))

/-- The slot that an item names is left as that item leaves it, when no other item names it. -/
theorem slot_moveSlots_of_named (s : State) {i : Item} (hi : i ∈ items) (hslot : i.slot = some (n, c))
    (hd : ∀ j ∈ items, j.slot = some (n, c) → j = i) : (s.moveSlots k items).slot n c = .opened (k.leaves i s.time) none := by
  induction items generalizing s with
  | nil => contradiction
  | cons j items ih =>
    have hdrest := fun q hq => hd q (List.mem_cons_of_mem _ hq)
    by_cases hmem : i ∈ items
    · cases hj : j.slot with
      | none => rw [moveSlots_cons_none _ _ _ hj, ih s hmem hdrest]
      | some a =>
        obtain ⟨m, d⟩ := a
        rw [moveSlots_cons_some _ _ _ hj, ih _ hmem hdrest]
        rfl
    · obtain rfl : i = j := (List.mem_cons.mp hi).resolve_right hmem
      rw [moveSlots_cons_some _ _ _ hslot, slot_moveSlots_of_not_named, slot_setSlot_self]
      exact fun q hq hqs => hmem (hdrest q hq hqs ▸ hq)

end

/-! ### Carriages, and totes released -/

/-- The state after a lift has given or taken totes (R41, R42). -/
def carried (s : State) (x : Lift) (k : Kind) (items : List Item) : State :=
  s.setLift x { s.lift x with carriage := carriageAfter (s.lift x).carriage k items }

section
variable (s : State) (p : Party) (k : Kind) (items : List Item)

theorem moveCarriage_shuttle (n : Level) : s.moveCarriage (.shuttle n) k items = s := rfl

theorem moveCarriage_place (x : Lift) : s.moveCarriage (.lift x) .place items = s.carried x .place items := rfl

theorem moveCarriage_fetch (x : Lift) :
    s.moveCarriage (.lift x) .fetch items = (s.carried x .fetch items).releaseThose items allStreams.tail := rfl

theorem moveCarriage_keeps : s.moveCarriage p k items = { s with
    coord := (s.moveCarriage p k items).coord, streams := (s.moveCarriage p k items).streams
    store := (s.moveCarriage p k items).store, notices := (s.moveCarriage p k items).notices } := by
  cases p with
  | shuttle n => rfl
  | lift x =>
    cases k with
    | place => rfl
    | fetch => 
      rw [moveCarriage_fetch, releaseThose_keeps]
      rfl

theorem lift_moveCarriage (y : Lift) : (s.moveCarriage p k items).lift y
    = if p = .lift y then { s.lift y with carriage := carriageAfter (s.lift y).carriage k items } else s.lift y := by
  have carried_lift (x : Lift) : (s.carried x k items).lift y
      = if Party.lift x = .lift y then { s.lift y with carriage := carriageAfter (s.lift y).carriage k items } else s.lift y := by
    split
    next h => cases h; exact lift_setLift_self _ _ _
    next h => exact lift_setLift_ne _ _ _ _ fun heq => h (congrArg Party.lift heq)
  cases p with
  | shuttle n => exact (if_neg Party.noConfusion).symm
  | lift x =>
    cases k with
    | place => exact carried_lift x
    | fetch =>
      rw [moveCarriage_fetch, releaseThose_keeps]
      exact carried_lift x


theorem moveCarriage_of_lifted {e : Entry} (h : e.isLiftFetch = true) : ∃ x, s.moveCarriage e.party e.kind items
    = (s.carried x .fetch items).releaseThose items allStreams.tail := by
  unfold Entry.isLiftFetch at h
  cases hp : e.party with
  | shuttle n => simp only [hp] at h; contradiction
  | lift x =>
    cases hk : e.kind with
    | place => simp only [hp, hk] at h; contradiction
    | fetch => exact ⟨x, rfl⟩

theorem moveCarriage_of_not_lifted {e : Entry} (h : e.isLiftFetch = false) : s.moveCarriage e.party e.kind items
    = { s with coord := (s.moveCarriage e.party e.kind items).coord } := by
  unfold Entry.isLiftFetch at h
  cases hp : e.party with
  | shuttle n => rfl
  | lift x =>
    cases hk : e.kind with
    | place => rfl
    | fetch => simp only [hp, hk] at h; contradiction

/-- What an entry's completion releases of a stream (R86, R193). -/
def releasing (e : Entry) (items : List Item) (i : StreamNo) : List Item :=
  if e.isLiftFetch = true ∧ i ≠ 0 then fetchedOf items i else []

theorem stream_moveCarriage (e : Entry) (i : StreamNo) : (s.moveCarriage e.party e.kind items).stream i
    = if e.isLiftFetch = true ∧ i ≠ 0 then s.releasedOf items i else s.stream i := by
  by_cases h : e.isLiftFetch = true
  · obtain ⟨x, hx⟩ := s.moveCarriage_of_lifted items h
    rw [hx, stream_releaseThose nodup_tail_allStreams, (releasedOf_congr (t := s.carried x .fetch items) (s := s) rfl items).1]
    exact if_congr (by rw [mem_tail_allStreams]; exact (and_iff_right h).symm) rfl rfl
  · rw [if_neg fun hi => h hi.1, s.moveCarriage_of_not_lifted items (Bool.eq_false_iff.mpr h)]
    rfl

theorem streamLow_moveCarriage (e : Entry) : (s.moveCarriage e.party e.kind items).notices.pending.streamLow = true
    ↔ s.notices.pending.streamLow = true ∨ ∃ i, (e.isLiftFetch = true ∧ i ≠ 0) ∧ s.fellOf items i = true := by
  by_cases h : e.isLiftFetch = true
  · obtain ⟨x, hx⟩ := s.moveCarriage_of_lifted items h
    have hfell : (s.carried x .fetch items).fellOf items = s.fellOf items := rfl
    rw [hx, streamLow_releaseThose nodup_tail_allStreams, Bool.or_eq_true, List.any_eq_true, hfell]
    refine or_congr Iff.rfl (exists_congr fun i => and_congr_left fun _ => ?_)
    rw [mem_tail_allStreams]
    exact (and_iff_right h).symm
  · rw [s.moveCarriage_of_not_lifted items (Bool.eq_false_iff.mpr h)]
    exact (or_iff_left fun ⟨_, ⟨hl, _⟩, _⟩ => h hl).symm

theorem moveCarriage_of_no_fall {e : Entry} (hf : ∀ i, e.isLiftFetch = true → i ≠ 0 → s.fellOf items i = false) :
    (s.moveCarriage e.party e.kind items).notices = s.notices ∧ (s.moveCarriage e.party e.kind items).store = s.store := by
  by_cases h : e.isLiftFetch = true
  · obtain ⟨x, hx⟩ := s.moveCarriage_of_lifted items h
    rw [hx]
    exact releaseThose_of_no_fall (s := s.carried x .fetch items) nodup_tail_allStreams fun i hi =>
      hf i h ((mem_tail_allStreams i).mp hi)
  · rw [s.moveCarriage_of_not_lifted items (Bool.eq_false_iff.mpr h)]
    exact ⟨rfl, rfl⟩

end

/-! ### A completion taken apart -/

/-- The state in which a completed entry is removed (R41 to R43, R53). -/
def moved (s : State) (e : Entry) (g : Stamp) (ids : List ToteId) : State :=
  ((s.moveSlots e.kind (e.named ids)).moveCarriage e.party e.kind (e.named ids)).enterStat e.party (age s.time g)

/-- The state after a completion, before the return to CONFIG is looked for. -/
def completing (s : State) (h : Handle) (e : Entry) (g : Stamp) (ids : List ToteId) : State :=
  ((s.moved e g ids).removed h e).counted e.party e.kind ids.length

section
variable (s : State) (h : Handle) (e : Entry) (g : Stamp) (ids : List ToteId)

theorem complete_eq_countVisit :
    s.complete h e g ids = ((s.moved e g ids).removeEntry h e).countVisit e.party e.kind ids.length := by
  have htime : ((s.moveSlots e.kind (e.named ids)).moveCarriage e.party e.kind (e.named ids)).time = s.time := by
    rw [moveCarriage_keeps, moveSlots_keeps]
  unfold complete
  dsimp only
  rw [htime]
  rfl

theorem complete_eq : s.complete h e g ids = (s.completing h e g ids).checkDrain := by
  rw [complete_eq_countVisit, removeEntry_eq, countVisit_checkDrain]
  rfl

theorem moved_keeps : s.moved e g ids = { s with
    slots := (s.moveSlots e.kind (e.named ids)).slots, stats := (s.moved e g ids).stats
    coord := (s.moved e g ids).coord, streams := (s.moved e g ids).streams
    store := (s.moved e g ids).store, notices := (s.moved e g ids).notices } := by
  unfold moved enterStat
  rw [moveCarriage_keeps, moveSlots_keeps]

/-- What a completion leaves as it was, but for the return to CONFIG. -/
theorem completing_keeps : s.completing h e g ids = { s with
    table := (s.setEntry h none).table, slots := ((s.moved e g ids).releaseClaims h e.items).slots
    stats := (s.moved e g ids).stats, coord := (s.completing h e g ids).coord, links := (s.completing h e g ids).links
    streams := ((s.moved e g ids).removed h e).streams, store := (s.moved e g ids).store
    unsentAsks := s.unsentAsks.filter (fun m => !m.asksAbout h), notices := (s.moved e g ids).notices
    work := { s.work with touched := true, reeval := true, raises := (s.completing h e g ids).work.raises } } := by
  have htable : ((s.moved e g ids).setEntry h none).table = (s.setEntry h none).table := by
    rw [moved_keeps]
    rfl
  have hunsent : (s.moved e g ids).unsentAsks = s.unsentAsks := by rw [moved_keeps]
  have hkeep := ((s.moved e g ids).removed h e).counted_keeps e.party e.kind ids.length
  change s.completing h e g ids = _ at hkeep
  generalize s.completing h e g ids = u at hkeep ⊢
  rw [hkeep, removed_keeps, htable, hunsent]
  dsimp only
  have hm := s.moved_keeps e g ids
  generalize (s.moved e g ids).releaseClaims h e.items = r
  generalize (s.moved e g ids).removed h e = q
  rw [hm]

theorem entry_completing (k : Handle) : (s.completing h e g ids).entry k = if k = h then none else s.entry k := by
  rw [entry_of_table (t := s.completing h e g ids) (s := s.setEntry h none) (by rw [completing_keeps])]
  split
  next hk => subst hk; exact entry_setEntry_self _ _ _
  next hk => exact entry_setEntry_ne _ _ _ _ (Ne.symm hk)

theorem slot_completing (n : Level) (c : SlotCode) : (s.completing h e g ids).slot n c
    = if ∃ i ∈ e.items, i.slot = some (n, c) then ((s.moveSlots e.kind (e.named ids)).slot n c).ended h Slot.unclaim
      else (s.moveSlots e.kind (e.named ids)).slot n c := by
  have hmoved : (s.moved e g ids).slot n c = (s.moveSlots e.kind (e.named ids)).slot n c := by
    rw [moved_keeps]
    rfl
  rw [← hmoved, ← slot_releaseClaims, completing_keeps]
  rfl

theorem stats_completing : (s.completing h e g ids).stats
    = s.stats.set e.party.idx ((s.stats[e.party.idx]).enter (s.time - g)) := by
  have hstats : ((s.moveSlots e.kind (e.named ids)).moveCarriage e.party e.kind (e.named ids)).stats = s.stats := by
    rw [moveCarriage_keeps, moveSlots_keeps]
  rw [completing_keeps]
  show ((s.moveSlots e.kind (e.named ids)).moveCarriage e.party e.kind (e.named ids)).stats.set e.party.idx
    ((((s.moveSlots e.kind (e.named ids)).moveCarriage e.party e.kind (e.named ids)).stats[e.party.idx]).enter (age s.time g)) = _
  rw [hstats]
  rfl

/-- The lifts before the completion is handed to a visit. -/
theorem lift_removed_moved (y : Lift) : ((s.moved e g ids).removed h e).lift y
    = if e.party = .lift y then { s.lift y with carriage := carriageAfter (s.lift y).carriage e.kind (e.named ids) } else s.lift y := by
  have hlift (z : Lift) : (s.moveSlots e.kind (e.named ids)).lift z = s.lift z := by
    rw [moveSlots_keeps]
    rfl
  rw [← hlift, ← lift_moveCarriage, removed_keeps]
  rfl

theorem carriage_completing (y : Lift) : ((s.completing h e g ids).lift y).carriage
    = if e.party = .lift y then carriageAfter (s.lift y).carriage e.kind (e.named ids) else (s.lift y).carriage := by
  have hc := congrArg LiftRec.carriage (((s.moved e g ids).removed h e).lift_counted e.party e.kind ids.length y).1
  refine hc.trans ?_
  show (((s.moved e g ids).removed h e).lift y).carriage = _
  rw [lift_removed_moved]
  split <;> rfl

theorem lift_completing_of_other {y : Lift} (hy : e.party ≠ .lift y) : (s.completing h e g ids).lift y = s.lift y :=
  ((((s.moved e g ids).removed h e).lift_counted e.party e.kind ids.length y).2.1 hy).trans
    ((s.lift_removed_moved h e g ids y).trans (if_neg hy))

theorem visit_removed_moved (y : Lift) : (((s.moved e g ids).removed h e).lift y).visit = (s.lift y).visit := by
  rw [lift_removed_moved]
  split <;> rfl

theorem link_removed_moved (y : Lift) : ((s.moved e g ids).removed h e).link y = s.link y := by
  rw [removed_keeps, moved_keeps]
  rfl

theorem modeCtl_removed_moved : ((s.moved e g ids).removed h e).modeCtl = s.modeCtl := by
  rw [removed_keeps, moved_keeps]

/-- The streams after a completion: the totes it names released, the pledges of a GRANTED lift FETCH ended. -/
theorem stream_completing (i : StreamNo) : (s.completing h e g ids).stream i
    = if e.isLiftFetch && e.phase.isGranted then ((s.moved e g ids).setPledges false e.items).stream i
      else (s.moved e g ids).stream i := by
  rw [← stream_removed, completing_keeps]
  rfl

theorem stream_moved (i : StreamNo) : (s.moved e g ids).stream i
    = if e.isLiftFetch = true ∧ i ≠ 0 then s.releasedOf (e.named ids) i else s.stream i := by
  have hstream (j : StreamNo) : (s.moveSlots e.kind (e.named ids)).stream j = s.stream j := by
    rw [moveSlots_keeps]
    rfl
  rw [← (releasedOf_congr (hstream i) (e.named ids)).1, ← hstream, ← stream_moveCarriage]
  rfl

/-- The return to CONFIG after a completion: in DRAIN, with no other entry left and no visit but the lift's own (R162). -/
theorem complete_of_last (hm : s.mode = .drain) (hentries : ∀ k, k ≠ h → s.entry k = none)
    (hvisits : ∀ y, e.party ≠ .lift y → (s.lift y).visit = none) :
    s.complete h e g ids = (s.completing h e g ids).setMode .config := by
  have hmode : (s.completing h e g ids).mode = .drain := by
    rw [completing_keeps]
    exact hm
  rw [complete_eq]
  refine checkDrain_of_last hmode (fun k => ?_) fun y => ?_
  · rw [entry_completing]
    split
    · rfl
    next hk => exact hentries k hk
  · by_cases hy : e.party = .lift y
    · refine (((s.moved e g ids).removed h e).lift_counted e.party e.kind ids.length y).2.2.2 hy ?_
      show ((s.moved e g ids).removed h e).modeCtl.mode = _
      rw [modeCtl_removed_moved]
      exact hm
    · rw [lift_completing_of_other _ _ _ _ _ hy]
      exact hvisits y hy

theorem complete_of_not_last (hn : s.mode ≠ .drain ∨ ¬ ((∀ k, k ≠ h → s.entry k = none)
    ∧ ∀ y, e.party ≠ .lift y → (s.lift y).visit = none)) : s.complete h e g ids = s.completing h e g ids := by
  have hmode : (s.completing h e g ids).mode = s.mode := by
    rw [completing_keeps]
    rfl
  rw [complete_eq]
  refine checkDrain_of_not_last ?_
  rcases hn with hm | hn
  · exact .inl (hmode ▸ hm)
  · rw [not_and_or] at hn
    push Not at hn
    rcases hn with ⟨k, hk, he⟩ | ⟨y, hy, hv⟩
    · exact .inr (.inl ⟨k, by rw [entry_completing, if_neg hk]; exact he⟩)
    · exact .inr (.inr ⟨y, by rw [lift_completing_of_other _ _ _ _ _ hy]; exact hv⟩)

end

end State

/-- Settles O27: what a completion does to slots, entry, carriage, streams, statistics and visit, and what it leaves. -/
theorem completions : Obligations.Completions := by
  unfold Obligations.Completions
  intro s h e g ids _ hslots hids t
  have kept : t = { s.completing h e g ids with
      store := t.store, notices := t.notices, modeCtl := t.modeCtl } := by
    have hk := (s.completing h e g ids).checkDrain_keeps
    rw [← s.complete_eq h e g ids] at hk
    exact hk
  have hcompleting := s.completing_keeps h e g ids
  have hentry (k : Handle) : t.entry k = if k = h then none else s.entry k :=
    ((congrArg (fun u : State => u.entry k) kept :) : t.entry k = (s.completing h e g ids).entry k).trans (s.entry_completing h e g ids k)
  have hslot (n : Level) (c : SlotCode) : t.slot n c = (s.completing h e g ids).slot n c := (congrArg (fun u : State => u.slot n c) kept :)
  have hlift (y : Lift) : t.lift y = (s.completing h e g ids).lift y := (congrArg (fun u : State => u.lift y) kept :)
  have hwork : t.work = (s.completing h e g ids).work := (congrArg State.work kept :)
  have hlink (y : Lift) : t.link y = (s.completing h e g ids).link y := (congrArg (fun u : State => u.link y) kept :)
  have hcarriage (y : Lift) := (congrArg LiftRec.carriage (hlift y)).trans (s.carriage_completing h e g ids y)
  refine ⟨(hentry h).trans (if_pos rfl), fun k hk => (hentry k).trans (if_neg hk), fun i hi n c hic => ⟨fun hin => ?placed, fun hout content kind id hs => ?freed⟩,
    fun n c hn => ?unnamed, ?stats, fun x hp hk => ?placeCarriage, fun x hp hk => ?fetchCarriage,
    fun n hp x => (hlift x).trans (s.lift_completing_of_other h e g ids (by rw [hp]; exact Party.noConfusion)), ?apart,
    (congrArg State.unsentAsks kept :).trans (congrArg State.unsentAsks hcompleting), ?_, ?_, fun hroom => ?work, fun y hy => ?links,
    ?modes, fun hg => ?streams, fun x hp => ?visits⟩
  case placed =>
    have hin' : i ∈ e.named ids := (Entry.mem_named_iff hids i).mpr ⟨hi, hin⟩
    have hmoved := State.slot_moveSlots_of_named (k := e.kind) s hin' hic fun j hj hjc =>
      eq_of_slot hslots (Entry.mem_named hj).1 hi hjc hic
    rw [hslot, State.slot_completing, if_pos ⟨i, hi, hic⟩, hmoved]
    cases e.kind <;> rfl
  case freed =>
    have hmoved := State.slot_moveSlots_of_not_named (k := e.kind) (items := e.named ids) (n := n) (c := c) s fun j hj hjc =>
      hout (eq_of_slot hslots (Entry.mem_named hj).1 hi hjc hic ▸ (Entry.mem_named hj).2)
    rw [hslot, State.slot_completing, if_pos ⟨i, hi, hic⟩, hmoved, hs]
    exact if_pos rfl
  case unnamed =>
    have hno : ¬ ∃ i ∈ e.items, i.slot = some (n, c) := fun ⟨i, hi, hic⟩ => hn i hi hic
    rw [hslot, State.slot_completing, if_neg hno, State.slot_moveSlots_of_not_named]
    exact fun j hj => hn j (Entry.mem_named hj).1
  case stats =>
    intro d old
    exact ((congrArg State.stats kept :) : t.stats = (s.completing h e g ids).stats).trans (s.stats_completing h e g ids)
  case placeCarriage =>
    rw [hcarriage, if_pos hp, hk]
    refine List.filter_congr fun r _ => ?_
    rw [Bool.eq_iff_iff, Bool.not_eq_true', List.any_eq_false, decide_eq_true_iff]
    simp only [Entry.mem_named_iff hids, decide_eq_true_eq]
    constructor
    · intro hno
      by_cases hr : r.id ∈ ids
      · exact .inr fun i hi heq => hno i ⟨hi, heq ▸ hr⟩ heq
      · exact .inl hr
    · rintro (hr | hr) i ⟨hi, hin⟩ heq
      · exact hr (heq ▸ hin)
      · exact hr i hi heq
  case fetchCarriage =>
    rw [hcarriage, if_pos hp, hk]
    show _ ++ (e.named ids).map (fun i => i.tote) = _
    rw [Entry.named, List.map_filterMap]
  case apart =>
    clear_value t
    rw [kept, hcompleting]
  case work =>
    have hroom' : ∀ y, e.party = .lift y → (((s.moved e g ids).removed h e).link y).down.length < 8 := fun y hy => by
      rw [s.link_removed_moved h e g ids]
      exact hroom y hy
    refine hwork.trans ((State.work_counted_of_room e.kind ids.length hroom').trans ?_)
    rw [State.removed_keeps, State.moved_keeps]
  case links =>
    rw [hlink, ← s.link_removed_moved h e g ids]
    exact State.link_counted_ne _ _ _ _ hy
  case modes =>
    intro last
    refine ⟨fun hm hl => ?_, fun hn => ?_⟩
    · have ht : t = _ := s.complete_of_last h e g ids hm hl.1 hl.2
      rw [show t.mode = t.modeCtl.mode from rfl, ht, State.modeCtl_setMode]
      exact ⟨rfl, rfl⟩
    · have ht : t = _ := s.complete_of_not_last h e g ids hn
      rw [ht, hcompleting]
  case streams =>
    intro lifted taken gone left fell
    have hlifted : e.isLiftFetch = lifted := by
      unfold Entry.isLiftFetch
      cases hp : e.party <;> cases hk : e.kind <;> simp only [lifted, hp, hk]
    have hgone (i : StreamNo) : gone i = if e.isLiftFetch = true ∧ i ≠ 0 then State.fetchedOf (e.named ids) i else [] := by
      split
      next hi =>
        refine List.filter_congr fun j _ => ?_
        simp [← hlifted, hi.1, hi.2, toteStream_eq_some_iff]
      next hi =>
        refine List.filter_eq_nil_iff.mpr fun j _ hj => hi ?_
        rw [← hlifted, Bool.and_eq_true, Bool.and_eq_true, decide_eq_true_eq] at hj
        exact hj.1
    have hleft (i : StreamNo) : left i = if e.isLiftFetch = true ∧ i ≠ 0 then s.leftOf (e.named ids) i else (s.stream i).list := by
      show (s.stream i).list.filter (fun r => decide (∀ j ∈ gone i, j.tote.id ≠ r.id)) = _
      rw [hgone]
      split
      · refine List.filter_congr fun r _ => ?_
        rw [Bool.eq_iff_iff, decide_eq_true_iff, Bool.not_eq_true', List.any_eq_false]
        simp only [decide_eq_true_eq, ne_eq]
      · exact List.filter_eq_self.mpr fun r _ => decide_eq_true (fun j hj => absurd hj List.not_mem_nil)
    have hfell (i : StreamNo) : fell i = if e.isLiftFetch = true ∧ i ≠ 0 then s.fellOf (e.named ids) i else false := by
      show fallsBelow (s.stream i).list.length (left i).length (s.stream i).row.lowMark = _
      rw [hleft]
      split
      · rfl
      · exact State.fallsBelow_self _ _
    have fell_iff (i : StreamNo) : fell i = true ↔ (e.isLiftFetch = true ∧ i ≠ 0) ∧ s.fellOf (e.named ids) i = true := by
      rw [hfell]
      split
      next hi => exact (and_iff_right hi).symm
      next hi => exact ⟨fun h => absurd h Bool.false_ne_true, fun h => absurd h.1 hi⟩
    have hfellMoved (i : StreamNo) : (s.moveSlots e.kind (e.named ids)).fellOf (e.named ids) i = s.fellOf (e.named ids) i := by
      refine (State.releasedOf_congr ?_ _).2
      rw [State.moveSlots_keeps]
      rfl
    refine ⟨fun i => ?_, ?_, fun hno hm => ?_⟩
    · have hrecord : ({ s.stream i with
          list := left i, lowMarker := (s.stream i).lowMarker || fell i
          released := (s.stream i).released + BitVec.ofNat 32 (gone i).length } : Stream) = (s.moved e g ids).stream i := by
        rw [State.stream_moved, hleft, hfell, hgone]
        split
        · rfl
        · simp
      have hstream : t.stream i = (s.completing h e g ids).stream i := (congrArg (fun u : State => u.stream i) kept :)
      have hpledges (X : Stream) : ({ X with list := X.list.map (fun r =>
            if lifted = true ∧ i ≠ 0 ∧ ∃ j ∈ e.items, j.tote.id = r.id ∧ j.tote.stream.toNat = i.val then { r with pledged := false }
            else r) } : Stream) = if e.isLiftFetch = true then { X with list := X.list.map (fun r =>
            if i ≠ 0 ∧ ∃ j ∈ e.items, j.tote.id = r.id ∧ j.tote.stream.toNat = i.val then { r with pledged := false } else r) }
          else X := by
        rw [← hlifted]
        split
        next hl => simp [hl]
        next hl => simp [hl]
      rw [hstream, State.stream_completing, hg, Bool.and_true, State.stream_setPledges, ← hpledges, ← hrecord]
    · have hlow : t.notices.pending.streamLow = (s.completing h e g ids).notices.pending.streamLow := by
        show (s.complete h e g ids).notices.pending.streamLow = _
        rw [State.complete_eq, State.streamLow_checkDrain]
      rw [hlow, hcompleting]
      simp only [fell_iff, ← hfellMoved]
      refine (State.streamLow_moveCarriage _ _ _).trans (or_congr_left ?_)
      rw [State.moveSlots_keeps]
    · have ht : t = _ := s.complete_of_not_last h e g ids (.inl hm)
      obtain ⟨hnotices, hstore⟩ := State.moveCarriage_of_no_fall (s.moveSlots e.kind (e.named ids)) (e.named ids) (e := e)
        fun i hl hi => by
          rw [hfellMoved]
          exact Bool.eq_false_iff.mpr fun hf => Bool.false_ne_true ((hno i).symm.trans ((fell_iff i).mpr ⟨⟨hl, hi⟩, hf⟩))
      rw [ht, hcompleting]
      refine ⟨hnotices.trans ?_, hstore.trans ?_⟩ <;> rw [State.moveSlots_keeps]
  case visits =>
    have hvisit := s.visit_removed_moved h e g ids x
    refine ⟨fun hv => ?_, fun v hv => ?_⟩
    · rw [hlift, State.completing, ((State.lift_counted _ _ _ _ x).2.2.1 (hvisit.trans hv)), hvisit]
      exact hv
    · intro w
      have hw : w = v.lower e.kind ids.length := by cases hk : e.kind <;> simp [w, Visit.lower, hk]
      have hmode : ((s.moved e g ids).removed h e).mode = s.mode := congrArg ModeCtl.mode (s.modeCtl_removed_moved h e g ids)
      let u := ((s.moved e g ids).removed h e).setLift x { ((s.moved e g ids).removed h e).lift x with visit := some w }
      refine ⟨u, congrArg LiftRec.visit (State.lift_setLift_self _ _ _), ?_, hmode, ?_, ?_, ?_⟩
      · have hother : e.party ≠ .lift x.other := by rw [hp]; cases x <;> simp [Lift.other]
        rw [State.lift_setLift_ne _ _ _ _ (by cases x <;> simp [Lift.other]), State.lift_removed_moved, if_neg hother]
      · show ((s.moved e g ids).removed h e).links = _
        rw [State.removed_keeps, State.moved_keeps]
      · show ((s.moved e g ids).removed h e).table = _
        rw [State.removed_keeps]
        show (s.moved e g ids).table.set h none = _
        rw [State.moved_keeps]
      · have ht := State.countVisit_checkDrain_some (hvisit.trans hv) e.kind ids.length
        rw [← State.removeEntry_eq, hmode, ← hw] at ht
        refine Eq.trans ?_ ht
        rw [← hp]
        exact s.complete_eq_countVisit h e g ids
  all_goals rw [hwork, hcompleting]

end Sys2Proof.Machine

/-! ## Sorted lists -/

namespace Sys2Proof.Machine

section
variable {α β : Type} {before : α → α → Bool}

theorem insertBy_perm (x : α) (l : List α) : (insertBy before x l).Perm (x :: l) := by
  induction l with
  | nil => exact .refl _
  | cons y ys ih =>
    unfold insertBy
    split
    · exact (ih.cons y).trans (.swap x y ys)
    · exact .refl _

theorem sortBy_perm (l : List α) : (sortBy before l).Perm l := by
  induction l with
  | nil => exact .refl _
  | cons x xs ih => exact (insertBy_perm x _).trans (ih.cons x)

variable [LinearOrder β] {f : α → β} (hf : ∀ a b, before a b = true ↔ f a < f b)
include hf

theorem insertBy_pairwise {x : α} {l : List α} (h : l.Pairwise (fun a b => f a ≤ f b)) :
    (insertBy before x l).Pairwise (fun a b => f a ≤ f b) := by
  induction l with
  | nil => exact List.pairwise_singleton _ x
  | cons y ys ih =>
    obtain ⟨hy, hys⟩ := List.pairwise_cons.mp h
    unfold insertBy
    split
    next hb =>
      refine List.pairwise_cons.mpr ⟨fun b hmem => ?_, ih hys⟩
      rcases List.mem_cons.mp ((insertBy_perm x ys).mem_iff.mp hmem) with rfl | hmem
      · exact ((hf _ _).mp hb).le
      · exact hy b hmem
    next hb =>
      have hxy : f x ≤ f y := not_lt.mp (mt (hf y x).mpr hb)
      refine List.pairwise_cons.mpr ⟨fun b hmem => ?_, h⟩
      rcases List.mem_cons.mp hmem with rfl | hmem
      · exact hxy
      · exact hxy.trans (hy b hmem)

/-- A list sorted by a key stands in the order of the keys. -/
theorem sortBy_pairwise (l : List α) : (sortBy before l).Pairwise (fun a b => f a ≤ f b) := by
  induction l with
  | nil => exact .nil
  | cons x xs ih => exact insertBy_pairwise hf ih

end

/-! ### Ages (R23) -/

/-- How young a stamp is: what is younger comes later. -/
def youth (now stamp : Stamp) : Nat := 4294967295 - (now - stamp).toNat

theorem youth_lt_iff (now a b : Stamp) : youth now a < youth now b ↔ (now - b).toNat < (now - a).toNat := by
  have ha := (now - a).isLt
  have hb := (now - b).isLt
  unfold youth
  omega

theorem youth_eq_iff (now a b : Stamp) : youth now a = youth now b ↔ a = b := by
  refine ⟨fun h => ?_, fun h => by rw [h]⟩
  have ha := (now - a).isLt
  have hb := (now - b).isLt
  have hages : (now - a).toNat = (now - b).toNat := by
    unfold youth at h
    omega
  exact sub_right_injective (BitVec.eq_of_toNat_eq hages)

end Sys2Proof.Machine

/-! ## The hold queue (O29) -/

namespace Sys2Proof.Machine

/-- What the hold queue is sorted by: the ask stamp, then the party (R23, R49). -/
def holdKey (now : Stamp) (x : Handle × Entry) : ℕ ×ₗ ℕ := toLex (youth now x.2.askStamp, x.2.party.idx.val)

theorem holdBefore_iff (now : Stamp) (a b : Handle × Entry) : holdBefore now a b = true ↔ holdKey now a < holdKey now b := by
  unfold holdKey holdBefore
  rw [Prod.Lex.toLex_lt_toLex, youth_lt_iff, youth_eq_iff]
  by_cases h : a.2.askStamp = b.2.askStamp
  · simp [h]
  · simp [h, older_iff]

theorem station_toNat (p : Party) : p.station.toNat = p.idx.val + 1 := by
  have := p.idx.isLt
  simp only [Party.station, BitVec.toNat_ofNat]
  omega

namespace State
variable (s : State)

/-- The WAITING entries in the order of the hold queue. -/
theorem holdQueue_eq : s.holdQueue = (sortBy (holdBefore s.time) (s.entries.filter (fun x => x.2.isWaiting))).map (fun x => x.1) := rfl

theorem mem_sorted_waiting_iff (h : Handle) (e : Entry) :
    (h, e) ∈ sortBy (holdBefore s.time) (s.entries.filter (fun x => x.2.isWaiting)) ↔ s.entry h = some e ∧ e.isWaiting = true := by
  rw [(sortBy_perm _).mem_iff, List.mem_filter, s.mem_entries_iff]

theorem mem_holdQueue_iff (h : Handle) : h ∈ s.holdQueue ↔ ∃ e r, s.entry h = some e ∧ e.phase = .waiting r := by
  rw [holdQueue_eq, List.mem_map]
  constructor
  · rintro ⟨⟨k, e⟩, hmem, rfl⟩
    obtain ⟨he, hw⟩ := (s.mem_sorted_waiting_iff _ _).mp hmem
    obtain ⟨r, hr⟩ := (isWaiting_iff e).mp hw
    exact ⟨e, r, he, hr⟩
  · rintro ⟨e, r, he, hr⟩
    exact ⟨(h, e), (s.mem_sorted_waiting_iff _ _).mpr ⟨he, (isWaiting_iff e).mpr ⟨r, hr⟩⟩, rfl⟩

theorem nodup_holdQueue : s.holdQueue.Nodup := by
  rw [holdQueue_eq, ((sortBy_perm _).map _).nodup_iff]
  exact s.nodup_handles.sublist (List.filter_sublist.map _)

theorem pairwise_holdQueue : s.holdQueue.Pairwise (fun h k => ∀ e f, s.entry h = some e → s.entry k = some f →
    (s.time - f.askStamp).toNat < (s.time - e.askStamp).toNat
      ∨ (e.askStamp = f.askStamp ∧ e.party.station.toNat ≤ f.party.station.toNat)) := by
  rw [holdQueue_eq, List.pairwise_map]
  refine (sortBy_pairwise (holdBefore_iff s.time) _).imp_of_mem fun {a b} ha hb hle e f he hf => ?_
  obtain rfl : a.2 = e := Option.some.inj (((s.mem_sorted_waiting_iff _ _).mp ha).1.symm.trans he)
  obtain rfl : b.2 = f := Option.some.inj (((s.mem_sorted_waiting_iff _ _).mp hb).1.symm.trans hf)
  rw [holdKey, holdKey, Prod.Lex.toLex_le_toLex, youth_lt_iff, youth_eq_iff] at hle
  rw [station_toNat, station_toNat]
  exact hle.imp id fun ⟨h1, h2⟩ => ⟨h1, Nat.succ_le_succ h2⟩

theorem evalStreams_eq : s.evalStreams = (List.finRange 17).foldl (fun u i => u.evalStream i) s := rfl

/-- What ends an event with changes to pass on, once the streams are evaluated. -/
def passOn : State :=
  let v := if s.work.reeval then s.reevaluate else s
  { v.updateCalls with work := { v.work with touched := false, reeval := false } }

/-- What an event with changes to pass on ends with, the streams evaluated in their order. -/
theorem settle_of_touched (ht : s.work.touched = true) :
    s.settle = ((List.finRange 17).foldl (fun u i => u.evalStream i) s).passOn := by
  unfold settle
  rw [if_pos ht, ← evalStreams_eq]
  generalize s.evalStreams = u
  rfl

theorem settle_of_untouched (ht : s.work.touched = false) : s.settle = s := by
  unfold settle
  rw [ht, if_neg Bool.false_ne_true]

/-! ### One entry evaluated again (R49) -/

section
variable {s : State} {h : Handle} {e : Entry}

theorem reevalEntry_of_not_waiting (hn : ∀ e r, s.entry h = some e → e.phase ≠ .waiting r) : s.reevalEntry h = s := by
  unfold reevalEntry
  split
  · rfl
  next e he =>
    refine if_neg fun hw => ?_
    obtain ⟨r, hr⟩ := (isWaiting_iff e).mp hw
    exact hn e r he hr

variable (he : s.entry h = some e) (hw : e.isWaiting = true)
include he hw

theorem reevalEntry_of_reroute {q : Reason} (hq : s.reroute e = some q) : s.reevalEntry h = s.refuseEntry h e q := by
  unfold reevalEntry
  simp only [he, hw, if_true, hq]

theorem reevalEntry_of_grant (hq : s.reroute e = none) {items : List Item} (hv : s.verdict e = .grant items) :
    s.reevalEntry h = s.grant h e items := by
  unfold reevalEntry
  simp only [he, hw, if_true, hq, hv]

theorem reevalEntry_of_confirm (hq : s.reroute e = none) {items : List Item} (hv : s.verdict e = .confirm items) :
    s.reevalEntry h = s.enterConfirming h e items := by
  unfold reevalEntry
  simp only [he, hw, if_true, hq, hv]

theorem reevalEntry_of_wait (hq : s.reroute e = none) {r : Reason} (hv : s.verdict e = .wait r) :
    s.reevalEntry h = s.setEntry h (some { e with phase := .waiting r }) := by
  unfold reevalEntry
  simp only [he, hw, if_true, hq, hv]

end

theorem reroute_of_place {s : State} {e : Entry} {n : Level} {i : Item} {is : List Item} (hp : e.party = .shuttle n) (hk : e.kind = .place)
    (hi : e.items = i :: is) : s.reroute e = if s.noMappedPair n i.tote then some .badSlot else s.routingFailure i.tote := by
  unfold reroute
  simp only [hp, hk, hi]

theorem reroute_of_fetch {s : State} {e : Entry} (hk : e.kind = .fetch) : s.reroute e = none := by
  unfold reroute
  cases hp : e.party <;> simp only [hk]

theorem reroute_of_lift {s : State} {e : Entry} {x : Lift} (hp : e.party = .lift x) : s.reroute e = none := by
  unfold reroute
  simp only [hp]

end State

/-- Settles O29: the hold queue, its re-evaluation, and what is passed on at the end of an event. -/
theorem holdQueueIsReevaluated : Obligations.HoldQueueIsReevaluated := by
  unfold Obligations.HoldQueueIsReevaluated
  refine ⟨fun s => ⟨s.mem_holdQueue_iff, s.nodup_holdQueue, s.pairwise_holdQueue, fun hm => if_pos hm, fun hm => if_neg hm,
      s.settle_of_untouched, s.settle_of_touched, rfl, rfl⟩,
    fun s h => ⟨State.reevalEntry_of_not_waiting, fun e r he hr => ?again⟩⟩
  case again =>
    have hw : e.isWaiting = true := (State.isWaiting_iff e).mpr ⟨r, hr⟩
    intro decided
    have decides (hq : s.reroute e = none) : decided :=
      ⟨fun items hv => State.reevalEntry_of_grant he hw hq hv, fun items hv => State.reevalEntry_of_confirm he hw hq hv,
        fun q hv => State.reevalEntry_of_wait he hw hq hv⟩
    refine ⟨fun n i is hp hk hi => ?_, fun hk => decides (State.reroute_of_fetch hk), fun x hp => decides (State.reroute_of_lift hp)⟩
    have hroute := State.reroute_of_place (s := s) hp hk hi
    refine ⟨fun hm => State.reevalEntry_of_reroute he hw (hroute.trans (if_pos hm)), fun hm => ?_⟩
    rw [hm, if_neg Bool.false_ne_true] at hroute
    exact ⟨fun q hf => State.reevalEntry_of_reroute he hw (hroute.trans hf), fun hf => decides (hroute.trans hf)⟩

end Sys2Proof.Machine

/-! ## The call queues (O30) -/

namespace Sys2Proof.Machine

/-- What a call queue is sorted by: the key, then the entry stamp, then the level (R74). -/
def callSortKey (now : Stamp) (c : Call) : ℕ ×ₗ (ℕ ×ₗ ℕ) := toLex (c.key.toNat, toLex (youth now c.stamp, c.level.val))

theorem callSortKey_lt_iff (now : Stamp) (c d : Call) : callSortKey now c < callSortKey now d ↔
    c.key.toNat < d.key.toNat ∨ (c.key = d.key
      ∧ ((now - d.stamp).toNat < (now - c.stamp).toNat ∨ (c.stamp = d.stamp ∧ c.level < d.level))) := by
  unfold callSortKey
  rw [Prod.Lex.toLex_lt_toLex, Prod.Lex.toLex_lt_toLex, youth_lt_iff, youth_eq_iff, BitVec.toNat_inj, Fin.lt_def]

theorem callBefore_iff (now : Stamp) (c d : Call) : callBefore now c d = true ↔ callSortKey now c < callSortKey now d := by
  rw [callSortKey_lt_iff]
  unfold callBefore age
  by_cases hk : c.key = d.key
  · by_cases hst : c.stamp = d.stamp
    · simp [hk, hst]
    · simp [hk, hst]
  · simp [hk]

theorem level_eq_of_callSortKey {now : Stamp} {c d : Call} (h : callSortKey now c = callSortKey now d) : c.level = d.level := by
  have hlevels : (ofLex (ofLex (callSortKey now c)).2).2 = (ofLex (ofLex (callSortKey now d)).2).2 := by rw [h]
  exact Fin.ext hlevels

theorem foldl_min_le {α : Type} (f : α → ℕ) (l : List α) (k : ℕ) :
    l.foldl (fun k u => min k (f u)) k ≤ k ∧ ∀ u ∈ l, l.foldl (fun k u => min k (f u)) k ≤ f u := by
  induction l generalizing k with
  | nil => exact ⟨le_rfl, by simp⟩
  | cons x xs ih =>
    obtain ⟨hk, hxs⟩ := ih (min k (f x))
    exact ⟨hk.trans (min_le_left _ _), List.forall_mem_cons.mpr ⟨hk.trans (min_le_right _ _), hxs⟩⟩

theorem foldl_min_mem {α : Type} (f : α → ℕ) (l : List α) (k : ℕ) :
    l.foldl (fun k u => min k (f u)) k = k ∨ ∃ u ∈ l, l.foldl (fun k u => min k (f u)) k = f u := by
  induction l generalizing k with
  | nil => exact .inl rfl
  | cons x xs ih =>
    rcases ih (min k (f x)) with h | ⟨u, hu, h⟩
    · rcases min_choice k (f x) with hmin | hmin
      · exact .inl (h.trans hmin)
      · exact .inr ⟨x, .head xs, h.trans hmin⟩
    · exact .inr ⟨u, .tail x hu, h⟩

/-- An entry stands where no entry before it has its ID. -/
theorem standsAt_append {l before after : List RelEntry} {e : RelEntry} {id : ToteId} (hl : l = before ++ e :: after)
    (hid : e.id = id) (hfirst : ∀ f ∈ before, f.id ≠ id) : StandsAt l id before.length e where
  get := by simp [hl]
  id_eq := hid
  first j f hj hf := by
    rw [hl, List.getElem?_append_left hj] at hf
    exact hfirst f (List.mem_of_getElem? hf)

namespace State
variable {s : State}

/-- An eligible tote's index is a byte: it is below the window of its stream, or 255 (R74, R90). -/
theorem orderIndex_lt_of_eligible {r : ToteRec} (h : s.eligible r = true) : s.orderIndex r < 256 := by
  cases hr : toteStream r with
  | none => simp [eligible, hr] at h
  | some i =>
    have hstream := (toteStream_eq_some_iff r i).mp hr
    by_cases hi : i = 0
    · rw [orderIndex_of_stream_zero (BitVec.eq_of_toNat_eq (hstream.trans (by rw [hi]; rfl)))]
      decide
    · obtain ⟨k, e, hat, hwindow, -⟩ := (s.eligible_iff hr hi).mp h
      rw [orderIndex_of_listed hi hstream hat]
      exact hwindow.trans (s.stream i).row.window.isLt

theorem eligible_of_mem_fetchables {x : Lift} {n : Level} {t : SlotCode × Content} (h : t ∈ s.fetchables x n) :
    s.eligible t.2.tote = true := by
  obtain ⟨c, t⟩ := t
  obtain ⟨-, -, heligible, -⟩ := (mem_fetchables_iff c t).mp h
  exact heligible

theorem callKey_eq_none_iff {x : Lift} {n : Level} : s.callKey x n = none ↔ s.fetchables x n = [] := by
  unfold callKey
  cases s.fetchables x n <;> simp

/-- The key of a level is the smallest index among its fetchable totes (R74). -/
theorem callKey_spec {x : Lift} {n : Level} {k : Byte} (h : s.callKey x n = some k) :
    (∃ t ∈ s.fetchables x n, k.toNat = s.orderIndex t.2.tote) ∧ ∀ t ∈ s.fetchables x n, k.toNat ≤ s.orderIndex t.2.tote := by
  have helig : ∀ t ∈ s.fetchables x n, s.eligible t.2.tote = true := fun t => eligible_of_mem_fetchables
  unfold callKey at h
  cases hf : s.fetchables x n with
  | nil => simp [hf] at h
  | cons t ts =>
    rw [hf] at helig
    simp only [hf, Option.some.injEq] at h
    obtain ⟨hhead, htail⟩ := foldl_min_le (fun u : SlotCode × Content => s.orderIndex u.2.tote) ts (s.orderIndex t.2.tote)
    have hbyte := orderIndex_lt_of_eligible (helig t (.head ts))
    have hk : k.toNat = ts.foldl (fun k u => min k (s.orderIndex u.2.tote)) (s.orderIndex t.2.tote) := by
      rw [← h, byte, BitVec.toNat_ofNat, Nat.mod_eq_of_lt (hhead.trans_lt hbyte)]
    rw [hk]
    refine ⟨?_, List.forall_mem_cons.mpr ⟨hhead, htail⟩⟩
    rcases foldl_min_mem (fun u : SlotCode × Content => s.orderIndex u.2.tote) ts (s.orderIndex t.2.tote) with h | ⟨u, hu, h⟩
    · exact ⟨t, .head ts, h⟩
    · exact ⟨u, .tail t hu, h⟩

/-- The stamp a level has in a call queue brought up to date: the one it had, or the aisle time (R75). -/
def callStamp (s : State) (x : Lift) (n : Level) : Stamp :=
  (((s.lift x).calls.find? (fun c => c.level = n)).map (fun c => c.stamp)).getD s.time

theorem callStamp_of_queued {x : Lift} {before : List Call} {d : Call} {after : List Call}
    (hq : (s.lift x).calls = before ++ d :: after) (hb : ∀ b ∈ before, b.level ≠ d.level) : s.callStamp x d.level = d.stamp := by
  have hfind : before.find? (fun c => decide (c.level = d.level)) = none :=
    List.find?_eq_none.mpr fun b hmem => by simpa using hb b hmem
  unfold callStamp
  rw [hq, List.find?_append, hfind, List.find?_cons_of_pos (by simp)]
  rfl

theorem callStamp_of_unqueued {x : Lift} {n : Level} (hq : ∀ d ∈ (s.lift x).calls, d.level ≠ n) : s.callStamp x n = s.time := by
  unfold callStamp
  rw [List.find?_eq_none.mpr fun d hmem => by simpa using hq d hmem]
  rfl

/-- The call of a level, if it qualifies (R74). -/
def callOf (s : State) (x : Lift) (n : Level) : Option Call :=
  (s.callKey x n).map (fun k => { level := n, key := k, stamp := s.callStamp x n })

theorem newCalls_eq (x : Lift) : s.newCalls x = sortBy (callBefore s.time) ((List.finRange 40).filterMap (s.callOf x)) := by
  unfold newCalls
  congr 1
  refine List.filterMap_congr fun n _ => ?_
  unfold callOf callStamp
  cases (s.lift x).calls.find? (fun c => c.level = n) <;> rfl

theorem callOf_eq_some_iff {x : Lift} {n : Level} {c : Call} :
    s.callOf x n = some c ↔ c.level = n ∧ s.callKey x n = some c.key ∧ c.stamp = s.callStamp x n := by
  unfold callOf
  rw [Option.map_eq_some_iff]
  constructor
  · rintro ⟨k, hk, rfl⟩
    exact ⟨rfl, hk, rfl⟩
  · rintro ⟨rfl, hk, hst⟩
    exact ⟨c.key, hk, by rw [← hst]⟩

theorem mem_newCalls_iff {x : Lift} {c : Call} :
    c ∈ s.newCalls x ↔ s.callKey x c.level = some c.key ∧ c.stamp = s.callStamp x c.level := by
  rw [newCalls_eq, (sortBy_perm _).mem_iff, List.mem_filterMap]
  constructor
  · rintro ⟨n, -, h⟩
    obtain ⟨rfl, h⟩ := callOf_eq_some_iff.mp h
    exact h
  · exact fun h => ⟨c.level, List.mem_finRange _, callOf_eq_some_iff.mpr ⟨rfl, h⟩⟩

theorem exists_call_iff {x : Lift} (n : Level) : (∃ c ∈ s.newCalls x, c.level = n) ↔ s.fetchables x n ≠ [] := by
  rw [ne_eq, ← callKey_eq_none_iff, ← ne_eq, Option.ne_none_iff_exists']
  constructor
  · rintro ⟨c, hc, rfl⟩
    exact ⟨c.key, (mem_newCalls_iff.mp hc).1⟩
  · rintro ⟨k, hk⟩
    exact ⟨⟨n, k, s.callStamp x n⟩, mem_newCalls_iff.mpr ⟨hk, rfl⟩, rfl⟩

theorem nodup_callLevels (x : Lift) : ((s.newCalls x).map (fun c => c.level)).Nodup := by
  rw [newCalls_eq, ((sortBy_perm _).map _).nodup_iff, List.nodup_iff_pairwise_ne, List.pairwise_map, List.pairwise_filterMap]
  refine (List.nodup_finRange 40).imp fun hne c hc d hd hlevel => hne ?_
  rw [← (callOf_eq_some_iff.mp hc).1, ← (callOf_eq_some_iff.mp hd).1, hlevel]

/-- The order of a call queue (R74). -/
theorem pairwise_newCalls (x : Lift) : (s.newCalls x).Pairwise (fun c d => callSortKey s.time c < callSortKey s.time d) := by
  have hsorted : (s.newCalls x).Pairwise (fun c d => callSortKey s.time c ≤ callSortKey s.time d) := by
    rw [newCalls_eq]
    exact sortBy_pairwise (callBefore_iff s.time) _
  have hlevels : (s.newCalls x).Pairwise (fun c d => c.level ≠ d.level) := List.pairwise_map.mp (nodup_callLevels x)
  exact (hsorted.and hlevels).imp fun ⟨hle, hne⟩ => lt_of_le_of_ne hle (mt level_eq_of_callSortKey hne)

theorem lift_updateCalls (s : State) (x : Lift) : s.updateCalls.lift x = { s.lift x with calls := s.newCalls x } := by
  cases x <;> rfl

end State

/-- Settles O30: the call queue brought up to date holds the call of each level that qualifies, in its order. -/
theorem callQueuesAreKept : Obligations.CallQueuesAreKept := by
  unfold Obligations.CallQueuesAreKept
  refine fun s => ⟨fun x => ⟨State.exists_call_iff, State.nodup_callLevels x, fun c hc => ?key, fun c hc => ?stamp, ?order⟩,
    fun r => State.orderIndex_of_stream_zero, fun r i before e after hi hr hl hid hfirst => ?index, s.lift_updateCalls, rfl⟩
  case key => exact State.callKey_spec (State.mem_newCalls_iff.mp hc).1
  case stamp =>
    obtain ⟨-, hst⟩ := State.mem_newCalls_iff.mp hc
    rw [hst]
    refine ⟨fun before d after hq hlevel hb => ?_, State.callStamp_of_unqueued⟩
    rw [← hlevel] at hb ⊢
    exact State.callStamp_of_queued hq hb
  case order => exact (State.pairwise_newCalls x).imp (callSortKey_lt_iff _ _ _).mp
  case index => exact State.orderIndex_of_listed hi hr (standsAt_append hl hid hfirst)

end Sys2Proof.Machine

/-! ## STATE telegrams (O31) -/

namespace Sys2Proof.Machine

theorem Hears.heard_rests {s : State} {x : Lift} (hh : Hears s (.lift x)) : (s.heard (.lift x)).Rests := hh.rests

/-- Conditions 1 to 3 of R57. -/
theorem stateSound_iff (x : Lift) (b : StateBody) : stateSound x b = true ↔
    b.kind = 2 ∧ b.station = x.station ∧ b.totes.length ≤ 2 ∧ (∀ r ∈ b.totes, validTote r = true)
      ∧ (b.totes.map (fun r => r.id)).Nodup := by
  simp only [stateSound, Bool.and_eq_true, decide_eq_true_eq, List.all_eq_true, allDiffer_iff, and_assoc]

theorem verifiesShuttle_iff (n : Level) (b : StateBody) :
    verifiesShuttle n b = true ↔ b.kind = 1 ∧ b.station.toNat = n.val + 1 := by
  simp only [verifiesShuttle, Bool.and_eq_true, decide_eq_true_eq, eq_levelByte_iff]

namespace State
variable {s : State} {x : Lift} {n : Level} {b : StateBody}

/-- Condition 4 of R57. -/
theorem stateApart_iff : s.stateApart x b = true ↔
    ∀ r ∈ b.totes, s.inSlots r.id none = false ∧ s.inCarriage x.other r.id = false ∧ s.inPlaceEntries r.id = false := by
  simp only [stateApart, List.all_eq_true, Bool.not_eq_true', Bool.or_eq_false_iff, and_assoc]

theorem stateApart_heard (s : State) (x : Lift) (b : StateBody) : (s.heard (.lift x)).stateApart x b = s.stateApart x b := rfl

theorem takeLiftState_of_returning (hp : (s.lift x).presence = .returning) : s.takeLiftState x b =
    if stateSound x b && s.stateApart x b then s.adopt x b else s.raise .partyMismatch (some (.lift x)) := by
  unfold takeLiftState
  simp only [hp]

theorem takeLiftState_of_online (hp : (s.lift x).presence = .online) : s.takeLiftState x b =
    if stateSound x b && b.totes = (s.lift x).carriage then s else s.raise .partyMismatch (some (.lift x)) := by
  unfold takeLiftState
  simp only [hp]

theorem takeLiftState_of_service (hp : (s.lift x).presence = .service) : s.takeLiftState x b = s := by
  unfold takeLiftState
  simp only [hp]

theorem takeShuttleState_of_returning (hp : (s.shuttle n).presence = .returning) : s.takeShuttleState n b =
    if verifiesShuttle n b then s.levelOnline n b.firmware else s.shuttleMismatch n := by
  unfold takeShuttleState
  simp only [hp]

theorem takeShuttleState_of_online (hp : (s.shuttle n).presence = .online) : s.takeShuttleState n b =
    if verifiesShuttle n b then s.setShuttle n { s.shuttle n with firmware := b.firmware } else s.shuttleMismatch n := by
  unfold takeShuttleState
  simp only [hp]

theorem takeShuttleState_of_service (hp : (s.shuttle n).presence = .service) : s.takeShuttleState n b = s := by
  unfold takeShuttleState
  simp only [hp]

theorem levelOnline_of_mark {firmware : Byte} (hm : (s.shuttle n).mark = true) : s.levelOnline n firmware =
    (s.setShuttle n { s.shuttle n with presence := .online, firmware := firmware, mark := false }).handFlag .serviceReady :=
  if_pos hm

theorem levelOnline_of_no_mark {firmware : Byte} (hm : (s.shuttle n).mark = false) : s.levelOnline n firmware =
    s.setShuttle n { s.shuttle n with presence := .online, firmware := firmware } := by
  have kept : ¬ (s.shuttle n).mark = true := by rw [hm]; exact Bool.false_ne_true
  exact (if_neg kept).trans (congrArg (fun m => s.setShuttle n
    { s.shuttle n with presence := .online, firmware := firmware, mark := m }) hm.symm)

/-- The miss count of a level is 0 once it has answered (R143). -/
theorem miss_heard (s : State) (n : Level) : ((s.heard (.shuttle n)).shuttle n).miss = 0 := by
  unfold heard
  rw [shuttle_setShuttle_self]

/-- A shuttle's STATE that does not match sends its level into SERVICE (R149). -/
theorem shuttleMismatch_heard (s : State) (n : Level) : (s.heard (.shuttle n)).shuttleMismatch n =
    ((s.heard (.shuttle n)).intoService n 0).raise .partyMismatch (some (.shuttle n)) := by
  unfold shuttleMismatch
  rw [miss_heard]

end State

theorem exec_state_of_hears {s : State} {x : Lift} (hh : Hears s (.lift x)) (tag : Byte) {b : StateBody} (hb : b.fits = true) :
    exec (.state x tag b) s = .next ((s.heard (.lift x)).takeLiftState x b).finish := by
  have hlen : b.length ≤ 48 := of_decide_eq_true (Bool.and_eq_true_iff.mp hb).1
  show done (s.telegram (.lift x) tag b.length b.fits (.state b)) = _
  rw [hb, telegram_of_hears s _ _ _ _ hh hlen]
  rfl

theorem exec_shuttleState_of_hears {s : State} {n : Level} (hh : Hears s (.shuttle n)) (tag : Byte) {b : StateBody}
    (hb : b.fits = true) : exec (.shuttleState n tag b) s = .next ((s.heard (.shuttle n)).takeShuttleState n b).finish := by
  have hlen : b.length ≤ 48 := of_decide_eq_true (Bool.and_eq_true_iff.mp hb).1
  show done (s.telegram (.shuttle n) tag b.length b.fits (.state b)) = _
  rw [hb, telegram_of_hears s _ _ _ _ hh hlen]
  rfl

/-- Settles O31: a STATE of a lift and of a shuttle, by the presence of its sender. -/
theorem statesOfParties : Obligations.StatesOfParties := by
  unfold Obligations.StatesOfParties
  refine ⟨fun s x tag b hh hb => ?lift, fun s n tag b hh hb => ?shuttle⟩
  case lift =>
    intro u sound apart mismatch
    rw [exec_state_of_hears hh tag hb]
    have hlift : u.lift x = s.lift x := s.lift_heard _ x
    have hsound : stateSound x b = true ↔ sound := stateSound_iff x b
    have hapart : u.stateApart x b = true ↔ apart := by
      rw [show u.stateApart x b = s.stateApart x b from s.stateApart_heard x b]
      exact State.stateApart_iff
    refine ⟨fun hp => ?_, fun hp => ?_, fun hp => ?_⟩
    · rw [State.takeLiftState_of_returning (hlift.symm ▸ hp), ← hlift]
      refine ⟨fun h1 h2 => ?_, fun hno => ?_⟩
      · rw [if_pos (by rw [Bool.and_eq_true]; exact ⟨hsound.mpr h1, hapart.mpr h2⟩)]
        rfl
      · rw [if_neg (by rw [Bool.and_eq_true, hsound, hapart]; exact hno)]
    · rw [State.takeLiftState_of_online (hlift.symm ▸ hp), ← hlift]
      refine ⟨fun h1 h2 => ?_, fun hno => ?_⟩
      · rw [if_pos (by rw [Bool.and_eq_true, decide_eq_true_eq]; exact ⟨hsound.mpr h1, h2⟩), hh.heard_rests.finish]
      · rw [if_neg (by rw [Bool.and_eq_true, decide_eq_true_eq, hsound]; exact hno)]
    · rw [State.takeLiftState_of_service (hlift.symm ▸ hp), hh.heard_rests.finish]
  case shuttle =>
    intro u r own
    rw [exec_shuttleState_of_hears hh tag hb]
    have hown : verifiesShuttle n b = true ↔ own := verifiesShuttle_iff n b
    refine ⟨fun hp ho hm => ?_, fun hp ho hm => ?_, fun hp ho => ?_, fun hp hno => ?_, fun hp => ?_⟩
    · rw [State.takeShuttleState_of_returning hp, if_pos (hown.mpr ho), State.levelOnline_of_no_mark hm]
    · rw [State.takeShuttleState_of_returning hp, if_pos (hown.mpr ho), State.levelOnline_of_mark hm]
    · rw [State.takeShuttleState_of_online hp, if_pos (hown.mpr ho)]
    · have hmatch : ¬ verifiesShuttle n b = true := mt hown.mp hno
      rcases hp with hp | hp
      · rw [State.takeShuttleState_of_returning hp, if_neg hmatch, s.shuttleMismatch_heard n]
      · rw [State.takeShuttleState_of_online hp, if_neg hmatch, s.shuttleMismatch_heard n]
    · rw [State.takeShuttleState_of_service hp]

end Sys2Proof.Machine

/-! ## Visits (O32) -/

namespace Sys2Proof.Machine

theorem Lift.eq_or_eq_other (x y : Lift) : y = x ∨ y = x.other := by cases x <;> cases y <;> decide

theorem Lift.other_ne (x : Lift) : x.other ≠ x := by cases x <;> decide

/-- The carried totes bound for a level, by the byte that names it (R67). -/
theorem LiftRec.boundFor_of_level (l : LiftRec) {level : Byte} {n : Level} (h : level.toNat = n.val + 1) :
    l.boundFor level = (l.carriage.filter (fun r => r.dest = level)).length := by
  rw [(eq_levelByte_iff level n).mpr h]
  have hbyte := (eq_levelByte_iff (levelByte n) n).mp rfl
  exact l.boundFor_dest (r := ⟨0, 0, levelByte n⟩) hbyte

/-- Check 7 of R67, in the places a carriage has. -/
theorem LiftRec.planFails_iff (l : LiftRec) {level : Byte} {n : Level} (h : level.toNat = n.val + 1) (p f : Nat) :
    l.planFails level p f = true ↔ (l.carriage.filter (fun r => r.dest = level)).length < p
      ∨ 2 + p < f + l.carriage.length ∨ p + f = 0 := by
  have hle : (l.carriage.filter (fun r => r.dest = level)).length ≤ l.carriage.length := List.length_filter_le _ _
  simp only [planFails, l.boundFor_of_level h, Bool.or_eq_true, decide_eq_true_eq]
  omega

/-- Checks behind others decide when those before them pass. -/
theorem firstFailure_append (cs ds : List (Bool × Reason)) : firstFailure (cs ++ ds) = (firstFailure cs).or (firstFailure ds) := by
  unfold firstFailure
  rw [List.find?_append, Option.map_or]

namespace State

/-- The level that a byte names is mapped (R67). -/
def namesMapped (s : State) (level : Byte) : Bool :=
  match levelOf level with
  | some n => s.levelMapped n
  | none => false

theorem namesMapped_of_level {s : State} {level : Byte} {n : Level} (h : level.toNat = n.val + 1) :
    s.namesMapped level = s.levelMapped n := by
  unfold namesMapped
  rw [(levelOf_eq_some_iff level n).mpr h]

theorem namesMapped_of_unmapped {s : State} {level : Byte} (h : ∀ n : Level, level.toNat = n.val + 1 → s.levelMapped n = false) :
    s.namesMapped level = false := by
  unfold namesMapped
  cases hl : levelOf level with
  | none => rfl
  | some n => exact h n ((levelOf_eq_some_iff level n).mp hl)

/-- The first five checks of a VISIT-OPEN are those of a NEXT-CALL (R67, R76). -/
theorem visitFailure_eq (s : State) (x : Lift) (level p f : Byte) : s.visitFailure x level p f = (s.callFailure x).or
    (if s.namesMapped level = false then some .unmapped
      else if (s.lift x).planFails level p.toNat f.toNat = true then some .badCount else none) := by
  have hmap : (!s.namesMapped level) = true ↔ s.namesMapped level = false := by simp
  refine (firstFailure_append [_, _, _, _, _] [(!s.namesMapped level, .unmapped), _]).trans (congrArg _ ?_)
  simp only [firstFailure_cons, firstFailure_nil, hmap]

theorem visitFailure_heard_lift (s : State) (x : Lift) (level p f : Byte) :
    (s.heard (.lift x)).visitFailure x level p f = s.visitFailure x level p f := rfl

theorem openVisit_of_failure {s : State} {x : Lift} {level p f : Byte} {r : Reason} (h : s.visitFailure x level p f = some r)
    (tag : Byte) : s.openVisit x tag level p f = s.refuseLift x kVisitOpen r tag := by
  unfold openVisit
  rw [h]

theorem openVisit_of_passes {s : State} {x : Lift} {level p f : Byte} {n : Level} (h : s.visitFailure x level p f = none)
    (hn : level.toNat = n.val + 1) (tag : Byte) : s.openVisit x tag level p f =
      (s.setLift x { s.lift x with visit := some (newVisit s.timing n p f tag) }).sendLift x
        (s.toParty (.lift x) kGo tag (.go 255 kVisitOpen [])) := by
  unfold openVisit
  simp only [h, (levelOf_eq_some_iff level n).mpr hn]

/-- The checks of a VISIT-CLOSE (R71). -/
def closeFailure (s : State) (x : Lift) : Option Reason :=
  (s.lift x).presence.refusal.or
    (if (s.lift x).visit.isNone = true then some .noVisit
      else if (s.entryOf (.lift x)).isSome = true then some .busy else none)

theorem closeFailure_eq (s : State) (x : Lift) : firstFailure [checkOfRefusal (s.lift x).presence.refusal,
    ((s.lift x).visit.isNone, .noVisit), ((s.entryOf (.lift x)).isSome, .busy)] = s.closeFailure x := by
  unfold closeFailure
  simp only [firstFailure_refusal, firstFailure_cons, firstFailure_nil]

theorem closeVisit_of_failure {s : State} {x : Lift} {r : Reason} (h : s.closeFailure x = some r) (tag : Byte) :
    s.closeVisit x tag = s.refuseLift x kVisitClose r tag := by
  unfold closeVisit
  rw [closeFailure_eq, h]

theorem closeVisit_of_passes {s : State} {x : Lift} (h : s.closeFailure x = none) (tag : Byte) :
    s.closeVisit x tag = s.endVisit x (some tag) := by
  unfold closeVisit
  rw [closeFailure_eq, h]

section
variable {s : State} {x : Lift}

theorem closeFailure_of_presence {r : Reason} (h : (s.lift x).presence.refusal = some r) : s.closeFailure x = some r := by
  unfold closeFailure
  rw [h, Option.some_or]

variable (hp : (s.lift x).presence = .online)
include hp

theorem closeFailure_of_no_visit (hv : (s.lift x).visit = none) : s.closeFailure x = some .noVisit := by
  unfold closeFailure
  rw [hp, hv]
  rfl

variable (hv : (s.lift x).visit ≠ none)
include hv

theorem closeFailure_of_visit : s.closeFailure x = if (s.entryOf (.lift x)).isSome = true then some .busy else none := by
  have open' : ¬ (s.lift x).visit.isNone = true := mt Option.isNone_iff_eq_none.mp hv
  unfold closeFailure
  rw [hp, if_neg open']
  rfl

theorem closeFailure_of_entry (he : ¬ s.Entryless (.lift x)) : s.closeFailure x = some .busy := by
  rw [closeFailure_of_visit hp hv, if_pos (Option.isSome_iff_ne_none.mpr (mt (s.entryOf_eq_none_iff (.lift x)).mp he))]

theorem closeFailure_eq_none (he : s.Entryless (.lift x)) : s.closeFailure x = none := by
  rw [closeFailure_of_visit hp hv, (s.entryOf_eq_none_iff _).mpr he]
  rfl

end

theorem closeFailure_heard_lift (s : State) (x : Lift) : (s.heard (.lift x)).closeFailure x = s.closeFailure x := rfl

/-- The end of a visit before the return to CONFIG is looked for, with the lift's record as it was. -/
theorem visitEnded_eq (s : State) (x : Lift) (tag : Byte) (v : Visit) : s.visitEnded x tag v =
    (s.sendLift x (s.toParty (.lift x) kVisitEnd tag (.visit (levelByte v.level) (byte v.p) (byte v.f)))).setLift x
      { s.lift x with visit := none } := by
  have hlift (t : Tel) : (s.sendLift x t).lift x = s.lift x := by
    rw [sendLift_keeps]
    rfl
  unfold visitEnded
  dsimp only
  rw [hlift]

end State

section
variable {s : State} {x : Lift} (hh : Hears s (.lift x)) (tag : Byte)
include hh

/-- The first check of R67 that fails gives the reason of the REFUSE. -/
theorem exec_visitOpen_of_failure {level p f : Byte} {r : Reason} (h : s.visitFailure x level p f = some r) :
    exec (.visitOpen x tag level p f) s
      = .next ((s.heard (.lift x)).sendLift x (s.toward (.lift x) 0x2A tag (.refuse 0x30 r 255))).finish := by
  show done (s.telegram (.lift x) tag 3 true (.visitOpen level p f)) = _
  rw [telegram_of_hears s _ _ _ _ hh (by decide)]
  exact congrArg done (State.openVisit_of_failure (s := s.heard (.lift x)) h tag)

/-- A VISIT-OPEN that passes its checks opens the visit and is answered GO (R68). -/
theorem exec_visitOpen_of_passes {level p f : Byte} {n : Level} (h : s.visitFailure x level p f = none)
    (hn : level.toNat = n.val + 1) : exec (.visitOpen x tag level p f) s
      = .next ((((s.heard (.lift x)).setLift x { s.lift x with visit := some (newVisit s.timing n p f tag) })).sendLift x
        (s.toward (.lift x) 0x28 tag (.go 255 0x30 []))).finish := by
  show done (s.telegram (.lift x) tag 3 true (.visitOpen level p f)) = _
  rw [telegram_of_hears s _ _ _ _ hh (by decide)]
  exact congrArg done (State.openVisit_of_passes (s := s.heard (.lift x)) h hn tag)

theorem exec_visitClose_of_failure {r : Reason} (h : s.closeFailure x = some r) : exec (.visitClose x tag) s
    = .next ((s.heard (.lift x)).sendLift x (s.toward (.lift x) 0x2A tag (.refuse 0x31 r 255))).finish := by
  show done (s.telegram (.lift x) tag 0 true .visitClose) = _
  rw [telegram_of_hears s _ _ _ _ hh (by decide)]
  exact congrArg done (State.closeVisit_of_failure (s := s.heard (.lift x)) h tag)

theorem exec_visitClose_of_passes (h : s.closeFailure x = none) :
    exec (.visitClose x tag) s = .next ((s.heard (.lift x)).endVisit x (some tag)).finish := by
  show done (s.telegram (.lift x) tag 0 true .visitClose) = _
  rw [telegram_of_hears s _ _ _ _ hh (by decide)]
  exact congrArg done (State.closeVisit_of_passes (s := s.heard (.lift x)) h tag)

end

/-- Settles O32: the checks of a VISIT-OPEN and a VISIT-CLOSE in order, and the end of a visit. -/
theorem visits : Obligations.Visits := by
  unfold Obligations.Visits
  refine ⟨fun s x tag level p f hh => ?opens, fun s x tag => ⟨fun hh => ?closes, fun v closeTag hv => ?ends⟩⟩
  case opens =>
    intro u a l refused
    have refuses {r : Reason} (h : s.callFailure x = some r) : exec a s = refused r :=
      exec_visitOpen_of_failure hh tag (by rw [s.visitFailure_eq, h, Option.some_or])
    refine ⟨fun hp => refuses (State.callFailure_of_presence (congrArg LiftPresence.refusal hp)),
      fun hp => refuses (State.callFailure_of_presence (congrArg LiftPresence.refusal hp)),
      fun hp => ⟨fun hv => refuses (State.callFailure_of_visit hp hv), fun hv => ?_⟩⟩
    have inMode {m : Mode} {r : Reason} (hr : m.refusal = some r) (hm : s.mode = m) : exec a s = refused r :=
      refuses (State.callFailure_of_mode hp hv (by rw [hm, hr]))
    refine ⟨inMode rfl, inMode rfl, inMode rfl, fun hm => ⟨fun hl => refuses (State.callFailure_of_latch hp hv hm hl),
      fun hl => ⟨fun he => refuses (State.callFailure_of_entry hp hv hm hl he), fun he => ?_⟩⟩⟩
    have failure : s.visitFailure x level p f = _ := s.visitFailure_eq x level p f
    rw [State.callFailure_eq_none hp hv hm hl he, Option.none_or] at failure
    refine ⟨fun hun => ?_, fun n hn hmap => ?_⟩
    · exact exec_visitOpen_of_failure hh tag (failure.trans (if_pos (State.namesMapped_of_unmapped hun)))
    · have hplan := (s.lift x).planFails_iff hn p.toNat f.toNat
      rw [State.namesMapped_of_level hn, hmap, if_neg (Bool.false_ne_true ∘ Eq.symm)] at failure
      intro bound
      refine ⟨fun hbad => exec_visitOpen_of_failure hh tag (failure.trans (if_pos (hplan.mpr hbad))), fun h1 h2 h3 => ?_⟩
      refine exec_visitOpen_of_passes hh tag (failure.trans (if_neg fun hbad => ?_)) hn
      have hbad : bound < p.toNat ∨ 2 + p.toNat < f.toNat + l.carriage.length ∨ p.toNat + f.toNat = 0 := hplan.mp hbad
      omega
  case closes =>
    refine ⟨fun hp => exec_visitClose_of_failure hh tag (State.closeFailure_of_presence (congrArg LiftPresence.refusal hp)),
      fun hp => exec_visitClose_of_failure hh tag (State.closeFailure_of_presence (congrArg LiftPresence.refusal hp)),
      fun hp => ⟨fun hv => exec_visitClose_of_failure hh tag (State.closeFailure_of_no_visit hp hv),
        fun hv he => exec_visitClose_of_failure hh tag (State.closeFailure_of_entry hp hv he),
        fun hv he => exec_visitClose_of_passes hh tag (State.closeFailure_eq_none hp hv he)⟩⟩
  case ends =>
    intro u w
    have hended : s.visitEnded x (closeTag.getD v.tag) v = w := s.visitEnded_eq x _ v
    have hkeeps := s.visitEnded_keeps x (closeTag.getD v.tag) v
    have hother : w.lift x.other = s.lift x.other := by
      rw [← hended, State.lift_visitEnded, if_neg (Lift.other_ne x)]
    have hself : (w.lift x).visit = none := by
      rw [← hended, State.lift_visitEnded, if_pos rfl]
    have hmode : w.mode = s.mode := by
      rw [← hended, hkeeps]
      rfl
    have hentry (k : Handle) : w.entry k = s.entry k := by
      rw [← hended, hkeeps]
      rfl
    rw [State.endVisit_of_some hv, hended]
    refine ⟨fun hm he ho => State.checkDrain_of_last (hmode.trans hm) (fun k => (hentry k).trans (he k)) fun y => ?_,
      fun hstays => State.checkDrain_of_not_last ?_⟩
    · rcases Lift.eq_or_eq_other x y with rfl | rfl
      · exact hself
      · exact (congrArg LiftRec.visit hother).trans ho
    · rw [hmode]
      rcases hstays with hm | ⟨k, hk⟩ | ho
      · exact .inl hm
      · exact .inr (.inl ⟨k, (hentry k).symm ▸ hk⟩)
      · exact .inr (.inr ⟨x.other, hother.symm ▸ ho⟩)

end Sys2Proof.Machine

/-! ## LOAD and UNLOAD (O34) -/

namespace Sys2Proof.Machine

namespace State

/-! ### The checks (R63, R65) -/

/-- A lift that is not ONLINE, visits, or has an entry loads and unloads nothing (R60, R63, R65). -/
def carriageGate (s : State) (x : Lift) : Option Reason :=
  match (s.lift x).presence with
  | .returning => some .notReady
  | .service => some .service
  | .online => if (s.lift x).visit ≠ none then some .inVisit else if (s.entryOf (.lift x)).isSome then some .busy else none

theorem carriageGate_eq (s : State) (x : Lift) : s.carriageGate x = (s.lift x).presence.refusal.or
    (if (s.lift x).visit.isSome = true then some .inVisit
      else if (s.entryOf (.lift x)).isSome = true then some .busy else none) := by
  unfold carriageGate
  simp only [Option.isSome_iff_ne_none]
  cases (s.lift x).presence <;> rfl

theorem carriageGate_eq_none {s : State} {x : Lift} (hp : (s.lift x).presence = .online) (hv : (s.lift x).visit = none)
    (he : s.Entryless (.lift x)) : s.carriageGate x = none := by
  rw [carriageGate_eq, hp, hv, (s.entryOf_eq_none_iff _).mpr he]
  rfl

/-- The checks of a LOAD that look at its totes (R63). -/
def loadedFailure (s : State) (x : Lift) (totes : List ToteRec) : Option Reason :=
  if totes.length ≠ 1 ∧ totes.length ≠ 2 then some .badCount
  else if (∃ r ∈ totes, validTote r = false ∨ r.dest = 0) ∨ ¬ (totes.map (fun r => r.id)).Nodup then some .badTote
  else if 2 < (s.lift x).carriage.length + totes.length then some .full
  else if ∃ r ∈ totes, ∀ n : Level, r.dest.toNat = n.val + 1 → s.levelMapped n = false then some .unmapped
  else if ∃ r ∈ totes, s.inCensus r.id none = true then some .duplicate
  else none

theorem destMapped_eq_false_iff (s : State) (r : ToteRec) :
    s.destMapped r = false ↔ ∀ n : Level, r.dest.toNat = n.val + 1 → s.levelMapped n = false := by
  simp only [← levelOf_eq_some_iff]
  unfold destMapped
  cases hl : levelOf r.dest with
  | none => simp
  | some n => simp

theorem loadFailure_eq (s : State) (x : Lift) (totes : List ToteRec) :
    s.loadFailure x totes = (s.carriageGate x).or (s.loadedFailure x totes) := by
  have htotes : (!(totes.all (fun r => validTote r && isInbound r) && allDiffer (totes.map (fun r => r.id)))) = true ↔
      (∃ r ∈ totes, validTote r = false ∨ r.dest = 0) ∨ ¬ (totes.map (fun r => r.id)).Nodup := by
    rw [← allDiffer_iff]
    simp [isInbound, imp_iff_not_or]
  have hmapped : (!totes.all s.destMapped) = true ↔
      ∃ r ∈ totes, ∀ n : Level, r.dest.toNat = n.val + 1 → s.levelMapped n = false := by
    simp only [← destMapped_eq_false_iff]
    simp
  refine (firstFailure_append [_, _, _] [_, _, _, _, _]).trans (congrArg₂ Option.or ?_ ?_)
  · rw [carriageGate_eq, firstFailure_refusal]
    simp only [firstFailure_cons, firstFailure_nil]
  · unfold loadedFailure
    simp only [firstFailure_cons, firstFailure_nil, badCount_iff, htotes, hmapped, decide_eq_true_eq, List.any_eq_true]

/-- The checks of an UNLOAD that look at its IDs (R65). -/
def unloadedFailure (ids : List ToteId) : Option Reason :=
  if ids.length ≠ 1 ∧ ids.length ≠ 2 then some .badCount
  else if 0 ∈ ids ∨ ¬ ids.Nodup then some .badTote
  else none

theorem unloadFailure_eq (s : State) (x : Lift) (ids : List ToteId) :
    s.unloadFailure x ids = (s.carriageGate x).or (unloadedFailure ids) := by
  refine (firstFailure_append [_, _, _] [_, _]).trans (congrArg₂ Option.or ?_ ?_)
  · rw [carriageGate_eq, firstFailure_refusal]
    simp only [firstFailure_cons, firstFailure_nil]
  · unfold unloadedFailure
    simp only [firstFailure_cons, firstFailure_nil, badCount_iff, badIds_iff]

/-! ### What is taken (R64, R66, R87) -/

theorem takeLoad_of_failure {s : State} {x : Lift} {totes : List ToteRec} {r : Reason} (h : s.loadFailure x totes = some r)
    (tag : Byte) : s.takeLoad x tag totes = s.refuseLift x kLoad r tag := by
  unfold takeLoad
  rw [h]

theorem takeLoad_of_passes {s : State} {x : Lift} {totes : List ToteRec} (h : s.loadFailure x totes = none) (tag : Byte) :
    s.takeLoad x tag totes = (s.setLift x { s.lift x with carriage := (s.lift x).carriage ++ totes }).touch := by
  unfold takeLoad
  rw [h]

/-- The totes of an UNLOAD counted as delivered, each of its stream (R87). -/
def deliverAll (s : State) (totes : List ToteRec) : State := totes.foldl (fun s r => s.deliver r) s

theorem deliver_keeps (s : State) (r : ToteRec) : s.deliver r = { s with streams := (s.deliver r).streams } := by
  unfold deliver
  split
  · split <;> rfl
  · rfl

theorem deliverAll_keeps (s : State) (totes : List ToteRec) :
    s.deliverAll totes = { s with streams := (s.deliverAll totes).streams } := foldl_streams_eq deliver_keeps totes s

theorem stream_deliver_of_own {r : ToteRec} {i : StreamNo} (h : r.dest = 0 ∧ r.stream.toNat = i.val) (s : State) :
    (s.deliver r).stream i = { s.stream i with delivered := (s.stream i).delivered + 1 } := by
  obtain ⟨hd, hi⟩ := h
  have hout : ¬ isInbound r = true := by simp [isInbound, hd]
  unfold deliver
  simp only [(toteStream_eq_some_iff r i).mpr hi, if_neg hout, stream_setStream_self]

theorem stream_deliver_of_other {r : ToteRec} {i : StreamNo} (h : ¬ (r.dest = 0 ∧ r.stream.toNat = i.val)) (s : State) :
    (s.deliver r).stream i = s.stream i := by
  unfold deliver
  split
  next k hk =>
    split
    · rfl
    next hout =>
      have hd : r.dest = 0 := by simpa [isInbound] using hout
      refine stream_setStream_ne _ _ _ _ fun hki => h ⟨hd, ?_⟩
      rw [(toteStream_eq_some_iff r k).mp hk, hki]
  · rfl

theorem stream_deliverAll (s : State) (totes : List ToteRec) (i : StreamNo) : (s.deliverAll totes).stream i =
    { s.stream i with delivered := (s.stream i).delivered
        + BitVec.ofNat 32 (totes.filter (fun r => r.dest = 0 ∧ r.stream.toNat = i.val)).length } := by
  induction totes generalizing s with
  | nil => simp [deliverAll]
  | cons r rs ih =>
    show ((s.deliver r).deliverAll rs).stream i = _
    rw [ih]
    by_cases hr : r.dest = 0 ∧ r.stream.toNat = i.val
    · rw [stream_deliver_of_own hr, List.filter_cons_of_pos (by simpa using hr), List.length_cons, add_comm (List.length _),
        BitVec.ofNat_add, ← add_assoc]
      rfl
    · rw [stream_deliver_of_other hr, List.filter_cons_of_neg (by simpa using hr)]

theorem takeUnload_of_failure {s : State} {x : Lift} {ids : List ToteId} {r : Reason} (h : s.unloadFailure x ids = some r)
    (tag : Byte) : s.takeUnload x tag ids = s.refuseLift x kUnload r tag := by
  unfold takeUnload
  rw [h]

theorem takeUnload_of_order {s : State} {x : Lift} {ids : List ToteId} (h : s.unloadFailure x ids = none)
    {front back : List ToteRec} (hc : (s.lift x).carriage = front ++ back) (hids : front.map (fun r => r.id) = ids) (tag : Byte) :
    s.takeUnload x tag ids = ((s.setLift x { s.lift x with carriage := back }).deliverAll front).touch := by
  have hlen : ids.length = front.length := by rw [← hids, List.length_map]
  unfold takeUnload
  rw [h]
  simp only [hc, hlen, List.take_left, List.drop_left, hids, if_true]
  rfl

theorem takeUnload_of_disorder {s : State} {x : Lift} {ids : List ToteId} (h : s.unloadFailure x ids = none)
    (hids : ((s.lift x).carriage.take ids.length).map (fun r => r.id) ≠ ids) (tag : Byte) :
    s.takeUnload x tag ids = (s.refuseLift x kUnload .order tag).raise .order (some (.lift x)) := by
  unfold takeUnload
  rw [h]
  exact if_neg hids

theorem loadFailure_heard_lift (s : State) (x : Lift) (totes : List ToteRec) :
    (s.heard (.lift x)).loadFailure x totes = s.loadFailure x totes := rfl

theorem unloadFailure_heard_lift (s : State) (x : Lift) (ids : List ToteId) :
    (s.heard (.lift x)).unloadFailure x ids = s.unloadFailure x ids := rfl

end State

section
variable {s : State} {x : Lift} (hh : Hears s (.lift x)) (tag : Byte)
include hh

theorem exec_load_of_hears {totes : List ToteRec} (hl : 1 + 6 * totes.length ≤ 48) :
    exec (.load x tag totes) s = .next ((s.heard (.lift x)).takeLoad x tag totes).finish :=
  congrArg done (telegram_of_hears s _ tag _ (.load totes) hh hl)

theorem exec_unload_of_hears {ids : List ToteId} (hl : 1 + 4 * ids.length ≤ 48) :
    exec (.unload x tag ids) s = .next ((s.heard (.lift x)).takeUnload x tag ids).finish :=
  congrArg done (telegram_of_hears s _ tag _ (.unload ids) hh hl)

end

/-- Settles O34: the checks of LOAD and UNLOAD in order, and what the telegrams that pass them do. -/
theorem loadsAndUnloads : Obligations.LoadsAndUnloads := by
  unfold Obligations.LoadsAndUnloads
  refine ⟨fun s x tag hh hp hv he => ?taken, fun s x tag totes ids hh hlt hli => ?refused⟩
  case taken =>
    have hgate : s.carriageGate x = none := State.carriageGate_eq_none hp hv he
    intro u l
    have hlift : u.lift x = s.lift x := s.lift_heard _ x
    refine ⟨fun totes hcount hvalid hnodup hroom hmapped hnew => ?_, fun ids hcount hzero hnodup => ?_⟩
    · have hlen : 1 + 6 * totes.length ≤ 48 := by omega
      have hpasses : u.loadFailure x totes = none := by
        rw [show u.loadFailure x totes = s.loadFailure x totes from s.loadFailure_heard_lift x totes, s.loadFailure_eq, hgate,
          Option.none_or, State.loadedFailure, if_neg (by omega), if_neg, if_neg (not_lt.mpr hroom), if_neg, if_neg]
        · rintro ⟨r, hr, hc⟩
          exact Bool.false_ne_true ((hnew r hr).symm.trans hc)
        · rintro ⟨r, hr, hun⟩
          obtain ⟨n, hn, hm⟩ := hmapped r hr
          exact Bool.false_ne_true ((hun n hn).symm.trans hm)
        · rintro (⟨r, hr, hbad | hd⟩ | hdup)
          · exact Bool.false_ne_true (hbad.symm.trans (hvalid r hr).1)
          · exact (hvalid r hr).2 hd
          · exact hdup hnodup
      rw [exec_load_of_hears hh tag hlen, State.takeLoad_of_passes hpasses, hlift]
    · have hlen : 1 + 4 * ids.length ≤ 48 := by omega
      have hpasses : u.unloadFailure x ids = none := by
        rw [show u.unloadFailure x ids = s.unloadFailure x ids from s.unloadFailure_heard_lift x ids, s.unloadFailure_eq, hgate,
          Option.none_or, State.unloadedFailure, if_neg (by omega), if_neg (not_or.mpr ⟨hzero, not_not.mpr hnodup⟩)]
      rw [exec_unload_of_hears hh tag hlen]
      refine ⟨fun front back hc hids => ?_, fun hids => ?_⟩
      · have hkeeps := (u.setLift x { u.lift x with carriage := back }).deliverAll_keeps front
        refine ⟨_, congrArg (fun t => Host.Outcome.next (State.finish t)) (State.takeUnload_of_order hpasses (hlift.symm ▸ hc : (u.lift x).carriage = front ++ back) hids tag),
          ?_, fun i => ?_, ?_, ?_⟩
        · rw [hkeeps]
          exact (u.lift_setLift_self x _).trans (by rw [hlift])
        · exact State.stream_deliverAll _ front i
        · have hwork : u.work = Work.done := hh.rests
          rw [hkeeps, ← hwork]
          rfl
        · rw [hkeeps]
          exact u.lift_setLift_ne x _ _ (Lift.other_ne x).symm
      · rw [State.takeUnload_of_disorder hpasses hids]
        rfl
  case refused =>
    intro u refused gate load unload
    refine ⟨fun r hr => ?_, fun r hr => ?_⟩
    · have hfails : u.loadFailure x totes = some r := (s.loadFailure_eq x totes).trans hr
      rw [exec_load_of_hears hh tag hlt, State.takeLoad_of_failure hfails]
      rfl
    · have hfails : u.unloadFailure x ids = some r := (s.unloadFailure_eq x ids).trans hr
      rw [exec_unload_of_hears hh tag hli, State.takeUnload_of_failure hfails]
      rfl

end Sys2Proof.Machine

/-! ## The lift link transmitter (O35) -/

namespace Sys2Proof.Machine

theorem beginItem_append {f : DownItem → Bool} {before : List DownItem} (hb : ∀ j ∈ before, f j = false) {i : DownItem}
    (hi : f i = true) (after : List DownItem) : beginItem f (before ++ i :: after) = before ++ { i with begun := true } :: after := by
  induction before with
  | nil => exact if_pos hi
  | cons j js ih =>
    obtain ⟨hj, hjs⟩ := List.forall_mem_cons.mp hb
    rw [List.cons_append, beginItem, if_neg (by rw [hj]; exact Bool.false_ne_true), ih hjs]
    rfl

/-- A telegram that has begun is not interrupted by another (R128). -/
theorem beginDown_of_begun {l : List DownItem} (h : ∃ j ∈ l, j.begun = true) : beginDown l = l :=
  if_pos (List.any_eq_true.mpr h)

section
variable {before after : List DownItem} {i : DownItem} (hidle : ∀ j ∈ before ++ i :: after, j.begun = false)
include hidle

theorem beginDown_of_idle : beginDown (before ++ i :: after) =
    if (before ++ i :: after).any (fun j => j.own) then beginItem (fun j => j.own) (before ++ i :: after)
    else beginItem (fun _ => true) (before ++ i :: after) :=
  if_neg fun h => by
    obtain ⟨j, hj, hbegun⟩ := List.any_eq_true.mp h
    exact Bool.false_ne_true ((hidle j hj).symm.trans hbegun)

/-- The oldest own telegram goes out first (R128). -/
theorem beginDown_of_own (hi : i.own = true) (hb : ∀ j ∈ before, j.own = false) :
    beginDown (before ++ i :: after) = before ++ { i with begun := true } :: after := by
  rw [beginDown_of_idle hidle, if_pos (List.any_eq_true.mpr ⟨i, by simp, hi⟩), beginItem_append hb hi]

end

/-- With no own telegram the oldest forwarded one goes out (R128). -/
theorem beginDown_of_forwarded {i : DownItem} {after : List DownItem} (hidle : ∀ j ∈ i :: after, j.begun = false) (hno : ∀ j ∈ i :: after, j.own = false) :
    beginDown (i :: after) = { i with begun := true } :: after := by
  have hany : ¬ (i :: after).any (fun j => j.own) = true := fun h => by
    obtain ⟨j, hj, hown⟩ := List.any_eq_true.mp h
    exact Bool.false_ne_true ((hno j hj).symm.trans hown)
  exact (beginDown_of_idle (before := []) hidle).trans ((if_neg hany).trans (if_pos rfl))

namespace State
variable {s : State} {x : Lift}

theorem liftSent_of_idle (h : ∀ j ∈ (s.link x).down, j.begun = false) : s.liftSent x = s := by
  unfold liftSent
  dsimp only
  rw [List.find?_eq_none.mpr fun j hj => by rw [h j hj]; exact Bool.false_ne_true]

/-- The place of the telegram that has gone out is freed (R128, R135). -/
theorem liftSent_of_begun {before after : List DownItem} {i : DownItem} (hq : (s.link x).down = before ++ i :: after)
    (hi : i.begun = true) (hrest : ∀ j ∈ before ++ after, j.begun = false) : s.liftSent x = s.setLink x { s.link x with
      down := before ++ after
      ownTag := if i.tel.kind = 0x12 then (s.link x).ownTag + 1 else (s.link x).ownTag } := by
  obtain ⟨hb, ha⟩ := List.forall_mem_append.mp hrest
  have hfind : (before ++ i :: after).find? (fun j => j.begun) = some i :=
    List.find?_eq_some_iff_append.mpr ⟨hi, before, after, rfl, fun j hj => by rw [hb j hj]; rfl⟩
  have hleft : (before ++ i :: after).filter (fun j => !j.begun) = before ++ after := by
    rw [List.filter_append, List.filter_cons_of_neg (by simp [hi]), List.filter_eq_self.mpr fun j hj => by rw [hb j hj]; rfl,
      List.filter_eq_self.mpr fun j hj => by rw [ha j hj]; rfl]
  unfold liftSent
  dsimp only
  simp only [hq, hfind, hleft]
  rfl

end State

/-- Settles O35: the choice of the next telegram on a lift link, and the place that is freed when it has gone out. -/
theorem liftTransmitter : Obligations.LiftTransmitter := by
  unfold Obligations.LiftTransmitter
  refine fun s x => ⟨fun before i after hidle hq hi => ?begins, fun hbusy => ?busy, fun before i after hq hi hrest => ?sent,
    fun hidle => congrArg Host.Outcome.next (State.liftSent_of_idle hidle)⟩
  case begins =>
    refine congrArg (fun l => Host.Outcome.next (s.setLink x { s.link x with down := l })) ?_
    rw [hq] at hidle hi ⊢
    rcases hi with ⟨hown, hb⟩ | ⟨rfl, hno⟩
    · exact beginDown_of_own hidle hown hb
    · exact beginDown_of_forwarded hidle hno
  case busy =>
    have hsame : beginDown (s.link x).down = (s.link x).down := by
      rcases hbusy with hbegun | hempty
      · exact beginDown_of_begun hbegun
      · rw [hempty]
        rfl
    show Host.Outcome.next (s.setLink x { s.link x with down := beginDown (s.link x).down }) = _
    rw [hsame]
    exact congrArg Host.Outcome.next (s.setLink_self x)
  case sent => exact congrArg Host.Outcome.next (State.liftSent_of_begun hq hi hrest)

end Sys2Proof.Machine

/-! ## The order of turns (O36) -/

namespace Sys2Proof.Machine

theorem included_iff (p : LevelPresence) (probe : Bool) :
    p.included probe = true ↔ (p = .online ∨ p = .returning) ∨ (probe = true ∧ p = .absent) := by
  cases p <;> simp [LevelPresence.included]

theorem probes_eq (count : Byte) {interval : Byte} (h : 1 ≤ interval.toNat) :
    probes count interval = decide (interval.toNat - 1 ≤ count.toNat) := by
  unfold probes
  rw [decide_eq_decide]
  omega

/-- The count that the end of the cycle under way leaves (R138). -/
def Bus.countAfter (b : Bus) : Byte := if b.cycle then (if b.probeCycle then 0 else b.probeCount + 1) else b.probeCount

/-- A cycle begins with the count that the cycle before it left (R138). -/
theorem Bus.beginCycle_endCycle (b : Bus) (interval : Byte) : b.endCycle.beginCycle interval =
    { b with
      pos := none, next := none, cycle := true, probeCycle := probes b.countAfter interval, probeCount := b.countAfter } := by
  unfold Bus.endCycle Bus.countAfter
  split <;> rfl

theorem Bus.endCycle_of_cycle {b : Bus} (h : b.cycle = true) : b.endCycle =
    { b with pos := none, next := none, cycle := false, probeCycle := false, probeCount := b.countAfter } := by
  unfold Bus.endCycle Bus.countAfter
  rw [if_pos h, if_pos h]

theorem Bus.endCycle_of_no_cycle {b : Bus} (h : b.cycle = false) : b.endCycle = { b with next := none } := by
  unfold Bus.endCycle
  rw [if_neg (by rw [h]; exact Bool.false_ne_true)]

/-- A level is above the position of the bus (R137). -/
def Bus.isAbove (b : Bus) (n : Level) : Bool :=
  match b.pos with
  | none => true
  | some m => m.val < n.val

theorem Bus.isAbove_iff (b : Bus) (n : Level) : b.isAbove n = true ↔ ∀ m, b.pos = some m → m < n := by
  unfold Bus.isAbove
  cases b.pos with
  | none => simp
  | some m => simp

namespace State
variable {s : State}

/-! ### The level that a cycle gives the next turn (R137) -/

/-- The lowest included level above the position. -/
theorem seek_eq_some_iff (b : Bus) (n : Level) : s.seek b = some n ↔
    (∀ m, b.pos = some m → m < n) ∧ (s.shuttle n).presence.included b.probeCycle = true
      ∧ ∀ k, k < n → (∀ m, b.pos = some m → m < k) → ¬ (s.shuttle k).presence.included b.probeCycle = true := by
  have hseek : s.seek b = (List.finRange 40).find? (fun n => b.isAbove n && (s.shuttle n).presence.included b.probeCycle) := rfl
  rw [hseek, find?_finRange_eq_some_iff]
  simp only [← Bus.isAbove_iff, Bool.and_eq_true, Bool.eq_false_iff, ne_eq, not_and, and_assoc]

theorem seek_eq_none_iff (b : Bus) : s.seek b = none ↔
    ∀ k, (∀ m, b.pos = some m → m < k) → ¬ (s.shuttle k).presence.included b.probeCycle = true := by
  have hseek : s.seek b = (List.finRange 40).find? (fun n => b.isAbove n && (s.shuttle n).presence.included b.probeCycle) := rfl
  rw [hseek, List.find?_eq_none]
  simp only [← Bus.isAbove_iff, Bool.and_eq_true, not_and, List.mem_finRange, true_imp_iff]

theorem anyPolled_iff (s : State) : s.anyPolled = true ↔ ∃ n, (s.shuttle n).presence.included true = true := by
  simp only [anyPolled, allLevels, List.any_eq_true, List.mem_finRange, true_and]

/-! ### A new cycle (R138) -/

theorem newCycle_of_found {b : Bus} {n : Level} (h : s.seek (b.beginCycle s.timing.probeInterval) = some n) (k : Nat) :
    s.newCycle (k + 1) b = { b.beginCycle s.timing.probeInterval with next := some n } := by
  unfold newCycle
  simp only [h]

theorem newCycle_of_empty {b : Bus} (h : s.seek (b.beginCycle s.timing.probeInterval) = none) (k : Nat) :
    s.newCycle (k + 1) b = s.newCycle k (b.beginCycle s.timing.probeInterval).endCycle := by
  conv_lhs => unfold newCycle
  simp only [h]

/-- Cycles that include no level count up to the next probe cycle (R138). -/
theorem newCycle_of_absent {n : Level} (hno : ∀ k, ¬ (s.shuttle k).presence.included false = true)
    (hn : (s.shuttle n).presence.included true = true) (hfirst : ∀ k, k < n → ¬ (s.shuttle k).presence.included true = true)
    {j k : Nat} (hjk : j < k) {b : Bus} (hb : b.probeCount.toNat + 1 + j = s.timing.probeInterval.toNat) :
    s.newCycle k b = { b with
      pos := none, next := some n, cycle := true, probeCycle := true
      probeCount := BitVec.ofNat 8 (s.timing.probeInterval.toNat - 1) } := by
  induction j generalizing k b with
  | zero =>
    obtain ⟨k, rfl⟩ := Nat.exists_eq_add_one_of_ne_zero (Nat.ne_zero_of_lt hjk)
    have hprobes : probes b.probeCount s.timing.probeInterval = true := decide_eq_true (by omega)
    have hcount : BitVec.ofNat 8 (s.timing.probeInterval.toNat - 1) = b.probeCount := by
      rw [show s.timing.probeInterval.toNat - 1 = b.probeCount.toNat by omega, BitVec.ofNat_toNat, BitVec.setWidth_eq]
    have hbegin : b.beginCycle s.timing.probeInterval = { b with pos := none, cycle := true, probeCycle := true } := by
      rw [Bus.beginCycle, hprobes]
    have hfound : s.seek (b.beginCycle s.timing.probeInterval) = some n := by
      rw [hbegin]
      exact (seek_eq_some_iff _ _).mpr ⟨fun _ => nofun, hn, fun k hk _ => hfirst k hk⟩
    rw [newCycle_of_found hfound, hbegin, hcount]
  | succ j ih =>
    obtain ⟨k, rfl⟩ := Nat.exists_eq_add_one_of_ne_zero (Nat.ne_zero_of_lt hjk)
    have hprobes : probes b.probeCount s.timing.probeInterval = false := decide_eq_false (by omega)
    have hbegin : b.beginCycle s.timing.probeInterval = { b with pos := none, cycle := true, probeCycle := false } := by
      rw [Bus.beginCycle, hprobes]
    have hempty : s.seek (b.beginCycle s.timing.probeInterval) = none := by
      rw [hbegin]
      exact (seek_eq_none_iff _).mpr fun k _ => hno k
    have hinterval := s.timing.probeInterval.isLt
    have hup : (b.probeCount + 1).toNat = b.probeCount.toNat + 1 := by
      rw [BitVec.toNat_add, show (1 : Byte).toNat = 1 from rfl]
      omega
    rw [newCycle_of_empty hempty, hbegin]
    refine (ih (Nat.lt_of_succ_lt_succ hjk) ?_).trans rfl
    show (b.probeCount + 1).toNat + 1 + j = _
    omega

/-! ### The look (R137, R138) -/

theorem look_of_found {n : Level} (hc : s.bus.cycle = true) (h : s.seek s.bus = some n) :
    s.look = { s.bus with next := some n } := by
  unfold look
  simp only [hc, if_true, h]

/-- With none left the cycle ends, and another begins while some level is polled. -/
theorem look_of_ended (h : s.bus.cycle = true → s.seek s.bus = none) :
    s.look = if s.anyPolled then s.newCycle 257 s.bus.endCycle else s.bus.endCycle := by
  have hnone : (if s.bus.cycle then s.seek s.bus else none) = none := by
    split
    next hc => exact h hc
    · rfl
  unfold look
  rw [hnone]

theorem nextStands_of_some {n : Level} (h : s.bus.next = some n) :
    s.nextStands = (s.shuttle n).presence.included s.bus.probeCycle := by
  unfold nextStands
  rw [h]

theorem nextStands_eq_false (h : ∀ n, s.bus.next = some n → ¬ (s.shuttle n).presence.included s.bus.probeCycle = true) :
    s.nextStands = false := by
  unfold nextStands
  split
  next n hn => exact Bool.eq_false_iff.mpr (h n hn)
  · rfl

/-- The end of a step with nothing passed on and nothing raised is the scheduler's look. -/
theorem finish_of_calm (ht : s.work.touched = false) (hr : s.work.raises = []) :
    s.finish = { s.lookDone with work := { s.work with touched := false, reeval := false, look := false, raises := [] } } := by
  have hsettle : s.lookDone.settle = s.lookDone := settle_of_untouched _ (by rw [lookDone_work, ht])
  have hwith : s.lookDone.finishWith Config.raiseBound = s.lookDone := by
    unfold Config.raiseBound finishWith
    dsimp only
    rw [hsettle, lookDone_work, hr]
  unfold finish
  dsimp only
  rw [hwith, lookDone_work]

/-- The end of a step in which the scheduler alone has work to do. -/
theorem finish_of_look (hw : s.work = { Work.done with look := true }) (hi : s.bus.turn = .idle) (hn : s.nextStands = false) :
    s.finish = { s with bus := s.look, work := Work.done } := by
  rw [finish_of_calm (by rw [hw]; rfl) (by rw [hw]; rfl), lookDone_of_set (by rw [hw]), schedule_of_idle hi hn, hw]
  rfl

end State

/-- Settles O36: the lowest level above the position, the end of a cycle, and the look at the end of an event. -/
theorem cycleOrder : Obligations.CycleOrder := by
  unfold Obligations.CycleOrder
  intro s hinterval present absent probing above included ended count
  have hincluded (n : Level) : (s.shuttle n).presence.included s.bus.probeCycle = true ↔ included n := included_iff _ _
  have hpolled (n : Level) : (s.shuttle n).presence.included true = true ↔ present n ∨ absent n := by
    simp only [included_iff, true_and]
    rfl
  have hany : s.anyPolled = true ↔ ∃ n, present n ∨ absent n := by
    simp only [s.anyPolled_iff, hpolled]
  have hprobing (c : Byte) : probes c s.timing.probeInterval = probing c := probes_eq c hinterval
  have hended (h : ended) : s.bus.cycle = true → s.seek s.bus = none := by
    intro hc
    have hnone := h.resolve_left (by rw [hc]; exact Bool.noConfusion)
    exact (State.seek_eq_none_iff _).mpr fun k hk => mt (hincluded k).mp (hnone k hk)
  have hbegin : s.bus.endCycle.beginCycle s.timing.probeInterval = { s.bus with
      pos := none, next := none, cycle := true, probeCycle := probing count, probeCount := count } := by
    rw [Bus.beginCycle_endCycle, hprobing]
    rfl
  have fromStart {b : Bus} (hpos : b.pos = none) {n : Level} : s.seek b = some n ↔
      (s.shuttle n).presence.included b.probeCycle = true ∧ ∀ k, k < n → ¬ (s.shuttle k).presence.included b.probeCycle = true := by
    simp [State.seek_eq_some_iff, hpos]
  refine ⟨fun n hc ha hi hfirst => ?found, fun hend => ⟨fun n hi hfirst => ?next, fun n hp hno ha hfirst => ?absents⟩,
    fun hno => ⟨fun hc => ?last, fun hc => ?still⟩, hany, State.schedule_of_turn, fun n hn hi => ?stands, fun hi hn => ?looks,
    ?finishes, fun hr => ?ends, fun hr hs hpoll t n ht hi => ?begins⟩
  case found =>
    exact State.look_of_found hc ((State.seek_eq_some_iff _ _).mpr ⟨ha, (hincluded n).mpr hi,
      fun k hk hak => mt (hincluded k).mp (hfirst k hak hk)⟩)
  case next =>
    have hpoll : s.anyPolled = true := hany.mpr ⟨n, hi.imp_right And.right⟩
    have hseek : s.seek (s.bus.endCycle.beginCycle s.timing.probeInterval) = some n := by
      rw [hbegin]
      refine (fromStart rfl).mpr ⟨(included_iff _ _).mpr hi, fun k hk hk' => ?_⟩
      exact ((included_iff _ _).mp hk').elim (hfirst k hk).1 (hfirst k hk).2
    rw [State.look_of_ended (hended hend), if_pos hpoll, State.newCycle_of_found hseek 256, hbegin]
  case absents =>
    have hpoll : s.anyPolled = true := hany.mpr ⟨n, .inr ha⟩
    have hlt : count.toNat + 1 < s.timing.probeInterval.toNat := by
      have := of_decide_eq_false hp
      omega
    have hcount : s.bus.endCycle.probeCount = count := by
      have := congrArg Bus.probeCount hbegin
      exact this
    have hlt' := s.timing.probeInterval.isLt
    have hno' (k : Level) : ¬ (s.shuttle k).presence.included false = true := fun h =>
      ((included_iff _ _).mp h).elim (hno k) fun ⟨hf, _⟩ => Bool.false_ne_true hf
    have hfirst' (k : Level) (hk : k < n) : ¬ (s.shuttle k).presence.included true = true := fun h =>
      ((hpolled k).mp h).elim (hno k) (hfirst k hk)
    rw [State.look_of_ended (hended hend), if_pos hpoll, State.newCycle_of_absent hno' ((hpolled n).mpr (.inr ha)) hfirst'
      (j := s.timing.probeInterval.toNat - 1 - count.toNat) (by omega) (by rw [hcount]; omega)]
    unfold Bus.endCycle
    split <;> rfl
  case last =>
    have hpoll : ¬ s.anyPolled = true := fun h => (hany.mp h).elim fun n hn => hn.elim (hno n).1 (hno n).2
    have hend : ended := .inr fun n _ hi => hi.elim (hno n).1 fun h => (hno n).2 h.2
    rw [State.look_of_ended (hended hend), if_neg hpoll, Bus.endCycle_of_cycle hc]
    rfl
  case still =>
    have hpoll : ¬ s.anyPolled = true := fun h => (hany.mp h).elim fun n hn => hn.elim (hno n).1 (hno n).2
    rw [State.look_of_ended (hended (.inl hc)), if_neg hpoll, Bus.endCycle_of_no_cycle hc]
  case stands => exact State.schedule_of_stands ((State.nextStands_of_some hn).trans ((hincluded n).mpr hi))
  case looks => exact State.schedule_of_idle hi (State.nextStands_eq_false fun n hsome => mt (hincluded n).mp (hn n hsome))
  case finishes =>
    rw [State.finish_bus, State.lookDone]
    split <;> rfl
  case ends =>
    have hwork : s.turnEnded.work = { Work.done with look := true } := congrArg (fun w : Work => { w with look := true }) hr
    rw [State.finish_of_look hwork rfl rfl, ← hr]
    rfl
  case begins =>
    obtain ⟨-, hfound, hnone, hrest⟩ := hs
    have hnobody (k : Level) : ¬ (s.shuttle k).presence.included true = true := fun hk =>
      Bool.false_ne_true (hpoll.symm.trans (s.anyPolled_iff.mpr ⟨k, hk⟩))
    have hnext : s.bus.next = none := Option.eq_none_iff_forall_ne_some.mpr fun k hk => by
      obtain ⟨-, hstands, -⟩ := hfound k hk
      exact hnobody k ((hpolled k).mpr (((hincluded k).mp hstands).imp_right And.right))
    obtain ⟨hcycle, -⟩ := hnone hi hnext
    obtain ⟨hpos, -⟩ := hrest hcycle
    have hself : (t.shuttle n).presence = .returning := by
      rw [ht, State.shuttle_setShuttle_self]
    have hother {k : Level} (hk : k ≠ n) : (t.shuttle k).presence = (s.shuttle k).presence := by
      rw [ht, State.shuttle_setShuttle_ne _ _ _ _ (Ne.symm hk)]
    have hbus : t.wantLook.bus = s.bus := by rw [ht]; rfl
    have hwork : t.wantLook.work = { Work.done with look := true } := by
      rw [ht]
      exact congrArg (fun w : Work => { w with look := true }) hr
    have hbeginning : t.wantLook.bus.endCycle.beginCycle t.wantLook.timing.probeInterval =
        { s.bus with next := none, cycle := true, probeCycle := probing s.bus.probeCount } := by
      have hcount : s.bus.countAfter = s.bus.probeCount := by rw [Bus.countAfter, hcycle]; rfl
      rw [hbus, show t.wantLook.timing = s.timing by rw [ht]; rfl, Bus.beginCycle_endCycle, hcount, hprobing, ← hpos]
    have hseek : t.wantLook.seek (t.wantLook.bus.endCycle.beginCycle t.wantLook.timing.probeInterval) = some n := by
      rw [hbeginning, State.seek_eq_some_iff]
      refine ⟨fun m hm => ?_, (included_iff _ _).mpr (.inl (.inr hself)), fun k hk _ hk' => hnobody k ?_⟩
      · exact absurd (hpos.symm.trans hm) (Option.some_ne_none m).symm
      · have hk' := (included_iff _ _).mp hk'
        rw [show (t.wantLook.shuttle k).presence = (s.shuttle k).presence from hother hk.ne] at hk'
        exact (included_iff _ _).mpr (hk'.imp_right fun h => ⟨rfl, h.2⟩)
    have hpolls : t.wantLook.anyPolled = true :=
      (State.anyPolled_iff _).mpr ⟨n, (included_iff _ _).mpr (.inl (.inr hself))⟩
    have hlook : t.wantLook.look = { s.bus with next := some n, cycle := true, probeCycle := probing s.bus.probeCount } := by
      rw [State.look_of_ended fun hc => absurd (hcycle.symm.trans ((congrArg Bus.cycle hbus).symm.trans hc)) Bool.false_ne_true,
        if_pos hpolls, State.newCycle_of_found hseek 256, hbeginning]
    have hstands : t.wantLook.nextStands = false := State.nextStands_eq_false fun k hk => by
      rw [hbus, hnext] at hk
      exact absurd hk (Option.some_ne_none k).symm
    rw [State.finish_of_look hwork (by rw [hbus, hi]) hstands, hlook, ht, ← hr]
    rfl

end Sys2Proof.Machine

/-! ## The frames of turns (O37) -/

namespace Sys2Proof.Machine

theorem beginFirst_append {n : Level} {before after : List LevelItem} {i : LevelItem} (hb : ∀ j ∈ before, j.level ≠ n)
    (hi : i.level = n) : beginFirst n (before ++ i :: after) = before ++ { i with begun := true } :: after := by
  induction before with
  | nil => exact if_pos hi
  | cons j js ih =>
    obtain ⟨hj, hjs⟩ := List.forall_mem_cons.mp hb
    rw [List.cons_append, beginFirst, if_neg hj, ih hjs]
    rfl

theorem isOwnTagged_iff (t : Tel) : t.isOwnTagged = true ↔ t.kind = 0x10 ∨ t.kind = 0x12 := by
  simp only [Tel.isOwnTagged, Bool.or_eq_true, decide_eq_true_eq]
  rfl

namespace State
variable {s : State} {n : Level}

theorem giveTurn_of_box {i : BoxItem} {is : List BoxItem} (h : (s.shuttle n).box = i :: is) : s.giveTurn n =
    State.setShuttle { s with bus := { s.bus with turn := .sending n i.tel } } n
      { s.shuttle n with box := { i with begun := true } :: is } := by
  unfold giveTurn
  simp only [h]
  rfl

section
variable (hb : (s.shuttle n).box = [])
include hb

theorem giveTurn_of_returning (hp : (s.shuttle n).presence = .returning) : s.giveTurn n =
    { s with bus := { s.bus with turn := .sending n (s.toward (.shuttle n) 0x12 s.bus.ownTag .nothing) } } := by
  unfold giveTurn
  simp only [hb, hp, if_true]
  rfl

variable (hp : (s.shuttle n).presence ≠ .returning)
include hp

theorem giveTurn_of_order {before after : List LevelItem} {i : LevelItem} (hq : s.bus.queue = before ++ i :: after) (hi : i.level = n)
    (hbefore : ∀ j ∈ before, j.level ≠ n) : s.giveTurn n =
    { s with bus := { s.bus with turn := .sending n i.tel, queue := before ++ { i with begun := true } :: after } } := by
  have hfind : (before ++ i :: after).find? (fun j => decide (j.level = n)) = some i :=
    List.find?_eq_some_iff_append.mpr ⟨decide_eq_true hi, before, after, rfl, fun j hj => by simpa using hbefore j hj⟩
  unfold giveTurn
  simp only [hb, if_neg hp, hq, hfind, beginFirst_append hbefore hi]

theorem giveTurn_of_poll (hq : ∀ j ∈ s.bus.queue, j.level ≠ n) : s.giveTurn n =
    { s with bus := { s.bus with turn := .sending n (s.toward (.shuttle n) 0x10 s.bus.ownTag .nothing) } } := by
  have hfind : s.bus.queue.find? (fun j => decide (j.level = n)) = none :=
    List.find?_eq_none.mpr fun j hj => by simpa using hq j hj
  unfold giveTurn
  simp only [hb, if_neg hp, hfind]
  rfl

end

theorem startTurn_of_busy (h : s.bus.turn ≠ .idle) : s.startTurn = s := by
  unfold startTurn
  cases ht : s.bus.turn with
  | idle => exact absurd ht h
  | sending m t => rfl
  | awaiting m => rfl

theorem startTurn_of_none (hi : s.bus.turn = .idle) (hn : s.bus.next = none) : s.startTurn = s := by
  unfold startTurn
  rw [hi, hn]

theorem startTurn_of_next (hi : s.bus.turn = .idle) (hn : s.bus.next = some n) :
    s.startTurn = State.giveTurn { s with bus := { s.bus with pos := some n, next := none } } n := by
  unfold startTurn
  rw [hi, hn]

theorem frameSent_of_not_sending (h : ∀ n t, s.bus.turn ≠ .sending n t) : s.frameSent = s := by
  unfold frameSent
  cases ht : s.bus.turn with
  | idle => rfl
  | sending m t => exact absurd ht (h m t)
  | awaiting m => rfl

variable {t : Tel}

theorem frameSent_of_ownTagged (ht : s.bus.turn = .sending n t) (hk : t.isOwnTagged = true) :
    s.frameSent = { s with bus := { s.bus with turn := .awaiting n, rx := .ready, ownTag := s.bus.ownTag + 1 } } := by
  unfold frameSent
  rw [ht]
  exact if_pos hk

/-- A frame that has been sent leaves its place (R139, R140). -/
theorem frameSent_of_queued (ht : s.bus.turn = .sending n t) (hk : ¬ t.isOwnTagged = true) :
    s.frameSent = State.setShuttle { s with bus := { s.bus with
        turn := .awaiting n, rx := .ready, queue := s.bus.queue.filter (fun i => i.level ≠ n ∨ i.begun = false) } } n
      { s.shuttle n with box := (s.shuttle n).box.filter (fun i => i.begun = false) } := by
  have hqueue : s.bus.queue.filter (fun i => !(i.level = n && i.begun)) =
      s.bus.queue.filter (fun i => i.level ≠ n ∨ i.begun = false) :=
    List.filter_congr fun i _ => by by_cases hl : i.level = n <;> simp [hl]
  have hbox : (s.shuttle n).box.filter (fun i => !i.begun) = (s.shuttle n).box.filter (fun i => i.begun = false) :=
    List.filter_congr fun i _ => by simp
  unfold frameSent
  rw [ht, ← hqueue, ← hbox]
  exact if_neg hk

end State

/-- Settles O37: the frame that a turn sends, and the end of its sending. -/
theorem turnFrames : Obligations.TurnFrames := by
  unfold Obligations.TurnFrames
  refine ⟨fun s => ⟨fun hi hn => congrArg Host.Outcome.next (State.startTurn_of_none hi hn),
      fun hb => congrArg Host.Outcome.next (State.startTurn_of_busy hb), fun n hi hn => ?given⟩,
    fun s => ⟨fun n t ht hk => congrArg Host.Outcome.next (State.frameSent_of_ownTagged ht ((isOwnTagged_iff t).mpr hk)),
      fun n t ht hp ha => congrArg Host.Outcome.next (State.frameSent_of_queued ht fun hk => ((isOwnTagged_iff t).mp hk).elim hp ha),
      fun hno => congrArg Host.Outcome.next (State.frameSent_of_not_sending hno)⟩⟩
  case given =>
    intro b r
    let u : State := { s with bus := b }
    have hstart : exec .turnStart s = .next (u.giveTurn n) :=
      congrArg Host.Outcome.next (State.startTurn_of_next hi hn)
    rw [hstart]
    exact ⟨fun i is hb => congrArg Host.Outcome.next (State.giveTurn_of_box (s := u) hb),
      fun hb hp => congrArg Host.Outcome.next (State.giveTurn_of_returning (s := u) hb hp),
      fun hb hp => ⟨fun before i after hq hl hbefore => congrArg Host.Outcome.next (State.giveTurn_of_order (s := u) hb hp hq hl hbefore),
        fun hq => congrArg Host.Outcome.next (State.giveTurn_of_poll (s := u) hb hp hq)⟩⟩

end Sys2Proof.Machine

/-! ## The bodies of machine telegrams (Table 6-5) -/

namespace Sys2Proof.Machine

theorem totesOf_eq_some_iff (bytes : List Byte) (l : List ToteRec) : totesOf bytes = some l ↔ bytes = l.flatMap toteBytes := by
  constructor
  · intro h
    induction bytes using totesOf.induct generalizing l with
    | case1 =>
      cases h
      rfl
    | case2 a b c d st dest r ih =>
      obtain ⟨k, hk, rfl⟩ := Option.map_eq_some_iff.mp h
      rw [List.flatMap_cons, toteBytes, be32_join32, ih k hk]
      rfl
    | case3 bytes h0 h6 =>
      unfold totesOf at h
      split at h
      · exact absurd rfl h0
      · exact absurd rfl (h6 _ _ _ _ _ _ _)
      · contradiction
  · rintro rfl
    induction l with
    | nil => rfl
    | cons r l ih =>
      show (totesOf (l.flatMap toteBytes)).map _ = _
      rw [ih, Option.map_some, join32_be32]

theorem countedTotes_eq_some_iff (c : Byte) (bytes : List Byte) (l : List ToteRec) :
    countedTotes c bytes = some l ↔ bytes = l.flatMap toteBytes ∧ l.length = c.toNat := by
  rw [countedTotes, Option.filter_eq_some_iff, totesOf_eq_some_iff, decide_eq_true_iff]

theorem emptyBody_eq_some_iff {t u : PartyTel} {b : List Byte} : emptyBody t b = some u ↔ b = [] ∧ t = u := by
  unfold emptyBody
  rw [Option.ite_none_right_eq_some, List.isEmpty_iff, Option.some.injEq]

theorem loadBodyOf_eq_some_iff {b : List Byte} {l : List ToteRec} :
    loadBodyOf b = some l ↔ l.length ≤ 255 ∧ b = BitVec.ofNat 8 l.length :: l.flatMap toteBytes := by
  cases b with
  | nil => simp [loadBodyOf]
  | cons c rest =>
    rw [show loadBodyOf (c :: rest) = countedTotes c rest from rfl, countedTotes_eq_some_iff, eq_toNat_iff, List.cons.injEq]
    exact ⟨fun ⟨hr, hl, hc⟩ => ⟨hl, hc, hr⟩, fun ⟨hl, hc, hr⟩ => ⟨hr, hl, hc⟩⟩

theorem unloadBodyOf_eq_some_iff {b : List Byte} {l : List ToteId} :
    unloadBodyOf b = some l ↔ l.length ≤ 255 ∧ b = BitVec.ofNat 8 l.length :: l.flatMap be32 := by
  cases b with
  | nil => simp [unloadBodyOf]
  | cons c rest =>
    rw [show unloadBodyOf (c :: rest) = countedIds c rest from rfl, countedIds_eq_some_iff, eq_toNat_iff, List.cons.injEq]
    exact ⟨fun ⟨hr, hl, hc⟩ => ⟨hl, hc, hr⟩, fun ⟨hl, hc, hr⟩ => ⟨hr, hl, hc⟩⟩

/-- The body of a PLACED or FETCHED is a handle before the body of an UNLOAD. -/
theorem reportBodyOf_eq_some_iff {b : List Byte} {h : Byte} {l : List ToteId} :
    reportBodyOf b = some (h, l) ↔ l.length ≤ 255 ∧ b = h :: BitVec.ofNat 8 l.length :: l.flatMap be32 := by
  rcases b with _ | ⟨k, _ | ⟨c, rest⟩⟩
  · simp [reportBodyOf]
  · simp [reportBodyOf]
  · have hcounted := unloadBodyOf_eq_some_iff (b := c :: rest) (l := l)
    rw [show unloadBodyOf (c :: rest) = countedIds c rest from rfl] at hcounted
    rw [show reportBodyOf (k :: c :: rest) = (countedIds c rest).map (fun l => (k, l)) from rfl, List.cons.injEq,
      Option.map_eq_some_iff]
    constructor
    · rintro ⟨m, hm, hp⟩
      cases hp
      exact ⟨(hcounted.mp hm).1, rfl, (hcounted.mp hm).2⟩
    · rintro ⟨hl, rfl, hb⟩
      exact ⟨l, hcounted.mpr ⟨hl, hb⟩, rfl⟩

theorem placeBodyOf_record_iff {p : Party} {b : List Byte} {w n : Byte} {r : ToteRec} :
    placeBodyOf p b = some (w, n, .record r) ↔ (∃ m, p = .shuttle m) ∧ b = [w, n] ++ toteBytes r := by
  rcases b with _ | ⟨w', _ | ⟨n', rest⟩⟩
  · simp [placeBodyOf]
  · simp [placeBodyOf]
  · cases p with
    | lift x => simp [placeBodyOf]
    | shuttle m =>
      have hone : totesOf rest = some [r] ↔ rest = toteBytes r := by
        rw [totesOf_eq_some_iff, List.flatMap_singleton]
      constructor
      · intro h
        unfold placeBodyOf at h
        dsimp only at h
        split at h
        next r' hr =>
          cases h
          exact ⟨⟨m, rfl⟩, congrArg _ (congrArg _ (hone.mp hr))⟩
        · contradiction
      · rintro ⟨-, hb⟩
        obtain ⟨rfl, htail⟩ := List.cons.inj hb
        obtain ⟨rfl, hrest⟩ := List.cons.inj htail
        unfold placeBodyOf
        simp only [hone.mpr hrest]

theorem placeBodyOf_ids_iff {p : Party} {b : List Byte} {w n : Byte} {l : List ToteId} :
    placeBodyOf p b = some (w, n, .ids l) ↔ (∃ x, p = .lift x) ∧ l.length = n.toNat ∧ b = [w, n] ++ l.flatMap be32 := by
  rcases b with _ | ⟨w', _ | ⟨n', rest⟩⟩
  · simp [placeBodyOf]
  · simp [placeBodyOf]
  · cases p with
    | shuttle m =>
      unfold placeBodyOf
      dsimp only
      split <;> simp
    | lift x =>
      rw [show placeBodyOf (.lift x) (w' :: n' :: rest) = (countedIds n' rest).map (fun l => (w', n', .ids l)) from rfl,
        Option.map_eq_some_iff]
      constructor
      · rintro ⟨k, hk, hp⟩
        cases hp
        obtain ⟨hrest, hlen⟩ := (countedIds_eq_some_iff _ _ _).mp hk
        exact ⟨⟨x, rfl⟩, hlen, congrArg _ (congrArg _ hrest)⟩
      · rintro ⟨-, hlen, hb⟩
        obtain ⟨rfl, htail⟩ := List.cons.inj hb
        obtain ⟨rfl, hrest⟩ := List.cons.inj htail
        exact ⟨l, (countedIds_eq_some_iff _ _ _).mpr ⟨hrest, hlen⟩, rfl⟩

theorem stateBodyOf_eq_some_iff {b : List Byte} {x : StateBody} : stateBodyOf b = some x ↔
    x.totes.length ≤ 255 ∧ (x.kind ≠ 2 → x.totes = []) ∧ b = [x.kind, x.station, x.firmware]
      ++ if x.kind = 2 then BitVec.ofNat 8 x.totes.length :: x.totes.flatMap toteBytes else [] := by
  obtain ⟨kind, station, firmware, totes⟩ := x
  dsimp only
  rcases b with _ | ⟨k, _ | ⟨st, _ | ⟨fw, rest⟩⟩⟩
  · simp [stateBodyOf]
  · simp [stateBodyOf]
  · simp [stateBodyOf]
  by_cases hk : k = 2
  · have hbody : stateBodyOf (k :: st :: fw :: rest) = (loadBodyOf rest).map (fun l => ⟨k, st, fw, l⟩) := by
      refine (if_pos hk : stateBodyOf (k :: st :: fw :: rest) = _).trans ?_
      cases rest <;> rfl
    rw [hbody, Option.map_eq_some_iff]
    constructor
    · rintro ⟨l, hl, hx⟩
      cases hx
      obtain ⟨hlen, hrest⟩ := loadBodyOf_eq_some_iff.mp hl
      exact ⟨hlen, fun h => absurd hk h, by rw [if_pos hk, hrest]; rfl⟩
    · rintro ⟨hlen, -, hb⟩
      obtain ⟨rfl, htail⟩ := List.cons.inj hb
      obtain ⟨rfl, htail⟩ := List.cons.inj htail
      obtain ⟨rfl, hrest⟩ := List.cons.inj htail
      rw [if_pos hk] at hrest
      exact ⟨totes, loadBodyOf_eq_some_iff.mpr ⟨hlen, hrest⟩, rfl⟩
  · have hbody : stateBodyOf (k :: st :: fw :: rest) = if rest.isEmpty then some ⟨k, st, fw, []⟩ else none := if_neg hk
    rw [hbody, Option.ite_none_right_eq_some, List.isEmpty_iff, Option.some.injEq]
    constructor
    · rintro ⟨rfl, hx⟩
      cases hx
      exact ⟨Nat.zero_le _, fun _ => rfl, by rw [if_neg hk]; rfl⟩
    · rintro ⟨-, hno, hb⟩
      obtain ⟨rfl, htail⟩ := List.cons.inj hb
      obtain ⟨rfl, htail⟩ := List.cons.inj htail
      obtain ⟨rfl, hrest⟩ := List.cons.inj htail
      rw [if_neg hk] at hrest
      exact ⟨hrest, by rw [hno hk]⟩

/-! ### The kind of a telegram and its body (Table 6-1) -/

/-- The kind of a telegram of a party (Table 6-3). -/
def PartyTel.kind : PartyTel → Byte
  | .idle => kIdle
  | .state _ => kState
  | .placeAsk _ _ _ => kPlaceAsk
  | .fetchAsk _ _ => kFetchAsk
  | .report .place _ _ => kPlaced
  | .report .fetch _ _ => kFetched
  | .quit _ => kQuit
  | .visitOpen _ _ _ => kVisitOpen
  | .visitClose => kVisitClose
  | .nextCall => kNextCall
  | .load _ => kLoad
  | .unload _ => kUnload

theorem branch_of_ite_eq_some {α : Type} {c : Prop} [Decidable c] {x y : Option α} {a : α} (h : (if c then x else y) = some a) :
    (c ∧ x = some a) ∨ y = some a := by
  by_cases hc : c
  · exact .inl ⟨hc, (if_pos hc).symm.trans h⟩
  · exact .inr ((if_neg hc).symm.trans h)

theorem kind_of_partyTelOf {p : Party} {k : Byte} {b : List Byte} {t : PartyTel} (h : partyTelOf p k b = some t) : k = t.kind := by
  have mapped {α : Type} {o : Option α} {f : α → PartyTel} (h : o.map f = some t) : ∃ a, t = f a := by
    obtain ⟨a, -, ha⟩ := Option.map_eq_some_iff.mp h
    exact ⟨a, ha.symm⟩
  have empty {u : PartyTel} (h : emptyBody u b = some t) : t = u := (emptyBody_eq_some_iff.mp h).2.symm
  unfold partyTelOf at h
  rcases branch_of_ite_eq_some h with ⟨hk, h⟩ | h
  · rw [hk, empty h]; rfl
  rcases branch_of_ite_eq_some h with ⟨hk, h⟩ | h
  · obtain ⟨a, rfl⟩ := mapped h; exact hk
  rcases branch_of_ite_eq_some h with ⟨hk, h⟩ | h
  · obtain ⟨a, rfl⟩ := mapped h; exact hk
  rcases branch_of_ite_eq_some h with ⟨hk, h⟩ | h
  · split at h
    · cases h; exact hk
    · exact absurd h (Option.some_ne_none t).symm
  rcases branch_of_ite_eq_some h with ⟨hk, h⟩ | h
  · obtain ⟨a, rfl⟩ := mapped h; exact hk
  rcases branch_of_ite_eq_some h with ⟨hk, h⟩ | h
  · obtain ⟨a, rfl⟩ := mapped h; exact hk
  rcases branch_of_ite_eq_some h with ⟨hk, h⟩ | h
  · split at h
    · cases h; exact hk
    · exact absurd h (Option.some_ne_none t).symm
  rcases branch_of_ite_eq_some h with ⟨hk, h⟩ | h
  · split at h
    · cases h; exact hk
    · exact absurd h (Option.some_ne_none t).symm
  rcases branch_of_ite_eq_some h with ⟨hk, h⟩ | h
  · rw [hk, empty h]; rfl
  rcases branch_of_ite_eq_some h with ⟨hk, h⟩ | h
  · rw [hk, empty h]; rfl
  rcases branch_of_ite_eq_some h with ⟨hk, h⟩ | h
  · obtain ⟨a, rfl⟩ := mapped h; exact hk
  rcases branch_of_ite_eq_some h with ⟨hk, h⟩ | h
  · obtain ⟨a, rfl⟩ := mapped h; exact hk
  exact absurd h (Option.some_ne_none t).symm

/-- A kind that a party sends is read by the form of its body alone. -/
theorem partyTelOf_iff {p : Party} {t : PartyTel} {b : List Byte} {P : Prop} (hbody : partyTelOf p t.kind b = some t ↔ P) (k : Byte) :
    partyTelOf p k b = some t ↔ k = t.kind ∧ P := by
  constructor
  · intro h
    obtain rfl := kind_of_partyTelOf h
    exact ⟨rfl, hbody.mp h⟩
  · rintro ⟨rfl, hP⟩
    exact hbody.mpr hP

end Sys2Proof.Machine

/-! ## The telegrams of machines (O38) -/

namespace Sys2Proof.Machine

theorem takenFrom_iff (p : Party) (k : Byte) : takenFrom p k = true ↔
    k ∈ ([0x11, 0x13, 0x20, 0x21, 0x22, 0x23, 0x24] : List Byte)
      ∨ ((∃ x, p = .lift x) ∧ k ∈ ([0x30, 0x31, 0x33, 0x35, 0x36] : List Byte)) := by
  unfold takenFrom
  rw [Bool.or_eq_true, List.contains_iff_mem]
  cases p with
  | shuttle n => simp only [Bool.false_eq_true, reduceCtorEq, exists_false, false_and]; rfl
  | lift x =>
    simp only [List.contains_iff_mem, Party.lift.injEq, exists_eq', true_and]
    rfl

/-- What is handed to a block is traffic of Table 6-3 and no report. -/
theorem known_of_taken {p : Party} {k : Byte} (h : takenFrom p k = true) : knownKind k = true ∧ isReport k = false := by
  rcases (takenFrom_iff p k).mp h with h | ⟨-, h⟩
  all_goals
    revert h
    simp only [List.mem_cons, List.not_mem_nil, or_false]
    rintro (rfl | rfl | rfl | rfl | rfl | rfl | rfl) <;> decide

namespace State

/-! ### Steps 5 to 8 of R120 for a telegram of a party -/

section
variable {s : State} {p : Party} {f : Frame}

theorem judgeMachine_of_unknown (hk : ¬ knownKind f.kind = true) : s.judgeMachine p f = s.raise .linkForm (some p) :=
  if_pos (by simpa using hk)

variable (hk : knownKind f.kind = true)
include hk

theorem judgeMachine_of_known : s.judgeMachine p f =
    if !(s.machineSrc p f && s.machineDst f) then s.raise .route (some p)
    else if f.dstAisle = 0 ∧ isReport f.kind = true then s.forwardReport p f.tel
    else if f.dstAisle = s.store.unique ∧ takenFrom p f.kind = true then
      ((partyTelOf p f.kind f.body).map (s.handOn p f.tag)).getD (s.raise .linkForm (some p))
    else s.raise .linkForm (some p) := by
  unfold judgeMachine
  rw [if_neg (by simp [hk])]
  cases partyTelOf p f.kind f.body <;> rfl

theorem judgeMachine_of_misrouted (hr : ¬ (s.machineSrc p f = true ∧ s.machineDst f = true)) :
    s.judgeMachine p f = s.raise .route (some p) := by
  rw [judgeMachine_of_known hk, if_pos (by rw [Bool.not_eq_true', Bool.eq_false_iff, ne_eq, Bool.and_eq_true]; exact hr)]

variable (hr : s.machineSrc p f = true ∧ s.machineDst f = true)
include hr

theorem judgeMachine_of_upward (h0 : f.dstAisle = 0) (hreport : isReport f.kind = true) :
    s.judgeMachine p f = s.forwardReport p f.tel := by
  rw [judgeMachine_of_known hk, if_neg (by simp [hr]), if_pos ⟨h0, hreport⟩]

theorem judgeMachine_of_untaken (hno : ¬ (f.dstAisle = 0 ∧ isReport f.kind = true))
    (htaken : ¬ (f.dstAisle = s.store.unique ∧ takenFrom p f.kind = true)) : s.judgeMachine p f = s.raise .linkForm (some p) := by
  rw [judgeMachine_of_known hk, if_neg (by simp [hr]), if_neg hno, if_neg htaken]

omit hk in
theorem judgeMachine_of_taken (hd : f.dstAisle = s.store.unique) (htaken : takenFrom p f.kind = true) :
    s.judgeMachine p f = ((partyTelOf p f.kind f.body).map (s.handOn p f.tag)).getD (s.raise .linkForm (some p)) := by
  obtain ⟨hk, hreport⟩ := known_of_taken htaken
  rw [judgeMachine_of_known hk, if_neg (by simp [hr]), if_neg (by simp [hreport]), if_pos ⟨hd, htaken⟩]

end

/-- The source of a machine telegram; a shuttle's station has been compared before (R125). -/
theorem machineSrc_iff {s : State} {p : Party} {f : Frame} (hst : ∀ n, p = .shuttle n → f.srcStation = p.station) :
    s.machineSrc p f = true ↔ f.srcAisle = s.store.unique ∧ f.srcStation = p.station := by
  unfold machineSrc
  cases p with
  | shuttle n => simp [hst n rfl]
  | lift x => simp [station_lift]

theorem machineDst_iff {s : State} {f : Frame} : s.machineDst f = true ↔
    (f.dstStation = 0 ∧ f.dstAisle = s.store.unique) ∨ (f.dstStation = 0 ∧ f.dstAisle = 0) := by
  simp only [machineDst, Bool.and_eq_true, Bool.or_eq_true, decide_eq_true_eq, and_or_left]

end State

/-! ### The kinds whose body has a fixed number of bytes (Table 6-5) -/

theorem partyTelOf_fetchAsk_iff (p : Party) (body : List Byte) (w n : Byte) :
    partyTelOf p kFetchAsk body = some (.fetchAsk w n) ↔ body = [w, n] := by
  rcases body with _ | ⟨a, _ | ⟨b, _ | ⟨c, r⟩⟩⟩
  case cons.cons.nil =>
    show some (PartyTel.fetchAsk a b) = _ ↔ _
    simp
  all_goals
    show (none : Option PartyTel) = _ ↔ _
    simp

theorem partyTelOf_quit_iff (p : Party) (body : List Byte) (h : Byte) : partyTelOf p kQuit body = some (.quit h) ↔ body = [h] := by
  rcases body with _ | ⟨a, _ | ⟨b, r⟩⟩
  case cons.nil =>
    show some (PartyTel.quit a) = _ ↔ _
    simp
  all_goals
    show (none : Option PartyTel) = _ ↔ _
    simp

theorem partyTelOf_visitOpen_iff (p : Party) (body : List Byte) (l q f : Byte) :
    partyTelOf p kVisitOpen body = some (.visitOpen l q f) ↔ body = [l, q, f] := by
  rcases body with _ | ⟨a, _ | ⟨b, _ | ⟨c, _ | ⟨d, r⟩⟩⟩⟩
  case cons.cons.cons.nil =>
    show some (PartyTel.visitOpen a b c) = _ ↔ _
    simp
  all_goals
    show (none : Option PartyTel) = _ ↔ _
    simp

/-- The body of a STATE fits when a lift's carriage does, and a shuttle's has none. -/
theorem stateBody_fits_iff (b : StateBody) :
    b.fits = true ↔ (b.kind = 2 ∧ 4 + 6 * b.totes.length ≤ 48) ∨ (b.kind ≠ 2 ∧ b.totes = []) := by
  unfold StateBody.fits StateBody.length bodyFits
  by_cases hk : b.kind = 2
  · rw [if_pos (.inl hk)]
    simp only [hk, decide_true, Bool.true_or, Bool.and_true, decide_eq_true_eq, true_and, ne_eq, not_true, false_and, or_false]
  · by_cases ht : b.totes = []
    · rw [if_neg (not_or.mpr ⟨hk, not_not.mpr ht⟩)]
      simp only [hk, ht, List.isEmpty_nil, Bool.or_true, decide_eq_true_eq, Bool.and_true, ne_eq, not_false_eq_true, and_self,
        or_true, iff_true]
      decide
    · simp only [hk, ht, List.isEmpty_iff, Bool.and_eq_true, Bool.or_eq_true, decide_eq_true_eq, false_and, and_false, or_self]

/-! ### Reception -/

theorem turnAnswer_of_sound {s : State} {n : Level} {cs : List Character} {f : Frame} (ht : s.bus.turn = .awaiting n)
    (hr : s.bus.rx.take cs = (.hunt, .sound f)) : s.arrive .levelBus cs =
      if f.srcStation = (Party.shuttle n).station then (s.heard (.shuttle n)).judgeMachine (.shuttle n) f else s.turnEnded.miss n := by
  rw [State.arrive_levelBus ht, hr, ← goodAnswer_endTurn]
  rfl

theorem arrive_link_of_sound {s : State} {x : Lift} {cs : List Character} {f : Frame} (hr : (s.link x).rx.take cs = (.hunt, .sound f)) :
    s.arrive (.link x) cs = (s.heard (.lift x)).judgeMachine (.lift x) f := by
  rw [State.arrive, show s.rx (.link x) = (s.link x).rx from rfl, hr]
  show ((s.setLink x { s.link x with rx := .hunt }).linkHunt x).judgeMachine (.lift x) f = _
  rw [State.linkHunt, State.setLink_setLink, State.link_setLink_self]
  rfl

/-- Settles O38: the steps that judge a machine telegram, its bodies, and the commands that stand for telegrams. -/
theorem machineTelegrams : Obligations.MachineTelegrams := by
  unfold Obligations.MachineTelegrams
  refine ⟨fun s p cs f hrests => ?judging, fun p kind body t => ?bodies, fun s p tag hh => ?commands⟩
  case judging =>
    intro w judged
    have hunique : w.store.unique = s.store.unique := congrArg StoreLine.unique (store_heard s p)
    have used := upstreamUsed_heard (p := p) hrests
    have judges (hst : ∀ n, p = .shuttle n → f.srcStation = p.station) : judged (done (w.judgeMachine p f)) := by
      unfold judged
      intro failed own toController upward report handover known
      have hknown : knownKind f.kind = true ↔ known := knownKind_iff f.kind
      have hreport : isReport f.kind = true ↔ report := isReport_iff f.kind
      have hhandover : takenFrom p f.kind = true ↔ handover := takenFrom_iff p f.kind
      have hsrc : w.machineSrc p f = true ↔ own := by
        rw [State.machineSrc_iff hst, hunique]
      have hdst : w.machineDst f = true ↔ toController ∨ upward := by
        rw [State.machineDst_iff, hunique]
      have routed (ho : own) (hd : toController ∨ upward) : w.machineSrc p f = true ∧ w.machineDst f = true :=
        ⟨hsrc.mpr ho, hdst.mpr hd⟩
      refine ⟨fun hk => ?unknown, fun hk hr => ?misrouted, fun ho hu hr => ?reports, fun hk ho hd hnu hnt => ?untaken,
        fun ho hc ht => ?taken⟩
      case unknown => exact congrArg done (State.judgeMachine_of_unknown (mt hknown.mp hk))
      case misrouted => exact congrArg done (State.judgeMachine_of_misrouted (hknown.mpr hk) (by rw [hsrc, hdst]; exact hr))
      case reports =>
        obtain ⟨hst0, hda0⟩ := hu
        rw [State.judgeMachine_of_upward (hknown.mpr (.inl hr)) (routed ho (.inr ⟨hst0, hda0⟩)) hda0 (hreport.mpr hr)]
        unfold State.forwardReport
        refine ⟨fun hroom => ?_, fun hfull => ?_⟩
        · rw [if_pos (show w.upstreamUsed < Config.reportPlaces from used.trans_lt hroom), State.pushUpstream, store_heard]
          rfl
        · have hno : ¬ w.upstreamUsed < Config.reportPlaces := by
            rw [used]
            exact not_lt.mpr hfull
          have htel : f.tel.dstAisle = 0 ∧ f.tel.dstStation = 0 := ⟨hda0, hst0⟩
          rw [if_neg hno, htel.1, htel.2]
          show done (w.sendParty p (w.toParty p kNotForwarded f.tag (.notForwarded .full 0 0 f.kind f.tag)) none) = _
          rw [State.toParty, hunique]
          rfl
      case untaken =>
        refine congrArg done (State.judgeMachine_of_untaken (hknown.mpr hk) (routed ho hd) ?_ ?_)
        · rintro ⟨hda, hr⟩
          obtain ⟨hst0, -⟩ | ⟨hst0, -⟩ := hd
          all_goals exact hnu ⟨⟨hst0, hda⟩, hreport.mp hr⟩
        · rintro ⟨hda, ht⟩
          obtain ⟨hst0, -⟩ | ⟨hst0, -⟩ := hd
          all_goals exact hnt ⟨⟨hst0, hda.trans hunique⟩, hhandover.mp ht⟩
      case taken =>
        rw [State.judgeMachine_of_taken (routed ho (.inl hc)) (hc.2.trans hunique.symm) (hhandover.mpr ht)]
        refine ⟨fun t ht => ?_, fun ht => ?_⟩
        · rw [ht]
          rfl
        · rw [ht]
          rfl
    refine ⟨fun n hp ht hr => ?_, fun x first rest hp hcs hr => ?_⟩
    · subst hp
      have hexec : exec (.turnAnswer cs) s = done _ := congrArg done (turnAnswer_of_sound ht hr)
      refine ⟨fun hst => ?_, fun hst => ?_⟩
      · rw [hexec, if_neg hst]
        rfl
      · rw [hexec, if_pos hst]
        exact judges fun _ _ => hst
    · subst hp
      have hexec : exec (.discardedTelegram (.link x) first rest) s = done _ :=
        congrArg done ((congrArg (s.arrive (.link x)) hcs.symm).trans (arrive_link_of_sound hr))
      rw [hexec]
      exact judges fun n hn => Party.noConfusion hn
  case bodies =>
    have empty {u : PartyTel} : emptyBody u body = some u ↔ body = [] := emptyBody_eq_some_iff.trans (and_iff_left rfl)
    have mapped {α : Type} {o : Option α} {f : α → PartyTel} (hf : Function.Injective f) (a : α) :
        o.map f = some (f a) ↔ o = some a := ⟨fun h => Option.map_injective hf h, fun h => by rw [h]; rfl⟩
    cases t with
    | idle => exact partyTelOf_iff (t := .idle) empty kind
    | visitClose => exact partyTelOf_iff (t := .visitClose) empty kind
    | nextCall => exact partyTelOf_iff (t := .nextCall) empty kind
    | fetchAsk w n => exact partyTelOf_iff (t := .fetchAsk w n) (partyTelOf_fetchAsk_iff p body w n) kind
    | quit h => exact partyTelOf_iff (t := .quit h) (partyTelOf_quit_iff p body h) kind
    | visitOpen l q f => exact partyTelOf_iff (t := .visitOpen l q f) (partyTelOf_visitOpen_iff p body l q f) kind
    | state b =>
      exact partyTelOf_iff (t := .state b) ((mapped (fun _ _ => PartyTel.state.inj) b).trans stateBodyOf_eq_some_iff) kind
    | load l => exact partyTelOf_iff (t := .load l) ((mapped (fun _ _ => PartyTel.load.inj) l).trans loadBodyOf_eq_some_iff) kind
    | unload l =>
      exact partyTelOf_iff (t := .unload l) ((mapped (fun _ _ => PartyTel.unload.inj) l).trans unloadBodyOf_eq_some_iff) kind
    | placeAsk w n b =>
      have hplace : Function.Injective (fun x : Byte × Byte × PlaceBody => PartyTel.placeAsk x.1 x.2.1 x.2.2) := by
        rintro ⟨a, b, c⟩ ⟨d, e, f⟩ h
        cases h
        rfl
      cases b with
      | record r => exact partyTelOf_iff (t := .placeAsk w n (.record r)) ((mapped hplace (w, n, _)).trans placeBodyOf_record_iff) kind
      | ids l => exact partyTelOf_iff (t := .placeAsk w n (.ids l)) ((mapped hplace (w, n, _)).trans placeBodyOf_ids_iff) kind
    | report k h ids =>
      have hreport : Function.Injective (fun x : Byte × List ToteId => PartyTel.report k x.1 x.2) := by
        rintro ⟨a, b⟩ ⟨c, d⟩ h
        cases h
        rfl
      cases k with
      | place => exact partyTelOf_iff (t := .report .place h ids) ((mapped hreport (h, ids)).trans reportBodyOf_eq_some_iff) kind
      | fetch => exact partyTelOf_iff (t := .report .fetch h ids) ((mapped hreport (h, ids)).trans reportBodyOf_eq_some_iff) kind
  case commands =>
    intro handed
    have hands {length : ℕ} (t : PartyTel) (hl : length ≤ 48) : done (s.telegram p tag length true t) = handed t :=
      congrArg done (telegram_of_hears s p tag length t hh hl)
    refine ⟨hands .idle (by decide), fun w n r hp => ?_, fun w n l hp hlen hl => ?_, fun w n => hands _ (by decide),
      fun h ids hl => ⟨hands _ hl, hands _ hl⟩, fun h => hands _ (by decide), fun n b hp hb => ?_, fun x hp => ?_, fun b => ?fits⟩
    · obtain ⟨m, rfl⟩ := hp
      exact hands (length := 8) (.placeAsk w n (.record r)) (by decide)
    · obtain ⟨x, rfl⟩ := hp
      have hfits : PlaceBody.fits (.lift x) n (.ids l) = true := by
        simp only [PlaceBody.fits, PlaceBody.length, bodyFits, Bool.and_eq_true, decide_eq_true_eq]
        exact ⟨hlen, decide_eq_true hl⟩
      show done (s.telegram (.lift x) tag (2 + 4 * l.length) (PlaceBody.fits (.lift x) n (.ids l)) _) = _
      rw [hfits]
      exact hands _ hl
    · subst hp
      exact exec_shuttleState_of_hears hh tag hb
    · subst hp
      exact ⟨fun b hb => exec_state_of_hears hh tag hb, fun l q f => hands _ (by decide), hands _ (by decide), hands _ (by decide),
        fun l hl => hands _ hl, fun ids hl => hands _ hl⟩
    case fits => exact stateBody_fits_iff b

end Sys2Proof.Machine

/-! ## Operations that do not look at the levels' records -/

namespace Sys2Proof.Machine.State

/-- The same state with other records of the levels. -/
def withShuttles (s : State) (v : Vector ShuttleRec 40) : State := { s with shuttles := v }

/-- An operation neither looks at the levels' records nor changes them. -/
def Blind (f : State → State) : Prop := ∀ s v, f (s.withShuttles v) = (f s).withShuttles v

theorem Blind.comp {f g : State → State} (hg : Blind g) (hf : Blind f) : Blind (fun s => g (f s)) := fun s v =>
  (congrArg g (hf s v)).trans (hg (f s) v)

theorem Blind.foldl {α : Type} {f : State → α → State} (hf : ∀ a, Blind (fun s => f s a)) (l : List α) :
    Blind (fun s => l.foldl f s) := by
  intro s v
  induction l generalizing s with
  | nil => rfl
  | cons a l ih => exact (congrArg (l.foldl f) (hf a s v)).trans (ih (f s a))

/-- An operation that chooses by what is not a level's record. -/
theorem Blind.ite {c : State → Prop} [DecidablePred c] {f g : State → State} (hc : ∀ s v, c (s.withShuttles v) ↔ c s)
    (hf : Blind f) (hg : Blind g) : Blind (fun s => if c s then f s else g s) := by
  intro s v
  dsimp only
  by_cases h : c s
  · rw [if_pos h, if_pos ((hc s v).mpr h), hf]
  · rw [if_neg h, if_neg (mt (hc s v).mp h), hg]

theorem blind_makeNotice : Blind makeNotice :=
  .ite (fun _ _ => .rfl) (fun _ _ => rfl) (.ite (fun _ _ => .rfl) (fun _ _ => rfl) fun _ _ => rfl)

theorem blind_handFlag (f : Flag) : Blind (fun s => s.handFlag f) := by
  have hmakes : Blind (fun s => if s.notices.enabled.get f then s.makeNotice else s) :=
    .ite (fun _ _ => .rfl) blind_makeNotice fun _ _ => rfl
  exact hmakes.comp (f := fun s => { s with notices := NoticeUnit.make (s.notices.pending.put f) s.notices.enabled })
    fun _ _ => rfl

theorem blind_setMode (m : Mode) : Blind (fun s => s.setMode m) :=
  (blind_handFlag .mode).comp (f := fun s => { s with modeCtl := { s.modeCtl with mode := m, motion := m.permits } })
    fun _ _ => rfl

theorem blind_checkDrain : Blind checkDrain := .ite (fun _ _ => .rfl) (blind_setMode .config) fun _ _ => rfl

theorem blind_releaseClaim (n : Level) (c : SlotCode) (h : Handle) : Blind (fun s => s.releaseClaim n c h) := by
  intro s v
  have hslot : (s.withShuttles v).slot n c = s.slot n c := rfl
  dsimp only
  unfold releaseClaim
  rw [hslot]
  split
  · split <;> rfl
  all_goals rfl

theorem blind_releaseClaims (h : Handle) (items : List Item) : Blind (fun s => s.releaseClaims h items) :=
  .foldl (fun i => by
    cases i.slot with
    | none => exact fun _ _ => rfl
    | some x => exact blind_releaseClaim x.1 x.2 h) items

theorem blind_unpledge (items : List Item) : Blind (fun s => s.unpledge items) :=
  .foldl (fun i => by
    cases toteStream i.tote with
    | none => exact fun _ _ => rfl
    | some k => exact .ite (fun _ _ => .rfl) (fun _ _ => rfl) fun _ _ => rfl) items

theorem blind_removeEntry (h : Handle) (e : Entry) : Blind (fun s => s.removeEntry h e) := by
  have hpledges : Blind (fun s => if e.isLiftFetch && e.phase.isGranted then s.unpledge e.items else s) :=
    .ite (fun _ _ => .rfl) (blind_unpledge e.items) fun _ _ => rfl
  have hrest : Blind (fun s => (((s.dropConfirmAsks h).setEntry h none).wantReeval).checkDrain) :=
    blind_checkDrain.comp fun _ _ => rfl
  exact hrest.comp (hpledges.comp (blind_releaseClaims h e.items))

theorem blind_sendNotForwarded (r : Reason) (t : Tel) : Blind (fun s => s.sendNotForwarded r t) :=
  .ite (fun _ _ => .rfl) (fun _ _ => rfl) (.ite (fun _ _ => .rfl) (fun _ _ => rfl) fun _ _ => rfl)

end Sys2Proof.Machine.State

/-! ## What is sent upward -/

namespace Sys2Proof.Machine

/-- A change of telegrams that a test passes over is not seen in what the test picks. -/
theorem filter_map_of_passed_over {α : Type} {f : α → Bool} {g : α → α} (hf : ∀ a, f (g a) = f a) (hg : ∀ a, f a = true → g a = a)
    (l : List α) : (l.map g).filter f = l.filter f := by
  induction l with
  | nil => rfl
  | cons a l ih =>
    rw [List.map_cons]
    cases h : f a with
    | true => rw [List.filter_cons_of_pos ((hf a).trans h), List.filter_cons_of_pos h, ih, hg a h]
    | false => rw [List.filter_cons_of_neg (by rw [hf, h]; exact Bool.false_ne_true),
        List.filter_cons_of_neg (by rw [h]; exact Bool.false_ne_true), ih]

namespace State

/-- The NOT-FORWARDEDs of the upstream queue, in its order. -/
def notForwardeds (s : State) : List Tel := s.store.upstream.filter (fun x => x.kind = 0x40)

/-- The upstream queue has a NOTICE more at most, and its NOT-FORWARDEDs are the same. -/
structure Notified (s t : State) : Prop where
  same : t.notForwardeds = s.notForwardeds
  length_le : t.store.upstream.length ≤ s.store.upstream.length + 1

theorem Notified.of_upstream {s t : State} (h : t.store.upstream = s.store.upstream) : Notified s t where
  same := congrArg (List.filter _) h
  length_le := by rw [h]; exact Nat.le_succ _

theorem notified_makeNotice (s : State) : Notified s s.makeNotice := by
  have notice_passed_over {m : Tel} (hm : m.isNotice = true) : decide (m.kind = 0x40) = false := by
    rw [show m.kind = 0x54 from of_decide_eq_true hm]
    decide
  unfold makeNotice
  split
  · refine ⟨filter_map_of_passed_over (fun m => ?_) (fun m hm => ?_) _, (List.length_map ..).trans_le (Nat.le_succ _)⟩
    · split <;> rfl
    · refine if_neg fun hnotice => ?_
      exact Bool.false_ne_true ((notice_passed_over hnotice).symm.trans hm)
  · dsimp only
    split
    · refine ⟨?_, (List.length_append ..).le⟩
      exact (List.filter_append ..).trans (List.append_nil _)
    · exact .of_upstream rfl

theorem notified_handFlag (s : State) (f : Flag) : Notified s (s.handFlag f) := by
  unfold handFlag
  dsimp only
  split
  · have hmade := notified_makeNotice { s with notices := NoticeUnit.make (s.notices.pending.put f) s.notices.enabled }
    exact ⟨hmade.same, hmade.length_le⟩
  · exact .of_upstream rfl

theorem notified_checkDrain (s : State) : Notified s s.checkDrain := by
  unfold checkDrain
  split
  · have hset := notified_handFlag { s with modeCtl := { s.modeCtl with mode := .config, motion := Mode.config.permits } } .mode
    exact ⟨hset.same, hset.length_le⟩
  · exact .of_upstream rfl

theorem notified_removeEntry (s : State) (h : Handle) (e : Entry) : Notified s (s.removeEntry h e) := by
  have hstore : (s.removed h e).store = s.store := by rw [removed_keeps]
  obtain ⟨hsame, hlength⟩ := notified_checkDrain (s.removed h e)
  refine ⟨hsame.trans ?_, hlength.trans_eq ?_⟩
  · rw [notForwardeds, hstore]
    rfl
  · rw [hstore]

/-- What a removal leaves as it was. -/
theorem removeEntry_keeps (s : State) (h : Handle) (e : Entry) : s.removeEntry h e = { s with
    table := (s.removeEntry h e).table, slots := (s.removeEntry h e).slots, streams := (s.removeEntry h e).streams
    unsentAsks := (s.removeEntry h e).unsentAsks, store := (s.removeEntry h e).store, notices := (s.removeEntry h e).notices
    modeCtl := (s.removeEntry h e).modeCtl, work := { s.work with touched := true, reeval := true } } := by
  have hremoved := s.removed_keeps h e
  have hdrain := (s.removed h e).checkDrain_keeps
  rw [removeEntry_eq]
  generalize (s.removed h e).checkDrain = u at hdrain ⊢
  generalize s.removed h e = v at hdrain hremoved
  rw [hdrain]
  dsimp only
  rw [hremoved]

/-- The NOT-FORWARDED that answers an order (R134). -/
def notForwarded (s : State) (r : Reason) (t : Tel) : Tel :=
  s.upward 0x40 t.tag (.notForwarded r t.dstAisle t.dstStation t.kind t.tag)

theorem sendNotForwarded_of_room {s : State} (h : s.upstreamUsed < 64) (r : Reason) (t : Tel) :
    s.sendNotForwarded r t = { s with store := { s.store with upstream := s.store.upstream ++ [s.notForwarded r t] } } :=
  if_pos (decide_eq_true h)

/-- Orders answered NOT-FORWARDED in their order, while the upstream queue has room for all (R126, R134). -/
theorem foldl_sendNotForwarded_of_room {α : Type} (f : α → Tel) (r : Reason) (l : List α) {s : State} (h : s.upstreamUsed + l.length ≤ 64) :
    l.foldl (fun s i => s.sendNotForwarded r (f i)) s
      = { s with store := { s.store with upstream := s.store.upstream ++ l.map (fun i => s.notForwarded r (f i)) } } := by
  induction l generalizing s with
  | nil => rw [List.map_nil, List.append_nil]; rfl
  | cons a l ih =>
    rw [List.length_cons] at h
    have hused : State.upstreamUsed { s with store := { s.store with upstream := s.store.upstream ++ [s.notForwarded r (f a)] } }
        = s.upstreamUsed + 1 := by
      simp only [upstreamUsed, List.length_append, List.length_singleton]
      omega
    rw [List.foldl_cons, sendNotForwarded_of_room (by omega), ih (by rw [hused]; omega)]
    simp only [List.append_assoc, List.singleton_append, List.map_cons]
    rfl

theorem sendNotForwarded_keeps (s : State) (r : Reason) (t : Tel) : s.sendNotForwarded r t = { s with
    store := { s.store with upstream := (s.sendNotForwarded r t).store.upstream, nfWait := (s.sendNotForwarded r t).store.nfWait }
    work := { s.work with raises := (s.sendNotForwarded r t).work.raises } } := by
  unfold sendNotForwarded
  dsimp only
  split
  · rfl
  · split <;> rfl

theorem foldl_sendNotForwarded_keeps {α : Type} (f : α → Tel) (r : Reason) (l : List α) (s : State) :
    let u := l.foldl (fun s i => s.sendNotForwarded r (f i)) s
    u = { s with
      store := { s.store with upstream := u.store.upstream, nfWait := u.store.nfWait }
      work := { s.work with raises := u.work.raises } } := by
  induction l generalizing s with
  | nil => rfl
  | cons a l ih =>
    have hsent := s.sendNotForwarded_keeps r (f a)
    have hrest := ih (s.sendNotForwarded r (f a))
    dsimp only at hrest ⊢
    rw [List.foldl_cons]
    generalize l.foldl (fun s i => s.sendNotForwarded r (f i)) (s.sendNotForwarded r (f a)) = u at hrest ⊢
    generalize s.sendNotForwarded r (f a) = v at hsent hrest
    rw [hrest]
    dsimp only
    rw [hsent]

/-! ### A level leaves the cycles (R145, R149, R151) -/

theorem flushLevel_eq {s w : State} (hb : w.bus = s.bus) (n : Level) (r : Reason) : w.flushLevel n r =
    (s.waitingFor n).foldl (fun t i => t.sendNotForwarded r i.tel)
      { w with bus := { s.bus with queue := s.bus.queue.filter (fun i => i.level ≠ n) } } := by
  unfold flushLevel waitingFor
  rw [hb]

theorem flushLevel_keeps (s : State) (n : Level) (r : Reason) : s.flushLevel n r = { s with
    bus := { s.bus with queue := s.bus.queue.filter (fun i => i.level ≠ n) }
    store := { s.store with upstream := (s.flushLevel n r).store.upstream, nfWait := (s.flushLevel n r).store.nfWait }
    work := { s.work with raises := (s.flushLevel n r).work.raises } } := by
  rw [flushLevel_eq rfl]
  exact foldl_sendNotForwarded_keeps (fun i : LevelItem => i.tel) r (s.waitingFor n) _

theorem flushLevel_of_room {s : State} {n : Level} (h : s.upstreamUsed + (s.waitingFor n).length ≤ 64) (r : Reason) :
    s.flushLevel n r = { s with
      bus := { s.bus with queue := s.bus.queue.filter (fun i => i.level ≠ n) }
      store := { s.store with upstream := s.store.upstream ++ (s.waitingFor n).map (fun i => s.notForwarded r i.tel) } } := by
  rw [flushLevel_eq rfl]
  exact foldl_sendNotForwarded_of_room (fun i : LevelItem => i.tel) r (s.waitingFor n) h

theorem blind_flushLevel (n : Level) (r : Reason) : Blind (fun s => s.flushLevel n r) := fun s v =>
  Blind.foldl (fun i : LevelItem => blind_sendNotForwarded r i.tel) (s.waitingFor n)
    { s with bus := { s.bus with queue := s.bus.queue.filter (fun i => i.level ≠ n) } } v

section
variable {s : State} {n : Level}

theorem dropWaiting_of_none (h : s.entryOf (.shuttle n) = none) : s.dropWaiting n = s := by
  unfold dropWaiting
  rw [h]

variable {h : Handle} {e : Entry} (he : s.entryOf (.shuttle n) = some (h, e))
include he

theorem dropWaiting_of_granted (hg : e.phase.isGranted = true) : s.dropWaiting n = s := by
  unfold dropWaiting
  rw [he]
  exact if_pos hg

theorem dropWaiting_of_waiting (hg : e.phase.isGranted = false) : s.dropWaiting n = s.removeEntry h e := by
  unfold dropWaiting
  rw [he]
  exact if_neg (by rw [hg]; exact Bool.false_ne_true)

end

theorem dropWaiting_of_all_granted {s : State} {n : Level}
    (hg : ∀ h e, s.entryOf (.shuttle n) = some (h, e) → e.phase.isGranted = true) : s.dropWaiting n = s := by
  cases he : s.entryOf (.shuttle n) with
  | none => exact dropWaiting_of_none he
  | some x => exact dropWaiting_of_granted he (hg _ _ he)

/-- Without an entry of the shuttle, with a GRANTED one, and with one that is removed. -/
theorem dropWaiting_cases (s : State) (n : Level) : s.dropWaiting n = s ∨ ∃ h e, s.dropWaiting n = s.removeEntry h e := by
  cases he : s.entryOf (.shuttle n) with
  | none => exact .inl (dropWaiting_of_none he)
  | some x =>
    cases hg : x.2.phase.isGranted with
    | true => exact .inl (dropWaiting_of_granted he hg)
    | false => exact .inr ⟨x.1, x.2, dropWaiting_of_waiting he hg⟩

theorem dropWaiting_keeps (s : State) (n : Level) : s.dropWaiting n = { s with
    table := (s.dropWaiting n).table, slots := (s.dropWaiting n).slots, streams := (s.dropWaiting n).streams
    unsentAsks := (s.dropWaiting n).unsentAsks, store := (s.dropWaiting n).store, notices := (s.dropWaiting n).notices
    modeCtl := (s.dropWaiting n).modeCtl
    work := { s.work with touched := (s.dropWaiting n).work.touched, reeval := (s.dropWaiting n).work.reeval } } := by
  rcases s.dropWaiting_cases n with h | ⟨k, e, h⟩
  · rw [h]
  · have hkeeps := s.removeEntry_keeps k e
    rw [h]
    generalize s.removeEntry k e = u at hkeeps ⊢
    rw [hkeeps]

theorem notified_dropWaiting (s : State) (n : Level) : Notified s (s.dropWaiting n) := by
  rcases s.dropWaiting_cases n with h | ⟨k, e, h⟩
  · rw [h]
    exact .of_upstream rfl
  · rw [h]
    exact s.notified_removeEntry k e

theorem blind_dropWaiting (n : Level) : Blind (fun s => s.dropWaiting n) := fun s v => by
  have hentry : (s.withShuttles v).entryOf (.shuttle n) = s.entryOf (.shuttle n) := rfl
  dsimp only
  cases he : s.entryOf (.shuttle n) with
  | none => rw [dropWaiting_of_none he, dropWaiting_of_none (hentry.trans he)]
  | some x =>
    cases hg : x.2.phase.isGranted with
    | true => rw [dropWaiting_of_granted he hg, dropWaiting_of_granted (hentry.trans he) hg]
    | false =>
      rw [dropWaiting_of_waiting he hg, dropWaiting_of_waiting (hentry.trans he) hg]
      exact blind_removeEntry x.1 x.2 s v

/-- What is left of a level that leaves the cycles: its WAITING entry goes and its orders are answered. -/
def levelLeft (s : State) (n : Level) (r : Reason) : State := (s.dropWaiting n).flushLevel n r

theorem blind_levelLeft (n : Level) (r : Reason) : Blind (fun s => s.levelLeft n r) :=
  (blind_flushLevel n r).comp (blind_dropWaiting n)

/-- The box of a level can be emptied before what does not look at it. -/
theorem emptyBox_of_blind {f : State → State} (hf : Blind f) (s : State) (n : Level) (v : ShuttleRec) :
    (f (s.setShuttle n v)).emptyBox n = f (s.setShuttle n { v with box := [] }) := by
  have hset (w : ShuttleRec) : f (s.setShuttle n w) = (f s).withShuttles (s.setShuttle n w).shuttles :=
    hf s (s.setShuttle n w).shuttles
  have hself : (f (s.setShuttle n v)).shuttle n = v := by
    rw [hset]
    exact s.shuttle_setShuttle_self n v
  rw [emptyBox, hself, hset, hset]
  exact congrArg (withShuttles (f s)) (Vector.set_set ..)

section
variable (s : State) (n : Level) (r : Reason)

theorem levelLeft_keeps : s.levelLeft n r = { s with
    table := (s.dropWaiting n).table, slots := (s.levelLeft n r).slots, streams := (s.levelLeft n r).streams
    unsentAsks := (s.levelLeft n r).unsentAsks, store := (s.levelLeft n r).store, notices := (s.levelLeft n r).notices
    modeCtl := (s.levelLeft n r).modeCtl
    bus := { s.bus with queue := s.bus.queue.filter (fun i => i.level ≠ n) }
    work := { s.work with
      touched := (s.levelLeft n r).work.touched, reeval := (s.levelLeft n r).work.reeval, raises := (s.levelLeft n r).work.raises } } := by
  have hdrop := s.dropWaiting_keeps n
  have hflush := (s.dropWaiting n).flushLevel_keeps n r
  unfold levelLeft
  generalize (s.dropWaiting n).flushLevel n r = u at hflush ⊢
  generalize s.dropWaiting n = v at hdrop hflush ⊢
  rw [hflush]
  dsimp only
  rw [hdrop]

theorem levelLeft_of_waiting {h : Handle} {e : Entry} (he : s.entryOf (.shuttle n) = some (h, e)) (hg : e.phase.isGranted = false) :
    s.levelLeft n r = (s.waitingFor n).foldl (fun t i => t.sendNotForwarded r i.tel)
      { s.removeEntry h e with bus := { s.bus with queue := s.bus.queue.filter (fun i => i.level ≠ n) } } := by
  unfold levelLeft
  rw [dropWaiting_of_waiting he hg]
  exact flushLevel_eq (by rw [removeEntry_keeps]) n r

theorem levelLeft_of_all_granted (hg : ∀ h e, s.entryOf (.shuttle n) = some (h, e) → e.phase.isGranted = true) :
    s.levelLeft n r = (s.waitingFor n).foldl (fun t i => t.sendNotForwarded r i.tel)
      { s with bus := { s.bus with queue := s.bus.queue.filter (fun i => i.level ≠ n) } } := by
  unfold levelLeft
  rw [dropWaiting_of_all_granted hg]
  exact flushLevel_eq rfl n r

/-- The entry of the shuttle after its level has left. -/
theorem entry_levelLeft {h : Handle} {e : Entry} (he : s.entryOf (.shuttle n) = some (h, e)) (hg : e.phase.isGranted = false) :
    (s.levelLeft n r).entry h = none := by
  have htable : (s.levelLeft n r).table = (s.dropWaiting n).table := (congrArg State.table (s.levelLeft_keeps n r) :)
  rw [entry_of_table htable, dropWaiting_of_waiting he hg, entry_removeEntry, Function.update_self]

theorem table_levelLeft (hg : ∀ h e, s.entryOf (.shuttle n) = some (h, e) → e.phase.isGranted = true) :
    (s.levelLeft n r).table = s.table := by
  have htable : (s.levelLeft n r).table = (s.dropWaiting n).table := (congrArg State.table (s.levelLeft_keeps n r) :)
  rw [htable, dropWaiting_of_all_granted hg]

/-- The orders of a level that has left are answered in the order they were admitted, while there is room. -/
theorem notForwardeds_levelLeft {s : State} {n : Level} (hroom : s.upstreamUsed + (s.waitingFor n).length ≤ 63) (r : Reason) :
    (s.levelLeft n r).notForwardeds = s.notForwardeds ++ (s.waitingFor n).map (fun i => s.notForwarded r i.tel)
      ∧ (s.levelLeft n r).work.raises = s.work.raises := by
  obtain ⟨hsame, hlength⟩ := s.notified_dropWaiting n
  have hdrop := s.dropWaiting_keeps n
  have hbus : (s.dropWaiting n).bus = s.bus := (congrArg State.bus hdrop :)
  have hraises : (s.dropWaiting n).work.raises = s.work.raises := (congrArg (fun u => u.work.raises) hdrop :)
  have hreserved : (s.dropWaiting n).work.reserved = s.work.reserved := (congrArg (fun u => u.work.reserved) hdrop :)
  have hwaiting : (s.dropWaiting n).waitingFor n = s.waitingFor n := by rw [waitingFor, hbus]; rfl
  have hused : (s.dropWaiting n).upstreamUsed ≤ s.upstreamUsed + 1 := by
    unfold upstreamUsed
    rw [hreserved]
    omega
  have hunique : (s.dropWaiting n).store.unique = s.store.unique := by
    rcases s.dropWaiting_cases n with h | ⟨k, e, h⟩
    · rw [h]
    · rw [h]
      exact congrArg (fun f : Fixed => f.store.unique) (fixed_removeEntry s k e)
  have hsent := flushLevel_of_room (s := s.dropWaiting n) (n := n) (by rw [hwaiting]; omega) r
  have htels : ((s.waitingFor n).map (fun i => (s.dropWaiting n).notForwarded r i.tel))
      = (s.waitingFor n).map (fun i => s.notForwarded r i.tel) := by
    unfold notForwarded upward
    rw [hunique]
  refine ⟨?_, ?_⟩
  · unfold levelLeft
    rw [hsent, hwaiting, htels]
    show ((s.dropWaiting n).store.upstream ++ _).filter _ = _
    rw [List.filter_append]
    refine congrArg₂ (· ++ ·) hsame (List.filter_eq_self.mpr fun m hm => ?_)
    obtain ⟨i, -, rfl⟩ := List.mem_map.mp hm
    rfl
  · unfold levelLeft
    rw [hsent]
    exact hraises

end

end State

end Sys2Proof.Machine

/-! ## Misses and absence (O39) -/

namespace Sys2Proof.Machine

namespace State
variable {s : State} {n : Level}

/-- A level goes ABSENT: its record with the box empty, what is left of it, and POLL SILENCE (R145). -/
theorem goesAbsent_eq (s : State) (n : Level) (m : Nat) : s.goesAbsent n m =
    ((s.setShuttle n { s.shuttle n with presence := .absent, miss := m, box := [] }).levelLeft n .absent).raise .pollSilence
      (some (.shuttle n)) :=
  congrArg (fun u : State => u.raise .pollSilence (some (.shuttle n)))
    (emptyBox_of_blind (blind_levelLeft n .absent) s n { s.shuttle n with presence := .absent, miss := m })

theorem miss_of_unpolled (hp : ¬ ((s.shuttle n).presence = .online ∨ (s.shuttle n).presence = .returning)) : s.miss n = s := by
  unfold miss
  exact if_neg hp

section
variable (hp : (s.shuttle n).presence = .online ∨ (s.shuttle n).presence = .returning)
include hp

theorem miss_of_below (hm : min 15 ((s.shuttle n).miss + 1) < s.timing.missThreshold.toNat) :
    s.miss n = s.setShuttle n { s.shuttle n with miss := min 15 ((s.shuttle n).miss + 1) } := by
  unfold miss
  dsimp only
  rw [if_pos hp, if_neg (not_le.mpr hm)]

theorem miss_of_threshold (hm : s.timing.missThreshold.toNat ≤ min 15 ((s.shuttle n).miss + 1)) :
    s.miss n = s.goesAbsent n (min 15 ((s.shuttle n).miss + 1)) := by
  unfold miss
  dsimp only
  rw [if_pos hp, if_pos hm]

end

end State

theorem exec_turnStartLimit {s : State} {n : Level} (ht : s.bus.turn = .awaiting n) (hr : s.bus.rx = .ready) :
    exec .turnStartLimit s = .next (s.turnEnded.miss n).finish := by
  show execTurnStartLimit s = _
  unfold execTurnStartLimit
  simp only [ht, hr, if_true]
  rfl

theorem exec_turnStartLimit_of_unawaited {s : State} (h : (∀ n, s.bus.turn ≠ .awaiting n) ∨ s.bus.rx ≠ .ready) :
    exec .turnStartLimit s = .next s := by
  show execTurnStartLimit s = _
  unfold execTurnStartLimit
  cases ht : s.bus.turn with
  | idle => rfl
  | sending m t => rfl
  | awaiting m =>
    have hrx := h.resolve_left fun hno => hno m ht
    exact if_neg hrx

/-- Settles O39: a miss counted, a level that goes ABSENT, and what is left of it. -/
theorem missesAndAbsence : Obligations.MissesAndAbsence := by
  unfold Obligations.MissesAndAbsence
  refine ⟨fun s n hs ht hr => ?limit, fun s => exec_turnStartLimit_of_unawaited, fun s n _ => exec_turnStartLimit, fun s n => ?misses⟩
  case limit =>
    intro u r m
    have hexec : exec .turnStartLimit s = .next (u.miss n).finish := exec_turnStartLimit ht hr
    refine ⟨fun hp hm => hexec.trans (congrArg (fun t => Host.Outcome.next (State.finish t)) (State.miss_of_below (s := u) hp hm)),
      fun h1 h2 => hexec.trans (congrArg (fun t => Host.Outcome.next (State.finish t)) (State.miss_of_unpolled (s := u) fun hp => hp.elim h1 h2)),
      fun hp hm => ⟨u.miss n, hexec, ?_⟩⟩
    let w := u.setShuttle n { r with presence := .absent, miss := m, box := [] }
    have habsent : u.miss n = (w.levelLeft n .absent).raise .pollSilence (some (.shuttle n)) :=
      (State.miss_of_threshold (s := u) hp hm).trans (u.goesAbsent_eq n m)
    have hkeeps := w.levelLeft_keeps n .absent
    have hshuttle (k : Level) : (w.levelLeft n .absent).shuttle k = w.shuttle k := (congrArg (fun v : State => v.shuttle k) hkeeps :)
    rw [habsent]
    refine ⟨(hshuttle n).trans (u.shuttle_setShuttle_self n _),
      fun k hk => (hshuttle k).trans (u.shuttle_setShuttle_ne n k _ (Ne.symm hk)), (congrArg State.bus hkeeps :),
      (congrArg (fun v : State => v.work.look) hkeeps :),
      fun h e he => ⟨fun hg => w.table_levelLeft n .absent fun h' e' he' => ?_, fun hg => w.entry_levelLeft n .absent he hg⟩,
      fun he => w.table_levelLeft n .absent fun h' e' he' => absurd (he.symm.trans he') (Option.some_ne_none _).symm,
      fun hroom _ => ?_⟩
    · cases he.symm.trans he'
      exact hg
    · have hreserved : s.work.reserved = false := congrArg Work.reserved hs
      have hused : w.upstreamUsed = s.store.upstream.length :=
        congrArg (fun b : Bool => s.store.upstream.length + (if b then 1 else 0)) hreserved
      have hroom' : w.upstreamUsed + (w.waitingFor n).length ≤ 63 := by
        rw [hused]
        exact hroom.trans (by decide)
      obtain ⟨hsent, hraises⟩ := State.notForwardeds_levelLeft hroom' .absent
      have hnone : s.work.raises = [] := congrArg Work.raises hs
      refine ⟨hsent, ?_⟩
      show (w.levelLeft n .absent).work.raises ++ _ = _
      rw [hraises, show w.work.raises = [] from hnone]
      rfl
  case misses =>
    intro r m polled
    refine ⟨State.miss_of_below, State.miss_of_unpolled, fun hp hm => ?_⟩
    have habsent : s.miss n = _ := (State.miss_of_threshold (s := s) hp hm).trans (s.goesAbsent_eq n m)
    intro u answered
    rw [habsent]
    exact ⟨fun h e he hg => congrArg (fun v : State => v.raise .pollSilence (some (.shuttle n))) (u.levelLeft_of_waiting n .absent he hg),
      fun hg => congrArg (fun v : State => v.raise .pollSilence (some (.shuttle n))) (u.levelLeft_of_all_granted n .absent hg)⟩

end Sys2Proof.Machine

/-! ## What a notice depends on, and the end of a visit in DRAIN -/

namespace Sys2Proof.Machine.State

/-! ### Notices (R131, R190) -/

/-- Two states give the same notices (R131, R190). -/
structure NoticesAlike (s t : State) : Prop where
  store : s.store = t.store
  notices : s.notices = t.notices
  modeCtl : s.modeCtl = t.modeCtl
  faults : s.faults = t.faults
  reserved : s.work.reserved = t.work.reserved
  lowMarker : ∀ i, (s.stream i).lowMarker = (t.stream i).lowMarker

section
variable {s t : State} (h : NoticesAlike s t)
include h

theorem NoticesAlike.lowSet : s.lowSet = t.lowSet := by
  unfold State.lowSet lowMarkers
  simp only [h.lowMarker]

theorem NoticesAlike.noticeBody : s.noticeBody = t.noticeBody := by
  have hlead : s.leadFault = t.leadFault := by
    unfold leadFault faultRec
    rw [h.faults]
  have hmode : s.mode = t.mode := congrArg ModeCtl.mode h.modeCtl
  unfold State.noticeBody
  rw [h.notices, h.lowSet, hlead, hmode]

theorem NoticesAlike.placeFree : s.placeFree = t.placeFree := by
  unfold State.placeFree upstreamUsed
  rw [h.store, h.reserved]

theorem NoticesAlike.store_makeNotice : s.makeNotice.store = t.makeNotice.store := by
  have hrefresh : s.refreshNotice.store = t.refreshNotice.store := by
    unfold refreshNotice
    dsimp only
    rw [h.noticeBody, h.store]
  unfold makeNotice
  dsimp only
  rw [h.placeFree, h.noticeBody, h.store]
  unfold toStore
  rw [h.store]
  split
  · exact hrefresh
  · split
    · unfold pushUpstream
      rw [h.store]
    · rfl

/-- A flag handed on in one and in the other gives the same notices again (R190). -/
theorem NoticesAlike.handFlag (f : Flag) : NoticesAlike (s.handFlag f) (t.handFlag f) := by
  have hmade : NoticesAlike { s with notices := NoticeUnit.make (s.notices.pending.put f) s.notices.enabled }
      { t with notices := NoticeUnit.make (t.notices.pending.put f) t.notices.enabled } :=
    ⟨h.store, by rw [h.notices], h.modeCtl, h.faults, h.reserved, h.lowMarker⟩
  have hstore : (s.handFlag f).store = (t.handFlag f).store := by
    unfold State.handFlag
    dsimp only
    rw [h.notices]
    split
    · have := hmade.store_makeNotice
      rw [h.notices] at this
      exact this
    · exact h.store
  exact ⟨hstore, by rw [notices_handFlag, notices_handFlag, h.notices], by rw [s.handFlag_keeps, t.handFlag_keeps]; exact h.modeCtl,
    by rw [s.handFlag_keeps, t.handFlag_keeps]; exact h.faults, by rw [s.handFlag_keeps, t.handFlag_keeps]; exact h.reserved,
    by rw [s.handFlag_keeps, t.handFlag_keeps]; exact h.lowMarker⟩

theorem NoticesAlike.setMode (m : Mode) : NoticesAlike (s.setMode m) (t.setMode m) := by
  have hset : NoticesAlike { s with modeCtl := { s.modeCtl with mode := m, motion := m.permits } }
      { t with modeCtl := { t.modeCtl with mode := m, motion := m.permits } } :=
    ⟨h.store, h.notices, by rw [h.modeCtl], h.faults, h.reserved, h.lowMarker⟩
  exact hset.handFlag .mode

end

/-! ### A lift's own telegrams (R128) -/

theorem sendLift_of_room {s : State} {x : Lift} (h : (s.link x).down.length < 8) (t : Tel) :
    s.sendLift x t = s.setLink x { s.link x with down := (s.link x).down ++ [⟨t, true, false⟩] } := if_pos h

theorem sendLift_of_full {s : State} {x : Lift} (h : 8 ≤ (s.link x).down.length) (t : Tel) :
    s.sendLift x t = s.raise .queueOverrun (some (.lift x)) := if_neg (not_lt.mpr h)

/-! ### The end of a visit in DRAIN (R162) -/

/-- The state after the visit of a lift has ended in DRAIN, before the return to CONFIG is looked for. -/
def drained (s : State) (p : Party) : State :=
  match p with
  | .shuttle _ => s
  | .lift x => match (s.lift x).visit with
    | none => s
    | some v => if s.mode = .drain then s.visitEnded x v.tag v else s

theorem drained_of_no_visit {s : State} {x : Lift} (hv : (s.lift x).visit = none) : s.drained (.lift x) = s := by
  unfold drained
  simp only [hv]

theorem drained_of_not_drain {s : State} (hm : s.mode ≠ .drain) (p : Party) : s.drained p = s := by
  cases p with
  | shuttle n => rfl
  | lift x =>
    cases hv : (s.lift x).visit with
    | none => exact drained_of_no_visit hv
    | some v =>
      unfold drained
      simp only [hv, if_neg hm]

theorem drained_of_visit {s : State} (hm : s.mode = .drain) {x : Lift} {v : Visit} (hv : (s.lift x).visit = some v) :
    s.drained (.lift x) = s.visitEnded x v.tag v := by
  unfold drained
  simp only [hv, hm, if_true]

/-- The return to CONFIG is looked for once more at the end: it comes to the same. -/
theorem drainVisit_checkDrain (s : State) (p : Party) : s.checkDrain.drainVisit p = (s.drained p).checkDrain := by
  cases p with
  | shuttle n => rfl
  | lift x =>
    by_cases hm : s.mode = .drain
    · cases hv : (s.lift x).visit with
      | none =>
        rw [drained_of_no_visit hv]
        have hnone : s.checkDrain.endVisit x none = s.checkDrain := endVisit_of_none (by rw [lift_checkDrain, hv]) none
        unfold drainVisit
        dsimp only
        rw [hnone, ite_self]
      | some v =>
        have hsame : s.checkDrain = s := checkDrain_of_not_last (.inr (.inr ⟨x, by rw [hv]; exact Option.some_ne_none _⟩))
        rw [hsame, drained_of_visit hm hv]
        exact (if_pos hm).trans (endVisit_of_some hv none)
    · rw [checkDrain_of_not_last (.inl hm), drained_of_not_drain hm, checkDrain_of_not_last (.inl hm)]
      exact if_neg hm

theorem drained_keeps (s : State) (p : Party) : s.drained p = { s with
    coord := (s.drained p).coord, links := (s.drained p).links
    work := { s.work with raises := (s.drained p).work.raises } } := by
  by_cases hm : s.mode = .drain
  · cases p with
    | shuttle n => rfl
    | lift x =>
      cases hv : (s.lift x).visit with
      | none => rw [drained_of_no_visit hv]
      | some v => rw [drained_of_visit hm hv]; exact s.visitEnded_keeps x v.tag v
  · rw [drained_of_not_drain hm]

/-- The lift whose visit ends, and the other lift. -/
theorem lift_drained (s : State) (p : Party) (y : Lift) : (s.drained p).lift y =
    if s.mode = .drain ∧ p = .lift y then { s.lift y with visit := none } else s.lift y := by
  by_cases hm : s.mode = .drain
  · cases p with
    | shuttle n => exact (if_neg fun h => Party.noConfusion h.2).symm
    | lift x =>
      have hparty : (Party.lift x = .lift y) ↔ y = x := ⟨fun h => (Party.lift.inj h).symm, fun h => by rw [h]⟩
      cases hv : (s.lift x).visit with
      | none =>
        rw [drained_of_no_visit hv]
        split
        next h =>
          rw [hparty.mp h.2, ← hv]
        · rfl
      | some v =>
        rw [drained_of_visit hm hv, lift_visitEnded]
        simp only [hm, hparty, true_and]
        split
        next h => rw [h]
        · rfl
  · rw [drained_of_not_drain hm, if_neg fun h => hm h.1]

theorem link_drained_of_kept {s : State} {p : Party} {y : Lift} (h : ¬ (s.mode = .drain ∧ p = .lift y) ∨ (s.lift y).visit = none) :
    (s.drained p).link y = s.link y := by
  by_cases hm : s.mode = .drain
  · cases p with
    | shuttle n => rfl
    | lift x =>
      cases hv : (s.lift x).visit with
      | none => rw [drained_of_no_visit hv]
      | some v =>
        rw [drained_of_visit hm hv]
        refine s.link_visitEnded_ne x _ _ fun hy => ?_
        subst hy
        exact h.elim (fun hno => hno ⟨hm, rfl⟩) fun hnone => Option.some_ne_none v (hv.symm.trans hnone)
  · rw [drained_of_not_drain hm]

section
variable {s : State} (hm : s.mode = .drain) {x : Lift} {v : Visit} (hv : (s.lift x).visit = some v)
include hm hv

theorem link_drained_of_room (h : (s.link x).down.length < 8) : (s.drained (.lift x)).link x = { s.link x with
    down := (s.link x).down ++ [⟨s.toward (.lift x) 0x32 v.tag
      (.visit (BitVec.ofNat 8 (v.level.val + 1)) (BitVec.ofNat 8 v.p) (BitVec.ofNat 8 v.f)), true, false⟩] } := by
  rw [drained_of_visit hm hv, visitEnded_eq, sendLift_of_room h]
  exact s.link_setLink_self x _

theorem drained_of_full (h : 8 ≤ (s.link x).down.length) : (s.drained (.lift x)).link x = s.link x
    ∧ (s.drained (.lift x)).work.raises = s.work.raises ++ [⟨.queueOverrun, some (.lift x)⟩] := by
  rw [drained_of_visit hm hv, visitEnded_eq, sendLift_of_full h]
  exact ⟨rfl, rfl⟩

end

theorem work_drained_of_room {s : State} {p : Party}
    (h : ∀ y v, s.mode = .drain ∧ p = .lift y → (s.lift y).visit = some v → (s.link y).down.length < 8) : (s.drained p).work = s.work := by
  by_cases hm : s.mode = .drain
  · cases p with
    | shuttle n => rfl
    | lift x =>
      cases hv : (s.lift x).visit with
      | none => rw [drained_of_no_visit hv]
      | some v =>
        rw [drained_of_visit hm hv]
        exact work_visitEnded_of_room _ _ (h x v ⟨hm, rfl⟩ hv)
  · rw [drained_of_not_drain hm]

end Sys2Proof.Machine.State

/-! ## Act timers expire (O40) -/

namespace Sys2Proof.Machine

namespace State

theorem lastExpiredOf_setLastExpired_ne (s : State) {p q : Party} (h : Option Handle) (hne : q ≠ p) :
    (s.setLastExpired p h).lastExpiredOf q = s.lastExpiredOf q := by
  have : p.idx.val ≠ q.idx.val := fun hv => hne (idx_injective (Fin.ext hv)).symm
  simp [setLastExpired, lastExpiredOf, this]

theorem doubt_handFlag (s : State) : (s.handFlag .doubt).notices.pending.doubt = true := by
  rw [notices_handFlag]
  rfl

/-- The return to CONFIG leaves DOUBT pending. -/
theorem doubt_checkDrain {s : State} (h : s.notices.pending.doubt = true) : s.checkDrain.notices.pending.doubt = true := by
  unfold checkDrain
  split
  · unfold setMode
    rw [notices_handFlag]
    exact h
  · exact h

/-- What a raising behind the look for CONFIG leaves as it was. -/
theorem raise_checkDrain_keeps (s : State) (c : FaultClass) (p : Option Party) : s.checkDrain.raise c p = { s with
    store := s.checkDrain.store, notices := s.checkDrain.notices, modeCtl := s.checkDrain.modeCtl
    work := { s.work with raises := s.work.raises ++ [⟨c, p⟩] } } := by
  have hkeeps := s.checkDrain_keeps
  generalize s.checkDrain = u at hkeeps ⊢
  rw [hkeeps]
  rfl

/-- The act timer of an entry is due: it is GRANTED, the timer stands at 0, and the aisle is not in HALT (R24, R45). -/
structure ActDue (s : State) (h : Handle) (e : Entry) : Prop where
  entry : s.entry h = some e
  granted : e.phase.isGranted = true
  zero : e.timer = 0
  running : s.mode ≠ .halt

theorem actExpiry_of_not_due {s : State} {h : Handle}
    (hno : ∀ e, s.entry h = some e → e.phase.isGranted = true → e.timer = 0 → s.mode = .halt) : s.actExpiry h = s := by
  unfold actExpiry
  cases he : s.entry h with
  | none => rfl
  | some e =>
    refine if_neg fun hdue => ?_
    simp only [Bool.and_eq_true, decide_eq_true_eq] at hdue
    exact hdue.2 (hno e he hdue.1.1 hdue.1.2)

section
variable (s : State) (h : Handle) (e : Entry)

/-- The slots of an expired entry in DOUBT, the flag handed on, and the handle kept as last expired (R10, R45). -/
def doubting : State := ((s.doubtEntry h e .actTimeout).handFlag .doubt).setLastExpired e.party (some h)

/-- The state after an entry has expired, before the return to CONFIG is looked for. -/
def expiring : State := ((s.doubting h e).removed h e).drained e.party

theorem doubting_keeps : s.doubting h e = { s with
    slots := (s.doubtClaims h e.party .actTimeout e.items).slots, lastExpired := (s.setLastExpired e.party (some h)).lastExpired
    store := (s.handFlag .doubt).store, notices := (s.handFlag .doubt).notices, work := { s.work with touched := true } } := by
  have hclaims := s.doubtClaims_keeps h e.party .actTimeout e.items
  have halike : NoticesAlike (s.doubtEntry h e .actTimeout) s := by
    unfold doubtEntry
    rw [hclaims]
    exact ⟨rfl, rfl, rfl, rfl, rfl, fun _ => rfl⟩
  have hflag := (s.doubtEntry h e .actTimeout).handFlag_keeps .doubt
  have hstore := (halike.handFlag .doubt).store
  have hnotices := (halike.handFlag .doubt).notices
  unfold doubting
  rw [hflag, hstore, hnotices]
  unfold doubtEntry
  rw [hclaims]
  rfl

theorem expiring_keeps : s.expiring h e = { s with
    table := (s.setEntry h none).table, slots := ((s.doubting h e).releaseClaims h e.items).slots
    lastExpired := (s.setLastExpired e.party (some h)).lastExpired, streams := ((s.doubting h e).removed h e).streams
    coord := (s.expiring h e).coord, links := (s.expiring h e).links, store := (s.handFlag .doubt).store
    unsentAsks := s.unsentAsks.filter (fun m => !m.asksAbout h), notices := (s.handFlag .doubt).notices
    work := { s.work with touched := true, reeval := true, raises := (s.expiring h e).work.raises } } := by
  have hdrained := ((s.doubting h e).removed h e).drained_keeps e.party
  have htable : ((s.doubting h e).setEntry h none).table = (s.setEntry h none).table := by
    rw [doubting_keeps]
    rfl
  have hremoved := (s.doubting h e).removed_keeps h e
  rw [htable] at hremoved
  change s.expiring h e = _ at hdrained
  generalize s.expiring h e = u at hdrained ⊢
  rw [hdrained]
  generalize (s.doubting h e).removed h e = v at hremoved ⊢
  generalize (s.doubting h e).releaseClaims h e.items = w at hremoved ⊢
  rw [hremoved]
  dsimp only
  rw [doubting_keeps]

variable {s h e} in
/-- The expiry of a timer that is due (R45, R162). -/
theorem actExpiry_of_due (hd : s.ActDue h e) :
    s.actExpiry h = (s.expiring h e).checkDrain.raise .actTimeout (some e.party) := by
  have hcond : (e.phase.isGranted && e.timer = 0 && s.mode ≠ .halt) = true := by
    simp [hd.granted, hd.zero, hd.running]
  unfold actExpiry
  rw [hd.entry]
  refine (if_pos hcond).trans ?_
  show (((s.doubting h e).removeEntry h e).drainVisit e.party).raise .actTimeout (some e.party) = _
  rw [removeEntry_eq, drainVisit_checkDrain]
  rfl

theorem entry_expiring (k : Handle) : (s.expiring h e).entry k = if k = h then none else s.entry k := by
  rw [entry_of_table (t := s.expiring h e) (s := s.setEntry h none) (by rw [expiring_keeps])]
  split
  next hk => subst hk; exact entry_setEntry_self _ _ _
  next hk => exact entry_setEntry_ne _ _ _ _ (Ne.symm hk)

/-- A claimed slot of an expired entry is in DOUBT with the expired claim, and any other stays (R10, R45). -/
theorem slot_expiring (n : Level) (c : SlotCode) : (s.expiring h e).slot n c =
    if ∃ i ∈ e.items, i.slot = some (n, c) then
      ((s.slot n c).ended h (Slot.doubted e.party h .actTimeout)).ended h Slot.unclaim
    else s.slot n c := by
  have hslot : (s.expiring h e).slot n c = ((s.doubting h e).releaseClaims h e.items).slot n c := by
    rw [expiring_keeps]
    rfl
  have hdoubting : (s.doubting h e).slot n c = (s.doubtClaims h e.party .actTimeout e.items).slot n c := by
    rw [doubting_keeps]
    rfl
  rw [hslot, slot_releaseClaims, hdoubting, slot_doubtClaims]
  split <;> rfl

theorem stream_expiring (i : StreamNo) : (s.expiring h e).stream i =
    if e.isLiftFetch && e.phase.isGranted then (s.setPledges false e.items).stream i else s.stream i := by
  have hstream (j : StreamNo) : (s.doubting h e).stream j = s.stream j := by
    rw [doubting_keeps]
    rfl
  have hremoved : (s.expiring h e).stream i = ((s.doubting h e).removed h e).stream i := by
    rw [expiring_keeps]
    rfl
  rw [hremoved, stream_removed, stream_setPledges, stream_setPledges, hstream]

/-- What the end of the visit looks at is as it was. -/
theorem removed_doubting : ((s.doubting h e).removed h e).coord = s.coord ∧ ((s.doubting h e).removed h e).links = s.links
    ∧ ((s.doubting h e).removed h e).mode = s.mode ∧ ((s.doubting h e).removed h e).store.unique = s.store.unique
    ∧ ((s.doubting h e).removed h e).work.raises = s.work.raises := by
  have hunique : (s.handFlag .doubt).store.unique = s.store.unique :=
    congrArg (fun f : Fixed => f.store.unique) (fixed_handFlag s .doubt)
  rw [removed_keeps, doubting_keeps]
  exact ⟨rfl, rfl, rfl, hunique, rfl⟩

theorem lift_removed_doubting (y : Lift) : ((s.doubting h e).removed h e).lift y = s.lift y :=
  congrArg (fun c => PerLift.get c y) (s.removed_doubting h e).1

theorem link_removed_doubting (y : Lift) : ((s.doubting h e).removed h e).link y = s.link y :=
  congrArg (fun c => PerLift.get c y) (s.removed_doubting h e).2.1

theorem lift_expiring (y : Lift) : (s.expiring h e).lift y =
    if s.mode = .drain ∧ e.party = .lift y then { s.lift y with visit := none } else s.lift y := by
  obtain ⟨-, -, hmode, -⟩ := s.removed_doubting h e
  unfold expiring
  rw [lift_drained, hmode, lift_removed_doubting]

/-- The notices of the state before the return to CONFIG are those of DOUBT handed on (R10). -/
theorem noticesAlike_expiring : NoticesAlike (s.expiring h e) (s.handFlag .doubt) := by
  have hflag := s.handFlag_keeps .doubt
  have hlow (i : StreamNo) : ((s.expiring h e).stream i).lowMarker = (s.stream i).lowMarker := by
    rw [stream_expiring]
    split
    · rw [stream_setPledges]
    · rfl
  refine ⟨by rw [expiring_keeps], by rw [expiring_keeps], ?_, ?_, ?_, fun i => (hlow i).trans ?_⟩
  · rw [hflag, expiring_keeps]
  · rw [hflag, expiring_keeps]
  · rw [hflag, expiring_keeps]
  · rw [hflag]
    rfl

/-- The return to CONFIG after an expiry: in DRAIN, with no other entry left and no visit but the lift's own (R162). -/
theorem checkDrain_expiring_of_last (hm : s.mode = .drain) (hentries : ∀ k, k ≠ h → s.entry k = none)
    (hvisits : ∀ y, e.party ≠ .lift y → (s.lift y).visit = none) :
    (s.expiring h e).checkDrain = (s.expiring h e).setMode .config := by
  have hmode : (s.expiring h e).mode = .drain := by
    rw [expiring_keeps]
    exact hm
  refine checkDrain_of_last hmode (fun k => ?_) fun y => ?_
  · rw [entry_expiring]
    split
    · rfl
    next hk => exact hentries k hk
  · rw [lift_expiring]
    split
    · rfl
    next hy => exact hvisits y fun hp => hy ⟨hm, hp⟩

theorem checkDrain_expiring_of_not_last (hn : s.mode ≠ .drain ∨ ¬ ((∀ k, k ≠ h → s.entry k = none)
    ∧ ∀ y, e.party ≠ .lift y → (s.lift y).visit = none)) : (s.expiring h e).checkDrain = s.expiring h e := by
  have hmode : (s.expiring h e).mode = s.mode := by
    rw [expiring_keeps]
    rfl
  refine checkDrain_of_not_last ?_
  rcases hn with hm | hn
  · exact .inl (hmode ▸ hm)
  · rw [not_and_or] at hn
    push Not at hn
    rcases hn with ⟨k, hk, he⟩ | ⟨y, hy, hv⟩
    · exact .inr (.inl ⟨k, by rw [entry_expiring, if_neg hk]; exact he⟩)
    · exact .inr (.inr ⟨y, by rw [lift_expiring, if_neg fun hp => hy hp.2]; exact hv⟩)

end

end State

/-- Settles O40: the expiry of an act timer that is due, and that of any other. -/
theorem actTimersExpire : Obligations.ActTimersExpire := by
  unfold Obligations.ActTimersExpire
  refine fun s h hs => ⟨fun e he hg hz hm hslots => ?due, fun hno => ?idle⟩
  case idle => exact (congrArg done (State.actExpiry_of_not_due hno)).trans (done_of_rests hs)
  case due =>
    have hdue : s.ActDue h e := ⟨he, hg, hz, hm⟩
    let t : State := (s.expiring h e).checkDrain.raise .actTimeout (some e.party)
    have kept : t = { s.expiring h e with
        store := t.store, notices := t.notices, modeCtl := t.modeCtl
        work := { (s.expiring h e).work with raises := (s.expiring h e).work.raises ++ [⟨.actTimeout, some e.party⟩] } } := by
      exact (s.expiring h e).raise_checkDrain_keeps .actTimeout (some e.party)
    have hexpiring := s.expiring_keeps h e
    have hentry (k : Handle) : t.entry k = if k = h then none else s.entry k :=
      ((congrArg (fun u : State => u.entry k) kept :) : t.entry k = (s.expiring h e).entry k).trans (s.entry_expiring h e k)
    have hslot (n : Level) (c : SlotCode) : t.slot n c = (s.expiring h e).slot n c := (congrArg (fun u : State => u.slot n c) kept :)
    have hlift (y : Lift) : t.lift y = (s.expiring h e).lift y := (congrArg (fun u : State => u.lift y) kept :)
    have hlink (y : Lift) : t.link y = (s.expiring h e).link y := (congrArg (fun u : State => u.link y) kept :)
    have hraises : t.work.raises = (s.expiring h e).work.raises ++ [⟨.actTimeout, some e.party⟩] :=
      (congrArg (fun u : State => u.work.raises) kept :)
    have hlast (p : Party) : t.lastExpiredOf p = (s.setLastExpired e.party (some h)).lastExpiredOf p := by
      have hvec : t.lastExpired = (s.setLastExpired e.party (some h)).lastExpired :=
        (congrArg State.lastExpired kept :).trans (congrArg State.lastExpired hexpiring :)
      unfold State.lastExpiredOf
      rw [hvec]
    refine ⟨t, congrArg done (State.actExpiry_of_due hdue), (hentry h).trans (if_pos rfl), fun k hk => (hentry k).trans (if_neg hk),
      (hlast _).trans (s.lastExpiredOf_setLastExpired_self _ _), fun i hi n c content kind id hic hclaim => ?claimed,
      fun n c hno => ?unclaimed, ?doubt, ?raised, fun p hp => (hlast p).trans (s.lastExpiredOf_setLastExpired_ne _ hp),
      (congrArg State.shuttles kept :).trans (congrArg State.shuttles hexpiring :), ?streams,
      (congrArg State.unsentAsks kept :).trans (congrArg State.unsentAsks hexpiring :), ?work, ?apart, ?visits⟩
    case claimed =>
      rw [hslot, State.slot_expiring, if_pos ⟨i, hi, hic⟩, hclaim]
      simp [Slot.ended, Slot.doubted]
    case unclaimed => rw [hslot, State.slot_expiring, if_neg fun ⟨i, hi, hic⟩ => hno i hi hic]
    case raised =>
      rw [hraises]
      exact List.mem_append_right _ (.head _)
    case doubt =>
      refine State.doubt_checkDrain ?_
      rw [hexpiring]
      exact State.doubt_handFlag s
    case streams =>
      intro lifted i
      have hlifted : e.isLiftFetch = lifted := by
        unfold Entry.isLiftFetch
        cases hp : e.party <;> cases hk : e.kind <;> simp only [lifted, hp, hk]
      have hstream : t.stream i = (s.expiring h e).stream i := (congrArg (fun u : State => u.stream i) kept :)
      rw [hstream, State.stream_expiring, hg, Bool.and_true, hlifted]
      cases lifted with
      | true =>
        rw [if_pos rfl, State.stream_setPledges]
        simp only [true_and]
      | false => simp
    case work =>
      have hwork : s.work = Work.done := hs
      have ht : t.work = { (s.expiring h e).work with raises := t.work.raises } := by
        rw [hraises]
        exact (congrArg State.work kept :)
      rw [ht, (congrArg State.work hexpiring :), hwork]
    case apart =>
      clear_value t
      rw [kept, hexpiring]
    case visits =>
      intro ends
      obtain ⟨-, -, hmode, hunique, hnone⟩ := s.removed_doubting h e
      have hvisit {y : Lift} {v : Visit} (hv : (s.lift y).visit = some v) : (((s.doubting h e).removed h e).lift y).visit = some v := by
        rw [State.lift_removed_doubting]
        exact hv
      have hroom {y : Lift} (hr : (s.link y).down.length < 8) : (((s.doubting h e).removed h e).link y).down.length < 8 := by
        rw [State.link_removed_doubting]
        exact hr
      have hclean : ((s.doubting h e).removed h e).work.raises = [] := hnone.trans (congrArg Work.raises hs)
      refine ⟨fun y hy => ?_, fun y hy => ?_, fun y v hy hv hr => ?sent, fun y v hy hv hfull => ?full, fun y hy => ?kept, fun hr => ?raises,
        ?modes⟩
      · rw [hlift, State.lift_expiring, if_pos hy]
      · rw [hlift, State.lift_expiring, if_neg hy]
      case sent =>
        obtain ⟨hd, hp⟩ := hy
        rw [hlink, State.expiring, hp, State.link_drained_of_room (hmode.trans hd) (hvisit hv) (hroom hr), State.link_removed_doubting,
          State.toward, hunique]
        rfl
      case full =>
        obtain ⟨hd, hp⟩ := hy
        have hfull' : 8 ≤ (((s.doubting h e).removed h e).link y).down.length := by
          rw [State.link_removed_doubting]
          exact hfull
        obtain ⟨hsame, hoverrun⟩ := State.drained_of_full (hmode.trans hd) (hvisit hv) hfull'
        refine ⟨?_, ?_⟩
        · rw [hlink, State.expiring, hp, hsame, State.link_removed_doubting]
        · rw [hraises, State.expiring, hp, hoverrun, hclean]
          rfl
      case kept =>
        rw [hlink, State.expiring, State.link_drained_of_kept, State.link_removed_doubting]
        rw [hmode, State.lift_removed_doubting]
        exact hy
      case raises =>
        rw [hraises, State.expiring, State.work_drained_of_room, hclean]
        · rfl
        · intro y v hy hv
          rw [hmode] at hy
          rw [State.lift_removed_doubting] at hv
          exact hroom (hr y v hy hv)
      case modes =>
        intro last u w
        have halike := s.noticesAlike_expiring h e
        have hctl : u.modeCtl = s.modeCtl := (congrArg State.modeCtl (s.handFlag_keeps .doubt) :)
        refine ⟨fun hd hl => ?_, fun hn => ?_⟩
        · have hset : (s.expiring h e).checkDrain = _ := s.checkDrain_expiring_of_last h e hd hl.1 hl.2
          obtain ⟨hstore, hnotices, hmodeCtl, -⟩ := halike.setMode .config
          have ht : t.modeCtl = w.modeCtl := (congrArg State.modeCtl hset).trans hmodeCtl
          have hw : w.modeCtl = { u.modeCtl with mode := .config, motion := false } := u.modeCtl_setMode .config
          refine ⟨?_, ?_, ht, (congrArg State.notices hset).trans hnotices, (congrArg State.store hset).trans hstore⟩
          · exact congrArg ModeCtl.mode (ht.trans hw)
          · exact congrArg ModeCtl.motion (ht.trans hw)
        · have hsame : (s.expiring h e).checkDrain = _ := s.checkDrain_expiring_of_not_last h e hn
          obtain ⟨hstore, hnotices, hmodeCtl, -⟩ := halike
          exact ⟨(congrArg State.modeCtl hsame).trans (hmodeCtl.trans hctl), (congrArg State.notices hsame).trans hnotices,
            (congrArg State.store hsame).trans hstore⟩

end Sys2Proof.Machine

/-! ## Confirm timers expire (O41) -/

namespace Sys2Proof.Machine

namespace State

theorem confirmDefault_eq {s : State} {r : ToteRec} {i : StreamNo} (h : r.stream.toNat = i.val) :
    s.confirmDefault r = (s.stream i).row.dflt := by
  unfold confirmDefault
  rw [(toteStream_eq_some_iff r i).mpr h]

/-! ### Totes denied by default (R109) -/

/-- What the default DENY does for one item: its release entry is barred. -/
def denyByDefault (s : State) (i : Item) : State :=
  if i.conf = .asked && s.confirmDefault i.tote = .deny && s.listed i.tote then s.bar i.tote else s

theorem bar_keeps (s : State) (r : ToteRec) : s.bar r = { s with
    streams := (s.bar r).streams, work := { s.work with touched := (s.bar r).work.touched } } := by
  unfold bar
  split
  · split <;> rfl
  · rfl

theorem denyByDefault_keeps (s : State) (i : Item) : s.denyByDefault i = { s with
    streams := (s.denyByDefault i).streams, work := { s.work with touched := (s.denyByDefault i).work.touched } } := by
  unfold denyByDefault
  split
  · exact s.bar_keeps i.tote
  · rfl

theorem foldl_denyByDefault_keeps (s : State) (items : List Item) : items.foldl denyByDefault s = { s with
    streams := (items.foldl denyByDefault s).streams
    work := { s.work with touched := (items.foldl denyByDefault s).work.touched } } := by
  induction items generalizing s with
  | nil => rfl
  | cons i items ih =>
    have hstep := s.denyByDefault_keeps i
    have hrest := ih (s.denyByDefault i)
    rw [List.foldl_cons]
    generalize items.foldl denyByDefault (s.denyByDefault i) = u at hrest ⊢
    generalize s.denyByDefault i = v at hstep hrest
    rw [hrest]
    dsimp only
    rw [hstep]

/-- A tote's ID stands in its stream's release list (R108). -/
theorem listed_iff {s : State} {r : ToteRec} {k : StreamNo} (hk : r.stream.toNat = k.val) :
    s.listed r = true ↔ k ≠ 0 ∧ ∃ e ∈ (s.stream k).list, e.id = r.id := by
  have hsome : (relIndex (s.stream k).list r.id).isSome = true ↔ ∃ e ∈ (s.stream k).list, e.id = r.id := by
    rw [Option.isSome_iff_ne_none, ne_eq, relIndex_eq_none_iff]
    push Not
    rfl
  unfold listed
  rw [(toteStream_eq_some_iff r k).mpr hk]
  simp only [Bool.and_eq_true, decide_eq_true_eq, hsome]

/-- The release entry of a tote barred, in the streams (R108). -/
theorem stream_bar {s : State} {r : ToteRec} {k : StreamNo} (hk : r.stream.toNat = k.val) (h0 : k ≠ 0) (i : StreamNo) :
    (s.bar r).stream i = { s.stream i with
      list := (s.stream i).list.map (fun q => if i = k ∧ q.id = r.id then { q with barred := true } else q) } := by
  have hbar : s.bar r = (s.changeRel k r.id (fun q => { q with barred := true })).touch := by
    unfold bar
    rw [(toteStream_eq_some_iff r k).mpr hk]
    exact if_neg h0
  rw [hbar]
  exact s.stream_changeRel i k r.id _

/-- The default DENY of an item bars this entry of the release list of stream `i` (R109). -/
abbrev Denies (s : State) (j : Item) (i : StreamNo) (r : RelEntry) : Prop :=
  i ≠ 0 ∧ j.conf = .asked ∧ j.tote.id = r.id ∧ j.tote.stream.toNat = i.val ∧ (s.stream i).row.dflt = .deny

theorem map_barred_of_none {c : RelEntry → Prop} [DecidablePred c] {l : List RelEntry} (h : ∀ r ∈ l, ¬ c r) :
    l.map (fun r => if c r then { r with barred := true } else r) = l := by
  refine (List.map_congr_left fun r hr => ?_).trans (List.map_id l)
  exact if_neg (h r hr)

theorem denyByDefault_of {s : State} {j : Item} {k : StreamNo} (hk : j.tote.stream.toNat = k.val) : s.denyByDefault j =
    if j.conf = .asked ∧ (s.stream k).row.dflt = .deny ∧ k ≠ 0 ∧ ∃ e ∈ (s.stream k).list, e.id = j.tote.id then s.bar j.tote else s := by
  unfold denyByDefault
  refine if_congr ?_ rfl rfl
  rw [Bool.and_eq_true, Bool.and_eq_true, decide_eq_true_eq, decide_eq_true_eq, confirmDefault_eq hk, listed_iff hk, and_assoc]

/-- The default of one item in the streams: the release entry of its tote is barred, if its stream's default is DENY. -/
theorem stream_denyByDefault (s : State) (j : Item) (i : StreamNo) : (s.denyByDefault j).stream i = { s.stream i with
    list := (s.stream i).list.map (fun r => if s.Denies j i r then { r with barred := true } else r) } := by
  have unchanged (hno : ∀ r ∈ (s.stream i).list, ¬ s.Denies j i r) : s.stream i = { s.stream i with
      list := (s.stream i).list.map (fun r => if s.Denies j i r then { r with barred := true } else r) } := by
    rw [map_barred_of_none (c := s.Denies j i) hno]
  cases hstream : toteStream j.tote with
  | none =>
    have hsame : s.denyByDefault j = s := by
      refine if_neg fun h => ?_
      unfold listed at h
      simp [hstream] at h
    rw [hsame]
    exact unchanged fun r _ hr => Option.some_ne_none i (((toteStream_eq_some_iff _ _).mpr hr.2.2.2.1).symm.trans hstream)
  | some k =>
    have hk := (toteStream_eq_some_iff _ _).mp hstream
    have heq {r : RelEntry} (hr : s.Denies j i r) : i = k := Fin.ext (hr.2.2.2.1.symm.trans hk)
    rw [denyByDefault_of hk]
    split
    next h =>
      obtain ⟨hasked, hdeny, h0, -⟩ := h
      rw [stream_bar hk h0]
      refine congrArg (fun l => { s.stream i with list := l }) (List.map_congr_left fun r _ => ?_)
      refine if_congr ?_ rfl rfl
      constructor
      · rintro ⟨rfl, hid⟩
        exact ⟨h0, hasked, hid.symm, hk, hdeny⟩
      · exact fun hr => ⟨heq hr, hr.2.2.1.symm⟩
    next h =>
      refine unchanged fun r hmem hr => h ?_
      obtain rfl := heq hr
      obtain ⟨h0, hasked, hid, -, hdeny⟩ := hr
      exact ⟨hasked, hdeny, h0, r, hmem, hid.symm⟩

/-- The defaults of items in the streams (R109). -/
theorem stream_foldl_denyByDefault (s : State) (items : List Item) (i : StreamNo) : (items.foldl denyByDefault s).stream i =
    { s.stream i with list := (s.stream i).list.map (fun r =>
      if ∃ j ∈ items, s.Denies j i r then { r with barred := true } else r) } := by
  induction items generalizing s with
  | nil => simp
  | cons j items ih =>
    have hrow : ((s.denyByDefault j).stream i).row = (s.stream i).row := by rw [stream_denyByDefault]
    have hsame (p : Item) (q : RelEntry) : (s.denyByDefault j).Denies p i q ↔ s.Denies p i q := by
      unfold Denies
      rw [hrow]
    have hrest := ih (s.denyByDefault j)
    simp only [hsame] at hrest
    rw [List.foldl_cons, hrest, stream_denyByDefault]
    dsimp only
    rw [List.map_map]
    refine congrArg (fun l => { s.stream i with list := l }) (List.map_congr_left fun r _ => ?_)
    rw [Function.comp_apply]
    by_cases hj : s.Denies j i r
    · have hex : ∃ p ∈ j :: items, s.Denies p i r := ⟨j, List.mem_cons_self .., hj⟩
      rw [if_pos hj, if_pos hex]
      split <;> rfl
    · rw [if_neg hj]
      refine if_congr ?_ rfl rfl
      rw [List.exists_mem_cons_iff, or_iff_right hj]

/-- The confirm timer of an entry is due (R24, R109). -/
structure ConfirmDue (s : State) (h : Handle) (e : Entry) : Prop where
  entry : s.entry h = some e
  confirming : e.phase = .confirming
  zero : e.timer = 0
  running : s.mode ≠ .halt

theorem confirmExpiry_of_not_due {s : State} {h : Handle}
    (hno : ∀ e, s.entry h = some e → e.phase = .confirming → e.timer = 0 → s.mode = .halt) : s.confirmExpiry h = s := by
  unfold confirmExpiry
  cases he : s.entry h with
  | none => rfl
  | some e =>
    refine if_neg fun hdue => ?_
    simp only [Bool.and_eq_true, decide_eq_true_eq] at hdue
    exact hdue.2 (hno e he hdue.1.1 hdue.1.2)

theorem confirmExpiry_of_due {s : State} {h : Handle} {e : Entry} (hd : s.ConfirmDue h e) :
    s.confirmExpiry h = (s.applyDefaults h e).touch.resolveIfDecided h := by
  have hcond : (e.phase = .confirming && e.timer = 0 && s.mode ≠ .halt) = true := by
    simp [hd.confirming, hd.zero, hd.running]
  unfold confirmExpiry
  rw [hd.entry]
  exact if_pos hcond

/-- A CONFIRMING entry with all its totes decided is resolved in RUN (R110, R114). -/
theorem resolveIfDecided_of_decided {s : State} {h : Handle} {e : Entry} (he : s.entry h = some e) (hp : e.phase = .confirming)
    (hall : ∀ i ∈ e.items, i.conf ≠ .asked) : s.resolveIfDecided h = if s.mode = .run then s.resolve h e else s := by
  have hdecided : e.allDecided = true := List.all_eq_true.mpr fun i hi => decide_eq_true (hall i hi)
  unfold resolveIfDecided
  rw [he]
  refine if_congr ?_ rfl rfl
  rw [hdecided, Bool.and_true, Bool.and_eq_true, decide_eq_true_eq, decide_eq_true_eq, and_iff_right hp]

/-- The item after the defaults: no item is asked any more (R109). -/
def afterDefault (s : State) (i : Item) : Item :=
  if i.conf = .asked then { i with conf := if s.confirmDefault i.tote = .grant then .confirmed else .denied } else i

theorem conf_afterDefault (s : State) (i : Item) : (s.afterDefault i).conf ≠ .asked := by
  unfold afterDefault
  split
  · dsimp only
    split <;> decide
  · assumption

theorem applyDefaults_eq (s : State) (h : Handle) (e : Entry) : s.applyDefaults h e =
    (e.items.foldl denyByDefault s).setEntry h (some (e.mapItems s.afterDefault)) := by
  have hitem : (fun i : Item => if i.conf = .asked then { i with conf := match s.confirmDefault i.tote with
      | .grant => .confirmed
      | .deny => .denied } else i) = s.afterDefault := by
    funext i
    unfold afterDefault
    cases s.confirmDefault i.tote <;> rfl
  rw [← hitem]
  rfl

end State

/-- Settles O41: the defaults at the expiry of a confirm timer that is due, and the expiry of any other. -/
theorem confirmTimersExpire : Obligations.ConfirmTimersExpire := by
  unfold Obligations.ConfirmTimersExpire
  refine fun s h hs => ⟨fun e he hp hz hm => ?due, fun hno => ?idle, fun r i => State.confirmDefault_eq⟩
  case idle => exact (congrArg done (State.confirmExpiry_of_not_due hno)).trans (done_of_rests hs)
  case due =>
    intro decided
    let u : State := (s.applyDefaults h e).touch
    have hdecided : e.mapItems s.afterDefault = decided := by
      refine congrArg (fun l => { e with items := l }) (List.map_congr_left fun i _ => ?_)
      unfold State.afterDefault
      cases s.confirmDefault i.tote with
      | grant => split <;> rfl
      | deny => split <;> rfl
    have hu : u = ((e.items.foldl State.denyByDefault s).setEntry h (some decided)).touch := by
      rw [← hdecided, ← State.applyDefaults_eq]
    have hfold := s.foldl_denyByDefault_keeps e.items
    have hentry : u.entry h = some decided := by
      rw [hu]
      exact State.entry_setEntry_self _ h _
    have hmode : u.mode = s.mode := by
      rw [hu]
      exact (congrArg State.mode hfold :)
    have hresolved : u.resolveIfDecided h = if s.mode = .run then u.resolve h decided else u := by
      rw [← hmode]
      refine State.resolveIfDecided_of_decided hentry hp fun i hi => ?_
      rw [← hdecided] at hi
      obtain ⟨j, -, rfl⟩ := List.mem_map.mp hi
      exact s.conf_afterDefault j
    refine ⟨u, congrArg done ((State.confirmExpiry_of_due ⟨he, hp, hz, hm⟩).trans hresolved), hentry, fun k hk => ?_, fun i => ?_, ?_⟩
    · rw [hu]
      refine (State.entry_setEntry_ne _ h k _ (Ne.symm hk)).trans (State.entry_of_table ?_ k)
      rw [hfold]
    · rw [hu]
      refine (s.stream_foldl_denyByDefault e.items i).trans ?_
      refine congrArg (fun l => { s.stream i with list := l }) (List.map_congr_left fun r _ => ?_)
      refine if_congr ?_ rfl rfl
      constructor
      · rintro ⟨j, hj, h0, hd⟩
        exact ⟨h0, j, hj, hd⟩
      · rintro ⟨h0, j, hj, hd⟩
        exact ⟨j, hj, h0, hd⟩
    · have hwork : s.work = Work.done := hs
      have hkept : u = { s with table := u.table, streams := u.streams, work := { s.work with touched := true } } := by
        rw [hu]
        generalize e.items.foldl State.denyByDefault s = v at hfold ⊢
        rw [hfold]
        rfl
      rw [hwork] at hkept
      exact hkept

end Sys2Proof.Machine

/-! ## The other timers expire (O42) -/

namespace Sys2Proof.Machine

namespace State

theorem holdExpiry_of_due {s : State} {h : Handle} {e : Entry} {r : Reason} (he : s.entry h = some e) (hp : e.phase = .waiting r)
    (hz : e.timer = 0) (hm : s.mode ≠ .halt) : s.holdExpiry h = s.refuseEntry h e .timeout := by
  have hcond : (e.isWaiting && e.timer = 0 && s.mode ≠ .halt) = true := by
    simp [(isWaiting_iff e).mpr ⟨r, hp⟩, hz, hm]
  unfold holdExpiry
  rw [he]
  exact if_pos hcond

theorem holdExpiry_of_not_due {s : State} {h : Handle}
    (hno : ∀ e r, s.entry h = some e → e.phase = .waiting r → e.timer = 0 → s.mode = .halt) : s.holdExpiry h = s := by
  unfold holdExpiry
  cases he : s.entry h with
  | none => rfl
  | some e =>
    refine if_neg fun hdue => ?_
    simp only [Bool.and_eq_true, decide_eq_true_eq] at hdue
    obtain ⟨⟨hw, hz⟩, hm⟩ := hdue
    obtain ⟨r, hr⟩ := (isWaiting_iff e).mp hw
    exact hm (hno e r he hr hz)

section
variable {s : State} {x : Lift}

theorem visitExpiry_of_not_due (hno : ∀ v, (s.lift x).visit = some v → v.timer = 0 → s.mode = .halt) : s.visitExpiry x = s := by
  unfold visitExpiry
  cases hv : (s.lift x).visit with
  | none => rfl
  | some v => exact if_neg fun ⟨hz, hm⟩ => hm (hno v hv hz)

theorem entryOf_endVisit (s : State) (x : Lift) (tag : Option Byte) (p : Party) : (s.endVisit x tag).entryOf p = s.entryOf p := by
  have hentry (k : Handle) : (s.endVisit x tag).entry k = s.entry k := entry_of_table (s.table_endVisit x tag) k
  unfold entryOf entries
  simp only [hentry]

variable {v : Visit} (hv : (s.lift x).visit = some v) (hz : v.timer = 0) (hm : s.mode ≠ .halt)
include hv hz hm

/-- A visit whose timer is due ends, and the lift's entry is refused unless it is GRANTED (R72). -/
theorem visitExpiry_of_waiting {h : Handle} {e : Entry} (he : s.entryOf (.lift x) = some (h, e)) (hg : e.phase.isGranted = false) :
    s.visitExpiry x = ((s.endVisit x none).refuseEntry h e .timeout).raise .visitTimeout (some (.lift x)) := by
  have hentry := (s.entryOf_endVisit x none (.lift x)).trans he
  unfold visitExpiry
  rw [hv]
  refine (if_pos ⟨hz, hm⟩).trans ?_
  dsimp only
  rw [hentry]
  dsimp only
  rw [if_neg (by rw [hg]; exact Bool.false_ne_true)]

theorem visitExpiry_of_all_granted (hg : ∀ h e, s.entryOf (.lift x) = some (h, e) → e.phase.isGranted = true) :
    s.visitExpiry x = (s.endVisit x none).raise .visitTimeout (some (.lift x)) := by
  have hentry := s.entryOf_endVisit x none (.lift x)
  unfold visitExpiry
  rw [hv]
  refine (if_pos ⟨hz, hm⟩).trans ?_
  dsimp only
  cases he : s.entryOf (.lift x) with
  | none => rw [hentry.trans he]
  | some y =>
    rw [hentry.trans he]
    dsimp only
    rw [if_pos (hg _ _ he)]

end

section
variable {s : State} {x : Lift}

theorem askIntervalOut_of_due (h : (s.lift x).askTimer = some 0) :
    s.askIntervalOut x = (s.setLift x { s.lift x with askTimer := some 500 }).sendStateAsk x := if_pos h

theorem askIntervalOut_of_not_due (h : (s.lift x).askTimer ≠ some 0) : s.askIntervalOut x = s := if_neg h

/-- A STATE-ASK is sent while the lift's queue has a place (R56, R128). -/
theorem sendStateAsk_of_room (h : (s.link x).down.length < 8) : s.sendStateAsk x = s.setLink x { s.link x with
    down := (s.link x).down ++ [⟨s.toward (.lift x) 0x12 (s.link x).ownTag .nothing, true, false⟩] } := if_pos h

theorem sendStateAsk_of_full (h : 8 ≤ (s.link x).down.length) : s.sendStateAsk x = s := if_neg (not_lt.mpr h)

end

end State

/-- Settles O42: the hold timer, the visit timer, and the interval of a RETURNING lift. -/
theorem otherTimersExpire : Obligations.OtherTimersExpire := by
  unfold Obligations.OtherTimersExpire
  refine ⟨fun s h hs => ⟨fun e r he hp hz hm => congrArg done (State.holdExpiry_of_due he hp hz hm),
      fun hno => (congrArg done (State.holdExpiry_of_not_due hno)).trans (done_of_rests hs)⟩,
    fun s x hs => ⟨fun v hv hz hm => ?visits, fun hno => (congrArg done (State.visitExpiry_of_not_due hno)).trans (done_of_rests hs)⟩,
    fun s x => ?asks⟩
  case visits =>
    exact ⟨fun h e he hg => congrArg done (State.visitExpiry_of_waiting hv hz hm he hg),
      fun hg => congrArg done (State.visitExpiry_of_all_granted hv hz hm hg)⟩
  case asks =>
    intro u
    refine ⟨fun hz hr => congrArg Host.Outcome.next ?_, fun hz hf => congrArg Host.Outcome.next ?_,
      fun hz => congrArg Host.Outcome.next (State.askIntervalOut_of_not_due hz)⟩
    · exact (State.askIntervalOut_of_due hz).trans (State.sendStateAsk_of_room (s := u) hr)
    · exact (State.askIntervalOut_of_due hz).trans (State.sendStateAsk_of_full (s := u) hf)

end Sys2Proof.Machine

/-! ## Raisings and latches (O43) -/

namespace Sys2Proof.Machine

theorem isGoOf_iff (m : Tel) (h : Handle) :
    m.isGoOf h = true ↔ ∃ asked grants, m.body = .go (BitVec.ofNat 8 h.val) asked grants ∧ asked ≠ 0x30 := by
  unfold Tel.isGoOf
  cases hb : m.body with
  | go k asked grants =>
    rw [Bool.and_eq_true, decide_eq_true_eq, decide_eq_true_eq]
    constructor
    · rintro ⟨ha, hk⟩
      exact ⟨asked, grants, by rw [hk]; rfl, ha⟩
    · rintro ⟨a, g, heq, ha⟩
      cases heq
      exact ⟨ha, rfl⟩
  | _ => simp

namespace State

/-! ### One raising (R171 to R175) -/

theorem recordFault_of_none {s : State} {c : FaultClass} (h : s.faultRec c = none) (p : Option Party) :
    s.recordFault ⟨c, p⟩ = (s.setFaultRec c (some ⟨1, p, s.time, p, s.time⟩)).handFlag .fault := by
  unfold recordFault
  simp only [h]

theorem recordFault_of_some {s : State} {c : FaultClass} {f : FaultRec} (h : s.faultRec c = some f) (p : Option Party) :
    s.recordFault ⟨c, p⟩ = s.setFaultRec c (some
      ⟨if f.count = 255 then 255 else f.count + 1, f.firstParty, f.firstStamp, p, s.time⟩) := by
  unfold recordFault
  simp only [h]
  rfl

theorem faultRec_handFlag (s : State) (f : Flag) (c : FaultClass) : (s.handFlag f).faultRec c = s.faultRec c := by
  rw [handFlag_keeps]
  rfl

theorem faultRec_recordFault_ne (s : State) (p : Option Party) {c d : FaultClass} (hd : d ≠ c) :
    (s.recordFault ⟨c, p⟩).faultRec d = s.faultRec d := by
  cases h : s.faultRec c with
  | none => rw [recordFault_of_none h, faultRec_handFlag, faultRec_setFaultRec_ne _ _ _ _ (Ne.symm hd)]
  | some f => rw [recordFault_of_some h, faultRec_setFaultRec_ne _ _ _ _ (Ne.symm hd)]

section
variable {s : State} {c : FaultClass} {p : Option Party}

theorem applyRaise_of_note (h : s.disposition c = .note) : s.applyRaise ⟨c, p⟩ = s.recordFault ⟨c, p⟩ := by
  rw [applyRaise, dispose, disposition_recordFault]
  simp only [h]

theorem applyRaise_of_fence (h : s.disposition c = .fence) {q : Party} :
    s.applyRaise ⟨c, some q⟩ = (s.recordFault ⟨c, some q⟩).setLatch q := by
  rw [applyRaise, dispose, disposition_recordFault]
  simp only [h]

theorem applyRaise_of_fence_none (h : s.disposition c = .fence) : s.applyRaise ⟨c, none⟩ = s.recordFault ⟨c, none⟩ := by
  rw [applyRaise, dispose, disposition_recordFault]
  simp only [h]

end

theorem mode_recordFault (s : State) (r : Raise) : (s.recordFault r).mode = s.mode := by
  have hkeeps (u : State) (f : Flag) : (u.handFlag f).mode = u.mode := by
    rw [handFlag_keeps]
    rfl
  cases h : s.faultRec r.cls with
  | none => exact (congrArg mode (recordFault_of_none h r.party)).trans (hkeeps _ _)
  | some f => exact (congrArg mode (recordFault_of_some h r.party)).trans rfl

theorem enterHalt_of_stopped {s : State} (h : s.mode = .config ∨ s.mode = .halt) : s.enterHalt = s := by
  unfold enterHalt
  rcases h with h | h
  all_goals rw [h]

theorem enterHalt_of_working {s : State} (h : s.mode = .run ∨ s.mode = .drain) : s.enterHalt = (s.setMode .halt).withdrawAllGos := by
  unfold enterHalt
  rcases h with h | h
  all_goals rw [h]

/-! ### The end of an event (R171) -/

theorem touched_settle (s : State) : s.settle.work.touched = false := by
  cases h : s.work.touched with
  | false => rw [settle_of_untouched s h, h]
  | true => rw [settle_of_touched s h]; rfl

theorem settle_settle (s : State) : s.settle.settle = s.settle := settle_of_untouched _ s.touched_settle

theorem finishWith_settle (s : State) (left : ℕ) : s.finishWith left = s.settle.finishWith left := by
  cases left with
  | zero => exact s.settle_settle.symm
  | succ k =>
    conv_rhs => unfold finishWith
    rw [settle_settle]
    rfl

section
variable {s : State} (ht : s.work.touched = false)
include ht

theorem finishWith_of_raise {c : FaultClass} {p : Option Party} {later : List Raise} (hr : s.work.raises = ⟨c, p⟩ :: later) (left : ℕ) :
    s.finishWith (left + 1)
      = (State.applyRaise { s with work := { s.work with raises := later } } ⟨c, p⟩).finishWith left := by
  conv_lhs => unfold finishWith
  rw [settle_of_untouched s ht]
  dsimp only
  rw [hr]

theorem finishWith_of_calm (hr : s.work.raises = []) (left : ℕ) : s.finishWith left = s := by
  cases left with
  | zero => exact settle_of_untouched s ht
  | succ k =>
    unfold finishWith
    rw [settle_of_untouched s ht]
    dsimp only
    rw [hr]

end

/-! ### Latches (R176) -/

theorem setLatch_of_set {s : State} {p : Party} (h : s.latch p = true) : s.setLatch p = s := if_pos h

section
variable {s : State} {p : Party} (hl : s.latch p = false)
include hl

theorem setLatch_of_none (h : s.entryOf p = none) : s.setLatch p = (s.setLatchBit p true).withdrawGos p := by
  have hentry : (s.setLatchBit p true).entryOf p = none := h
  unfold setLatch
  rw [if_neg (by rw [hl]; exact Bool.false_ne_true)]
  dsimp only
  rw [hentry]

variable {h : Handle} {e : Entry} (he : s.entryOf p = some (h, e))
include he

theorem setLatch_of_entry : s.setLatch p = if e.phase.isGranted = false ∨ s.goUnsent p h = true then
    ((s.setLatchBit p true).withdrawGos p).refuseEntry h e .partyFault else (s.setLatchBit p true).withdrawGos p := by
  have hentry : (s.setLatchBit p true).entryOf p = some (h, e) := he
  have hunsent : (s.setLatchBit p true).goUnsent p h = s.goUnsent p h := rfl
  unfold setLatch
  rw [if_neg (by rw [hl]; exact Bool.false_ne_true)]
  dsimp only
  rw [hentry]
  dsimp only
  rw [hunsent]
  cases e.phase with
  | waiting r => exact (if_pos (.inl rfl)).symm
  | confirming => exact (if_pos (.inl rfl)).symm
  | granted t => exact if_congr (by simp [Phase.isGranted]) rfl rfl

end

theorem goUnsent_shuttle_iff (s : State) (n : Level) (h : Handle) : s.goUnsent (.shuttle n) h = true ↔
    ∃ i ∈ (s.shuttle n).box, i.begun = false ∧ i.tel.isGoOf h = true := by
  simp only [goUnsent, List.any_eq_true, Bool.and_eq_true, Bool.not_eq_true']

theorem goUnsent_lift_iff (s : State) (x : Lift) (h : Handle) : s.goUnsent (.lift x) h = true ↔
    ∃ i ∈ (s.link x).down, i.begun = false ∧ i.tel.isGoOf h = true := by
  simp only [goUnsent, List.any_eq_true, Bool.and_eq_true, Bool.not_eq_true']

/-! ### GOs withdrawn (R164) -/

/-- The box of a level without its GOs of grants that have not begun. -/
def withdrawnBox (box : List BoxItem) : List BoxItem := box.filter (fun i => i.begun || !i.tel.isGrantGo)

theorem withdrawnBox_twice (box : List BoxItem) : withdrawnBox (withdrawnBox box) = withdrawnBox box := by
  simp [withdrawnBox]

/-- Withdrawal at one level, which does nothing when its box is empty. -/
def withdrawAt (s : State) (n : Level) : State := if (s.shuttle n).box.isEmpty then s else s.withdrawGos (.shuttle n)

theorem shuttle_withdrawAt (s : State) (m n : Level) : (s.withdrawAt m).shuttle n =
    if n = m then { s.shuttle n with box := withdrawnBox (s.shuttle n).box } else s.shuttle n := by
  unfold withdrawAt
  split
  next h =>
    split
    next hn =>
      subst hn
      have hbox : (s.shuttle n).box = [] := List.isEmpty_iff.mp h
      rw [show withdrawnBox (s.shuttle n).box = (s.shuttle n).box by rw [hbox]; rfl]
    · rfl
  · split
    next hn => subst hn; exact s.shuttle_setShuttle_self n _
    next hn => exact s.shuttle_setShuttle_ne m n _ (Ne.symm hn)

theorem withdrawAt_keeps (s : State) (n : Level) : s.withdrawAt n = { s with shuttles := (s.withdrawAt n).shuttles } := by
  unfold withdrawAt
  split <;> rfl

theorem foldl_withdrawAt_keeps (s : State) (l : List Level) :
    l.foldl withdrawAt s = { s with shuttles := (l.foldl withdrawAt s).shuttles } := by
  induction l generalizing s with
  | nil => rfl
  | cons n l ih =>
    rw [List.foldl_cons, ih, withdrawAt_keeps]

theorem shuttle_foldl_withdrawAt (s : State) (l : List Level) (n : Level) : (l.foldl withdrawAt s).shuttle n =
    if n ∈ l then { s.shuttle n with box := withdrawnBox (s.shuttle n).box } else s.shuttle n := by
  induction l generalizing s with
  | nil => rfl
  | cons m l ih =>
    rw [List.foldl_cons, ih, shuttle_withdrawAt]
    by_cases hm : n = m
    · rw [if_pos hm, if_pos (List.mem_cons.mpr (.inl hm)), withdrawnBox_twice, ite_self]
    · simp [hm]

theorem withdrawAllGos_eq (s : State) : s.withdrawAllGos =
    (((List.finRange 40).foldl withdrawAt s).withdrawGos (.lift .a)).withdrawGos (.lift .b) := rfl

theorem shuttle_withdrawAllGos (s : State) (n : Level) :
    s.withdrawAllGos.shuttle n = { s.shuttle n with box := withdrawnBox (s.shuttle n).box } := by
  have hall := s.shuttle_foldl_withdrawAt (List.finRange 40) n
  rw [if_pos (List.mem_finRange n)] at hall
  rw [withdrawAllGos_eq, ← hall]
  generalize (List.finRange 40).foldl withdrawAt s = u
  rfl

theorem link_withShuttles (s : State) (v : Vector ShuttleRec 40) (x : Lift) : (s.withShuttles v).link x = s.link x := rfl

theorem link_withdrawAllGos (s : State) (x : Lift) : s.withdrawAllGos.link x =
    { s.link x with down := (s.link x).down.filter (fun i => i.begun || !i.tel.isGrantGo) } := by
  have hlink : ((List.finRange 40).foldl withdrawAt s).link x = s.link x := by
    rw [foldl_withdrawAt_keeps]
    exact link_withShuttles s _ x
  rw [withdrawAllGos_eq, ← hlink]
  generalize (List.finRange 40).foldl withdrawAt s = u
  cases x <;> rfl

theorem withdrawAllGos_keeps (s : State) : s.withdrawAllGos =
    { s with shuttles := s.withdrawAllGos.shuttles, links := s.withdrawAllGos.links } := by
  have hkeeps := s.foldl_withdrawAt_keeps (List.finRange 40)
  rw [withdrawAllGos_eq]
  generalize (List.finRange 40).foldl withdrawAt s = u at hkeeps ⊢
  rw [hkeeps]
  rfl

end State

/-- Settles O43: a raising and its disposition, the latch of a party, and the GOs that are withdrawn. -/
theorem raisingsAndLatches : Obligations.RaisingsAndLatches := by
  unfold Obligations.RaisingsAndLatches
  refine ⟨fun s c p => ⟨fun h => State.recordFault_of_none h p, fun f h => State.recordFault_of_some h p,
      fun d hd => s.faultRec_recordFault_ne p hd, ?disposed, fun left later ht hr => State.finishWith_of_raise ht hr left,
      s.finishWith_settle, fun left ht hr => State.finishWith_of_calm ht hr left, rfl, rfl, State.enterHalt_of_stopped,
      State.enterHalt_of_working⟩, fun s p => ?latches⟩
  case disposed =>
    have hmode := s.mode_recordFault ⟨c, p⟩
    refine ⟨State.applyRaise_of_note, fun h hp => ?_, fun q h hp => ?_, fun h hm => ?_, fun h hm => ?_⟩
    · subst hp
      exact State.applyRaise_of_fence_none h
    · subst hp
      exact State.applyRaise_of_fence h
    · exact (State.applyRaise_of_halt h).trans (State.enterHalt_of_stopped (by rw [hmode]; exact hm))
    · exact (State.applyRaise_of_halt h).trans (State.enterHalt_of_working (by rw [hmode]; exact hm))
  case latches =>
    intro goes
    have hgoes (begun : Bool) (m : Tel) : (begun || !m.isGrantGo) = goes begun m := by
      unfold Tel.isGrantGo
      cases hb : m.body with
      | go h asked grants =>
        have hasked : (!decide (asked ≠ kVisitOpen)) = decide (asked = 0x30) := by
          rw [decide_not, Bool.not_not]
          rfl
        simp only [goes, hb, hasked]
      | _ => simp [goes, hb]
    refine ⟨State.setLatch_of_set, fun hl => ⟨State.setLatch_of_none hl, fun h e he => ?_⟩, fun h => ⟨fun n hp => ?_, fun x hp => ?_⟩,
      fun n hp => ?_, fun x hp => ?_, fun n => ?_, fun x => ?_, s.withdrawAllGos_keeps⟩
    · have hset := State.setLatch_of_entry hl he
      refine ⟨fun hno => hset.trans (if_pos hno), fun hg hsent => hset.trans (if_neg ?_)⟩
      rw [hg, hsent]
      decide
    · subst hp
      rw [s.goUnsent_shuttle_iff]
      exact exists_congr fun i => and_congr_right fun _ => and_congr_right fun _ => isGoOf_iff i.tel h
    · subst hp
      rw [s.goUnsent_lift_iff]
      exact exists_congr fun i => and_congr_right fun _ => and_congr_right fun _ => isGoOf_iff i.tel h
    · subst hp
      simp only [← hgoes]
      rfl
    · subst hp
      simp only [← hgoes]
      rfl
    · simp only [← hgoes]
      exact s.shuttle_withdrawAllGos n
    · simp only [← hgoes]
      exact s.link_withdrawAllGos x

end Sys2Proof.Machine

/-! ## Flags and notices (O44) -/

namespace Sys2Proof.Machine

/-! ### Sets of flags (R190) -/

theorem Flags.get_put (p : Flags) (f g : Flag) : (p.put f).get g = (decide (g = f) || p.get g) := by
  cases f <;> cases g <;> rfl

theorem Flags.get_both (f g : Flags) (k : Flag) : (f.both g).get k = (f.get k && g.get k) := by cases k <;> rfl

theorem Flags.get_minus (f g : Flags) (k : Flag) : (f.minus g).get k = (f.get k && !g.get k) := by cases k <;> rfl

theorem Flags.any_iff (f : Flags) : f.any = true ↔ ∃ k, f.get k = true := by
  constructor
  · intro h
    simp only [Flags.any, Bool.or_eq_true] at h
    rcases h with ((((h | h) | h) | h) | h) | h
    · exact ⟨.fault, h⟩
    · exact ⟨.mode, h⟩
    · exact ⟨.streamLow, h⟩
    · exact ⟨.serviceReady, h⟩
    · exact ⟨.doubt, h⟩
    · exact ⟨.overrun, h⟩
  · rintro ⟨k, h⟩
    cases k <;> simp_all [Flags.any, Flags.get]

theorem Flags.getLsbD_byte (f : Flags) (i : Nat) :
    f.byte.getLsbD i = [f.fault, f.mode, f.streamLow, f.serviceReady, f.doubt, f.overrun].getD i false := by
  have hlow : ∀ (a b c d e g : Bool) (j : Fin 8), (Flags.byte ⟨a, b, c, d, e, g⟩).getLsbD j.val = [a, b, c, d, e, g].getD j.val false := by
    decide
  by_cases hi : i < 8
  · exact hlow _ _ _ _ _ _ ⟨i, hi⟩
  · rw [BitVec.getLsbD_of_ge _ _ (by omega), List.getD_eq_default _ _ (by simp only [List.length_cons, List.length_nil]; omega)]

/-! ### The NOTICE (R131, R190) -/

theorem isNotice_iff (m : Tel) : m.isNotice = true ↔ m.kind = 0x54 := decide_eq_true_iff

/-- A NOTICE is queued, or waits for a place (R131). -/
theorem noticeHeld_iff (s : State) : (s.store.upstream.any Tel.isNotice || s.store.noticeWait.isSome) = true ↔
    (∃ m ∈ s.store.upstream, m.kind = 0x54) ∨ s.store.noticeWait ≠ none := by
  rw [Bool.or_eq_true, List.any_eq_true, Option.isSome_iff_ne_none]
  simp only [isNotice_iff]

/-- A number built from bits, the first one lowest. -/
theorem testBit_bits (l : List Bool) (i : Nat) :
    (l.foldr (fun (b : Bool) (acc : Nat) => 2 * acc + (if b = true then 1 else 0)) 0).testBit i = l.getD i false := by
  induction l generalizing i with
  | nil => simp
  | cons b l ih =>
    rw [List.foldr_cons]
    have hbit : ∀ n, 2 * n + (if b = true then 1 else 0) = Nat.bit b n := fun n => by cases b <;> simp [Nat.bit_val]
    rw [hbit]
    cases i with
    | zero => simp
    | succ i => rw [Nat.testBit_bit_succ, ih]; simp

theorem State.lowMarkers_getD (s : State) (k : StreamNo) (hk : k ≠ 0) :
    s.lowMarkers.getD (k.val - 1) false = (s.stream k).lowMarker := by
  have hpos : 0 < k.val := Nat.pos_of_ne_zero fun h => hk (Fin.ext h)
  have hlt : k.val - 1 < (List.finRange 17).tail.length := by simp; omega
  unfold lowMarkers
  rw [List.getD_eq_getElem?_getD, List.getElem?_map, List.getElem?_eq_getElem hlt]
  have hget : (List.finRange 17).tail[k.val - 1] = k := by
    rw [List.getElem_tail, List.getElem_finRange]
    exact Fin.ext (by simp; omega)
  rw [hget]
  rfl

theorem State.getLsbD_lowSet (s : State) (k : StreamNo) (hk : k ≠ 0) : s.lowSet.getLsbD (k.val - 1) = (s.stream k).lowMarker := by
  rw [← s.lowMarkers_getD k hk, ← testBit_bits, State.lowSet, BitVec.getLsbD_ofNat]
  have : k.val - 1 < 16 := by omega
  simp [this]

theorem State.refreshNotice_eq {s : State} {body : Body} (hb : s.noticeBody = body) : s.refreshNotice = { s with store := { s.store with
    upstream := s.store.upstream.map (fun m => if m.kind = 0x54 then { m with body := body } else m)
    noticeWait := s.store.noticeWait.map (fun m => { m with body := body }) } } := by
  have hmap : (fun m : Tel => if m.isNotice = true then { m with body := body } else m)
      = fun m => if m.kind = 0x54 then { m with body := body } else m := by
    funext m
    exact if_congr (isNotice_iff m) rfl rfl
  unfold refreshNotice
  rw [hb]
  dsimp only
  rw [hmap]

/-- Settles O44: a flag handed on and its NOTICE, what the NOTICE says, and sets of flags (R88, R131, R135, R156, R157, R179, R190, R192). -/
theorem noticesAreMade : Obligations.NoticesAreMade := by
  unfold Obligations.NoticesAreMade
  refine ⟨?flag, ?made, Flags.getLsbD_byte, ?sets, by decide⟩
  case flag =>
    intro s f pending u
    refine ⟨Flags.get_put _ f, fun h => ?_, fun h => ?_⟩
    · unfold State.handFlag
      exact if_pos h
    · unfold State.handFlag
      exact if_neg (Bool.eq_false_iff.mp h)
  case made =>
    intro s body one made
    have hbody : s.noticeBody = body := by
      unfold State.noticeBody
      simp only [body]
      cases s.leadFault <;> rfl
    have hheld := noticeHeld_iff s
    refine ⟨fun hone => ?_, fun hone hroom => ?_, fun hone hfull => ?_, s.getLsbD_lowSet, fun m => ?_⟩
    · unfold State.makeNotice
      rw [if_pos (hheld.mpr hone)]
      exact State.refreshNotice_eq hbody
    · unfold State.makeNotice
      rw [if_neg fun h => hone (hheld.mp h), hbody]
      exact if_pos (State.placeFree_of_lt hroom)
    · unfold State.makeNotice
      rw [if_neg fun h => hone (hheld.mp h), hbody]
      exact if_neg (by rw [State.placeFree_of_used hfull]; exact Bool.false_ne_true)
    · have hpermits : m.permits = decide (m = .run ∨ m = .drain) := by cases m <;> rfl
      unfold State.setMode
      rw [hpermits]
  case sets =>
    exact fun f g => ⟨by rw [Flags.any_iff]; simp only [Flags.get_both, Bool.and_eq_true],
      fun k => ⟨Flags.get_both f g k, Flags.get_minus f g k⟩, f.any_iff, rfl⟩

end Sys2Proof.Machine

/-! ## A request by the effect, the result and the data of its execution -/

namespace Sys2Proof.Machine

section
variable {s t : State} {h : StoreHdr} {answer : Bool} {q : Req} {r : Option Reason} {d : List Byte}

/-- A request that is taken leaves what its execution gives, passed on, and its ANSWER (R133, R184). -/
theorem requested_of_exec (ht : Takes s h answer)
    (hexec : (s.storeHunt.executing h.tag answer q).execReq q = (t, r, d))
    (hdata : ∀ (u : State) d, u.answerData q d = d) :
    done (s.onRequest h true q) = .next (t.finish.executed h.tag answer q.code r d) := by
  rw [requested_of_takes s h answer q ht, hexec, hdata]

theorem finish_of_executing (ht : Takes s h answer) (hwork : t.work = (s.storeHunt.executing h.tag answer q).work) :
    t.finish = t := by
  have hidle : t.work = { Work.done with reserved := answer } := by
    rw [hwork]
    simp only [State.executing, State.storeHunt, ht.rests]
  apply State.finish_of_idle <;> rw [hidle] <;> rfl

/-- A request whose execution leaves nothing to pass on. -/
theorem requested_of_calm (ht : Takes s h answer)
    (hexec : (s.storeHunt.executing h.tag answer q).execReq q = (t, r, d))
    (hwork : t.work = (s.storeHunt.executing h.tag answer q).work) (hdata : ∀ (u : State) d, u.answerData q d = d) :
    done (s.onRequest h true q) = .next (t.executed h.tag answer q.code r d) := by
  rw [requested_of_exec ht hexec hdata, finish_of_executing ht hwork]

end

/-- Bit 6 or bit 7 of a byte is set (R190). -/
theorem badFlags_iff (b : Byte) : badFlags b = true ↔ 64 ≤ b.toNat := by
  have hb := b.isLt
  simp only [badFlags, Bool.or_eq_true, BitVec.getLsbD, Nat.testBit_eq_decide_div_mod_eq, decide_eq_true_eq]
  omega

end Sys2Proof.Machine

/-! ## Clears of faults, latches and notices (O45) -/

namespace Sys2Proof.Machine

namespace State
variable {s : State}

/-! ### The fault unit (R178 to R181) -/

theorem leadFault_eq_some_iff (k : FaultClass) : s.leadFault = some k ↔ ∃ before after, s.faults.priority = before ++ k :: after
    ∧ s.faultRec k ≠ none ∧ ∀ j ∈ before, s.faultRec j = none := by
  unfold leadFault
  rw [List.find?_eq_some_iff_append, Option.isSome_iff_ne_none]
  constructor
  · rintro ⟨hk, before, after, hl, hbefore⟩
    exact ⟨before, after, hl, hk, fun j hj => by simpa using hbefore j hj⟩
  · rintro ⟨before, after, hl, hk, hbefore⟩
    exact ⟨hk, before, after, hl, fun j hj => by rw [hbefore j hj]; rfl⟩

theorem faultCount_of_none {k : FaultClass} (h : s.faultRec k = none) : s.faultCount k = 0 := by
  unfold faultCount
  rw [h]

theorem faultCount_of_some {k : FaultClass} {f : FaultRec} (h : s.faultRec k = some f) : s.faultCount k = f.count := by
  unfold faultCount
  rw [h]

theorem clearBlocked_iff (k : FaultClass) : s.clearBlocked k = true ↔ k = .stopInput ∧ s.modeCtl.stop = true := by
  simp [clearBlocked]

theorem clearFault_of_no_class {c : Byte} (h : c = 0 ∨ 12 < c.toNat) : s.clearFault c = (s, some .badCount, []) := by
  unfold clearFault
  rw [classOf_eq_none h]

theorem clearFault_of_class (k : FaultClass) : s.clearFault k.byte =
    if s.clearBlocked k then (s, some .busy, []) else (s.setFaultRec k none, none, [k.byte, s.faultCount k]) := by
  unfold clearFault
  rw [classOf_byte]

theorem clearLead_of_none (h : s.leadFault = none) : s.clearLead = (s, none, [0, 0]) := by
  unfold clearLead
  rw [h]

theorem clearLead_of_some {k : FaultClass} (h : s.leadFault = some k) : s.clearLead =
    if s.clearBlocked k then (s, some .busy, [k.byte, 0]) else (s.setFaultRec k none, none, [k.byte, s.faultCount k]) := by
  unfold clearLead
  rw [h]

theorem clearParty_of_no_party {b : Byte} (h : b = 0 ∨ 42 < b.toNat) : s.clearParty b = (s, some .badCount, []) := by
  have hno : partyOf b = none := by
    rcases h with rfl | h
    · rfl
    · exact partyOf_eq_none_of_beyond h
  unfold clearParty
  rw [hno]

theorem clearParty_of_party {b : Byte} {p : Party} (h : b = p.station) : s.clearParty b =
    if s.latch p then ((s.setLatchBit p false).wantReeval, none, [b, 1]) else (s, none, [b, 0]) := by
  unfold clearParty
  rw [(partyOf_eq_some_iff b p).mpr h]

/-! ### CLEAR-NOTICE (R88, R191) -/

/-- What CLEAR-NOTICE leaves before the NOTICE is brought up to date (R88, R191). -/
def noticeCleared (s : State) (b : Byte) : State :=
  let u : State := { s with notices := NoticeUnit.make (s.notices.pending.minus (flagsOf b)) s.notices.enabled }
  if (flagsOf b).streamLow then u.clearLowMarkers else u

theorem clearNotice_of_bad {b : Byte} (h : badFlags b = true) : s.clearNotice b = (s, some .badCount, []) := if_pos h

theorem noticeCleared_notices (b : Byte) : (s.noticeCleared b).notices
    = NoticeUnit.make (s.notices.pending.minus (flagsOf b)) s.notices.enabled := by
  unfold noticeCleared
  dsimp only
  split <;> rfl

theorem noticeCleared_keeps (b : Byte) : s.noticeCleared b
    = { s with notices := (s.noticeCleared b).notices, streams := (s.noticeCleared b).streams } := by
  unfold noticeCleared
  dsimp only
  split <;> rfl

theorem clearNotice_of_good {b : Byte} (h : badFlags b = false) : s.clearNotice b
    = ((s.noticeCleared b).refreshNotice, none, [(s.notices.pending.minus (flagsOf b)).byte]) := by
  have hdata : (s.noticeCleared b).refreshNotice.notices.pending.byte = (s.notices.pending.minus (flagsOf b)).byte :=
    congrArg (fun n => n.pending.byte) (noticeCleared_notices b)
  rw [← hdata]
  exact if_neg (Bool.eq_false_iff.mp h)

theorem stream_noticeCleared (b : Byte) (i : StreamNo) : (s.noticeCleared b).stream i
    = { s.stream i with lowMarker := if b.getLsbD 2 then false else (s.stream i).lowMarker } := by
  unfold noticeCleared
  dsimp only
  rw [show (flagsOf b).streamLow = b.getLsbD 2 from rfl]
  split
  · exact getElem_vmap _ _ _ _
  · rfl

theorem lowSet_noticeCleared (b : Byte) : (s.noticeCleared b).lowSet = if b.getLsbD 2 then 0 else s.lowSet := by
  cases hb : b.getLsbD 2 with
  | true => exact lowSet_of_clear fun i => by rw [stream_noticeCleared, hb]; rfl
  | false =>
    unfold lowSet lowMarkers
    simp only [stream_noticeCleared, hb]
    rfl

theorem work_noticeCleared (b : Byte) : (s.noticeCleared b).work = s.work := (congrArg State.work (noticeCleared_keeps b) :)

theorem store_noticeCleared (b : Byte) : (s.noticeCleared b).store = s.store := (congrArg State.store (noticeCleared_keeps b) :)

theorem noticeBody_noticeCleared (b : Byte) : (s.noticeCleared b).noticeBody
    = .notice (s.notices.pending.minus (flagsOf b)).byte (if b.getLsbD 2 then 0 else s.lowSet) (leadByte s.leadFault) s.mode.byte := by
  have hlead : (s.noticeCleared b).leadFault = s.leadFault := by
    rw [noticeCleared_keeps]
    rfl
  have hmode : (s.noticeCleared b).mode = s.mode := by
    rw [noticeCleared_keeps]
    rfl
  unfold State.noticeBody
  rw [hlead, hmode, lowSet_noticeCleared, noticeCleared_notices]
  rfl

end State

/-- Settles O45: the clears of faults, of latches and of notice flags (R88, R178 to R181, R191, R192). -/
theorem faultAndNoticeClears : Obligations.FaultAndNoticeClears := by
  unfold Obligations.FaultAndNoticeClears
  refine ⟨?faults, ?notices⟩
  case faults =>
    intro s h answer ht x held stopped
    have hheld : ∀ k, s.faultCount k = held k := by
      intro k
      simp only [held]
      cases hk : s.faultRec k with
      | none => exact State.faultCount_of_none hk
      | some f => exact State.faultCount_of_some hk
    have hstopped : ∀ k, s.clearBlocked k = true ↔ stopped k := State.clearBlocked_iff
    refine ⟨State.leadFault_eq_some_iff, fun c hc => ?noClass, fun c k hc => ⟨fun hs => ?stopped, fun hs => ?cleared⟩, fun hl => ?noLead,
      fun k hl => ⟨fun hs => ?leadStopped, fun hs => ?leadCleared⟩, fun b => ⟨fun hb => ?noParty, fun p hp => ⟨fun hl => ?off, fun hl => ?on⟩⟩⟩
    case noClass => exact requested_of_calm (q := .clearFault c) ht (State.clearFault_of_no_class hc) rfl fun _ _ => rfl
    case stopped =>
      subst hc
      exact requested_of_calm (q := .clearFault k.byte) ht
        ((State.clearFault_of_class k).trans (if_pos ((hstopped k).mpr hs))) rfl fun _ _ => rfl
    case cleared =>
      subst hc
      rw [← hheld]
      exact requested_of_calm (q := .clearFault k.byte) ht
        ((State.clearFault_of_class k).trans (if_neg fun hb => hs ((hstopped k).mp hb))) rfl fun _ _ => rfl
    case noLead => exact requested_of_calm (q := .clearLead) ht (State.clearLead_of_none hl) rfl fun _ _ => rfl
    case leadStopped =>
      exact requested_of_calm (q := .clearLead) ht
        ((State.clearLead_of_some (s := x .clearLead) hl).trans (if_pos ((hstopped k).mpr hs))) rfl fun _ _ => rfl
    case leadCleared =>
      rw [← hheld]
      exact requested_of_calm (q := .clearLead) ht
        ((State.clearLead_of_some (s := x .clearLead) hl).trans (if_neg fun hb => hs ((hstopped k).mp hb))) rfl fun _ _ => rfl
    case noParty => exact requested_of_calm (q := .clearParty b) ht (State.clearParty_of_no_party hb) rfl fun _ _ => rfl
    case off =>
      exact requested_of_calm (q := .clearParty b) ht
        ((State.clearParty_of_party hp).trans (if_neg (Bool.eq_false_iff.mp hl))) rfl fun _ _ => rfl
    case on => exact requested_of_exec (q := .clearParty b) ht ((State.clearParty_of_party hp).trans (if_pos hl)) fun _ _ => rfl
  case notices =>
    intro s h answer b ht x
    refine ⟨fun hb => ?bad, ?good⟩
    case bad => exact requested_of_calm (q := .clearNotice b) ht (State.clearNotice_of_bad ((badFlags_iff b).mpr hb)) rfl fun _ _ => rfl
    case good =>
      intro hb left
      have hgood : badFlags b = false := Bool.eq_false_iff.mpr fun hbad => by
        have := (badFlags_iff b).mp hbad
        omega
      refine ⟨(x.noticeCleared b).refreshNotice, ?_, State.noticeCleared_notices b, State.stream_noticeCleared b, ?_, ?_⟩
      · exact requested_of_calm (q := .clearNotice b) ht (State.clearNotice_of_good hgood)
          (State.work_noticeCleared b) fun _ _ => rfl
      · intro low body
        have hbody : (x.noticeCleared b).noticeBody = body := by
          refine (State.noticeBody_noticeCleared b).trans ?_
          simp only [body]
          rw [show x.leadFault = s.leadFault from rfl]
          cases s.leadFault <;> rfl
        rw [State.refreshNotice_eq hbody]
        dsimp only
        rw [State.store_noticeCleared]
        rfl
      · unfold State.refreshNotice
        rw [State.noticeCleared_keeps]

end Sys2Proof.Machine

/-! ## Slot map writes (O46) -/

namespace Sys2Proof.Machine

namespace State

theorem levelMapped_iff (s : State) (n : Level) : s.levelMapped n = true ↔ ∃ c, s.slot n c ≠ .off := by
  have hmapped (v : Slot) : v.mapped = true ↔ v ≠ .off := by
    rw [ne_eq, ← Slot.mapped_eq_false_iff, Bool.not_eq_false]
  unfold levelMapped
  rw [List.any_eq_true]
  simp only [hmapped]
  exact ⟨fun ⟨c, _, hc⟩ => ⟨c, hc⟩, fun ⟨c, hc⟩ => ⟨c, by cases c <;> decide, hc⟩⟩

/-- A NOTICE changes the upstream queue and the NOTICE that waits, and nothing else of the store line (R131). -/
theorem store_makeNotice_keeps (s : State) : s.makeNotice.store =
    { s.store with upstream := s.makeNotice.store.upstream, noticeWait := s.makeNotice.store.noticeWait } := by
  unfold makeNotice
  split
  · rfl
  · dsimp only
    split <;> rfl

theorem store_handFlag_keeps (s : State) (f : Flag) : (s.handFlag f).store =
    { s.store with upstream := (s.handFlag f).store.upstream, noticeWait := (s.handFlag f).store.noticeWait } := by
  unfold handFlag
  dsimp only
  split
  · exact store_makeNotice_keeps _
  · rfl

section
variable (s : State) (map : List Byte)

/-- The orders that wait for a level that the map unmaps (R150). -/
def mapGone : List LevelItem := s.bus.queue.filter (fun i => mapAt map i.level = 0)

/-- The slots, the levels' records and the queue under a new map (R13, R150). -/
def remapped : State := { s with
  slots := vmap s.slots (fun n l => l.map (fun c v => v.remap (mapBit (mapAt map n) c)))
  shuttles := vmap s.shuttles (fun n r => r.remap (s.levelMapped n) (mapAt map n ≠ 0))
  bus := { s.bus with queue := s.bus.queue.filter (fun i => mapAt map i.level ≠ 0) } }

/-- The new map with the orders of unmapped levels answered (R134, R150). -/
def mapAnswered : State := (s.mapGone map).foldl (fun s i => s.sendNotForwarded .unmapped i.tel) (s.remapped map)

/-- The map with its flag, when it maps a slot (R13, R190). -/
def mapFlagged : State :=
  if map.any (fun b => b ≠ 0) then (s.mapAnswered map).handFlag .doubt else s.mapAnswered map

theorem applyMap_eq : s.applyMap map = ((s.mapFlagged map).touch).wantLook := rfl

theorem mapAnswered_keeps : s.mapAnswered map = { s.remapped map with
    store := { s.store with upstream := (s.mapAnswered map).store.upstream, nfWait := (s.mapAnswered map).store.nfWait }
    work := { s.work with raises := (s.mapAnswered map).work.raises } } :=
  foldl_sendNotForwarded_keeps (fun i : LevelItem => i.tel) .unmapped (s.mapGone map) (s.remapped map)

theorem mapFlagged_keeps : s.mapFlagged map = { s.remapped map with
    store := { s.store with
      upstream := (s.mapFlagged map).store.upstream, noticeWait := (s.mapFlagged map).store.noticeWait
      nfWait := (s.mapAnswered map).store.nfWait }
    notices := (s.mapFlagged map).notices
    work := { s.work with raises := (s.mapAnswered map).work.raises } } := by
  have hanswered := s.mapAnswered_keeps map
  unfold mapFlagged
  generalize s.mapAnswered map = u at hanswered ⊢
  split
  · have hkeeps := u.handFlag_keeps .doubt
    have hstore := u.store_handFlag_keeps .doubt
    generalize u.handFlag .doubt = w at hkeeps hstore ⊢
    rw [hkeeps]
    dsimp only
    rw [hstore, hanswered]
  · rw [hanswered]

theorem notified_mapFlagged : Notified (s.mapAnswered map) (s.mapFlagged map) := by
  unfold mapFlagged
  split
  · exact notified_handFlag _ _
  · exact .of_upstream rfl

theorem mapAnswered_of_room {s : State} {map : List Byte} (h : s.upstreamUsed + (s.mapGone map).length ≤ 64) :
    s.mapAnswered map = { s.remapped map with store := { s.store with
      upstream := s.store.upstream ++ (s.mapGone map).map (fun i => s.notForwarded .unmapped i.tel) } } :=
  foldl_sendNotForwarded_of_room (fun i : LevelItem => i.tel) .unmapped (s.mapGone map) h

theorem any_ne_zero_iff {map : List Byte} : (map.any fun b => b ≠ 0) = true ↔ ∃ b ∈ map, b ≠ 0 := by
  simp

/-! ### The levels and the bus under a new map -/

theorem slot_remapped (n : Level) (c : SlotCode) : (s.remapped map).slot n c
    = if mapBit (mapAt map n) c then .doubt (s.slot n c).content .mapped none none else .off :=
  s.slot_vmap (fun n c v => v.remap (mapBit (mapAt map n) c)) n c

theorem shuttle_remapped (n : Level) : (s.remapped map).shuttle n
    = if mapAt map n = 0 then (if s.levelMapped n then ⟨.unmapped, 0, false, 0, []⟩ else s.shuttle n)
      else (if s.levelMapped n then s.shuttle n else { s.shuttle n with presence := .returning, miss := 0, mark := false }) := by
  have hremap : (s.remapped map).shuttle n = (s.shuttle n).remap (s.levelMapped n) (mapAt map n ≠ 0) := getElem_vmap _ _ _ _
  rw [hremap]
  by_cases hmap : mapAt map n = 0
  · rw [if_pos hmap, decide_eq_false (not_not.mpr hmap)]
    cases s.levelMapped n <;> rfl
  · rw [if_neg hmap, decide_eq_true hmap]
    cases s.levelMapped n <;> rfl

/-- A level that the map keeps, or maps first, is included in a cycle that included it before. -/
theorem included_remapped_of_kept {n : Level} {probe : Bool} (hmap : mapAt map n ≠ 0)
    (hi : (s.shuttle n).presence.included probe = true) : ((s.remapped map).shuttle n).presence.included probe = true := by
  rw [shuttle_remapped, if_neg hmap]
  split
  · exact hi
  · rfl

/-- With no level polled before, the levels that a cycle includes are those that the map maps first. -/
theorem included_remapped_iff {n : Level} {probe : Bool} (hno : (s.shuttle n).presence.included true = false) :
    ((s.remapped map).shuttle n).presence.included probe = true ↔ s.levelMapped n = false ∧ mapAt map n ≠ 0 := by
  have hunpolled : (s.shuttle n).presence.included probe = false := by
    cases hp : (s.shuttle n).presence <;> simp_all [LevelPresence.included]
  rw [shuttle_remapped]
  by_cases hmap : mapAt map n = 0
  · rw [if_pos hmap]
    refine iff_of_false ?_ fun h => h.2 hmap
    split
    · exact Bool.false_ne_true
    · rw [hunpolled]
      exact Bool.false_ne_true
  · rw [if_neg hmap]
    cases s.levelMapped n with
    | false => exact iff_of_true rfl ⟨rfl, hmap⟩
    | true => exact iff_of_false (by rw [if_pos rfl, hunpolled]; exact Bool.false_ne_true) fun h => Bool.false_ne_true h.1.symm

/-! ### The write (R13, R150) -/

theorem writeMap_of_mode (h : s.mode ≠ .config) : s.writeMap map = (s, some .config) := if_pos h

theorem writeMap_of_bad (hm : s.mode = .config) (h : ∃ b ∈ map, badMapByte b = true) : s.writeMap map = (s, some .badSlot) :=
  (if_neg (not_not.mpr hm)).trans (if_pos (List.any_eq_true.mpr h))

theorem writeMap_of_good (hm : s.mode = .config) (h : ∀ b ∈ map, ¬ badMapByte b = true) : s.writeMap map = (s.applyMap map, none) :=
  (if_neg (not_not.mpr hm)).trans (if_neg fun hb => (List.any_eq_true.mp hb).elim fun b hb => h b hb.1 hb.2)

theorem applyMap_keeps : s.applyMap map = { s.remapped map with
    store := { s.store with
      upstream := (s.mapFlagged map).store.upstream, noticeWait := (s.mapFlagged map).store.noticeWait
      nfWait := (s.mapAnswered map).store.nfWait }
    notices := (s.mapFlagged map).notices
    work := { s.work with touched := true, look := true, raises := (s.mapAnswered map).work.raises } } := by
  rw [applyMap_eq, mapFlagged_keeps]
  rfl

/-- The scheduler looks at the end of the write (R150). -/
theorem finish_applyMap_bus : (s.applyMap map).finish.bus = (s.applyMap map).schedule.bus := by
  rw [finish_bus, lookDone_of_set]
  rfl

end

end State

theorem badMapByte_iff (b : Byte) : badMapByte b = true ↔ b.getLsbD 6 = true ∨ b.getLsbD 7 = true
    ∨ (b ≠ 0 ∧ b.getLsbD 0 = false ∧ b.getLsbD 1 = false) := by
  have h1 : mapBit b .in1 = b.getLsbD 0 := rfl
  have h2 : mapBit b .in2 = b.getLsbD 1 := rfl
  unfold badMapByte
  rw [h1, h2]
  simp [or_assoc, and_assoc]

section
variable {s : State} {h : StoreHdr} {answer : Bool} {map : List Byte} (ht : Takes s h answer)
include ht

theorem exec_slotMapWrite_of_length (hl : map.length = 40) {p : State × Option Reason}
    (hw : (s.storeHunt.executing h.tag answer (.slotMap map)).writeMap map = p) :
    exec (.slotMapWrite h map) s = .next (p.1.finish.executed h.tag answer 1 p.2 (if p.2.isNone then [1] else [])) := by
  have hexec : exec (.slotMapWrite h map) s = done (s.onRequest h true (.slotMap map)) := by
    show done (s.onRequest h (bodyFits (2 + map.length)) (if map.length = 40 then .slotMap map else .badForm 0x01)) = _
    rw [if_pos hl, hl]
    rfl
  rw [hexec]
  exact requested_of_exec ht (congrArg (answered · [1]) hw) fun _ _ => rfl

theorem exec_slotMapWrite_of_misfit (hl : map.length ≠ 40) (hfit : map.length ≤ 46) :
    exec (.slotMapWrite h map) s = .next ((s.storeHunt.executing h.tag answer (.badForm 1)).executed h.tag answer 1 (some .badCount) []) := by
  have hexec : exec (.slotMapWrite h map) s = done (s.onRequest h true (.badForm 0x01)) := by
    show done (s.onRequest h (bodyFits (2 + map.length)) (if map.length = 40 then .slotMap map else .badForm 0x01)) = _
    rw [if_neg hl, show bodyFits (2 + map.length) = true from decide_eq_true (by omega)]
  rw [hexec]
  exact requested_of_calm ht rfl rfl fun _ _ => rfl

end

/-- Settles O46: what a map is refused for, and the slots, the levels, the cycle and the orders under a map that is taken
(R6, R13, R14, R138, R150, R184, R185). -/
theorem slotMapWrites : Obligations.SlotMapWrites := by
  unfold Obligations.SlotMapWrites
  refine ⟨State.levelMapped_iff, ?write⟩
  intro s h answer map ht x a bad
  have hbad (b : Byte) : badMapByte b = true ↔ bad b := badMapByte_iff b
  refine ⟨exec_slotMapWrite_of_misfit ht, fun hl hm => ?mode, fun hl hm hb => ?badSlot, fun hl hm hgood => ?taken⟩
  case mode =>
    refine (exec_slotMapWrite_of_length ht hl (State.writeMap_of_mode _ map hm)).trans ?_
    rw [finish_of_executing ht rfl]
    rfl
  case badSlot =>
    refine (exec_slotMapWrite_of_length ht hl (State.writeMap_of_bad _ map hm ?_)).trans ?_
    · exact hb.imp fun b hb => ⟨hb.1, (hbad b).mpr hb.2⟩
    · rw [finish_of_executing ht rfl]
      rfl
  case taken =>
    let u := x (.slotMap map)
    let t := u.applyMap map
    have hkeeps : t = _ := u.applyMap_keeps map
    have hbus : t.bus = (u.remapped map).bus := (congrArg State.bus hkeeps :)
    have hturn : t.bus.turn = s.bus.turn := by rw [hbus]; rfl
    have hnext : t.bus.next = s.bus.next := by rw [hbus]; rfl
    have hprobe : t.bus.probeCycle = s.bus.probeCycle := by rw [hbus]; rfl
    have hshuttle (k : Level) : t.shuttle k = (u.remapped map).shuttle k := (congrArg (fun v : State => v.shuttle k) hkeeps :)
    have hfinish : t.finish.bus = t.schedule.bus := u.finish_applyMap_bus map
    have hfits (hroom : s.store.upstream.length + (u.mapGone map).length < 64) : u.upstreamUsed + (u.mapGone map).length ≤ 64 := by
      have hused : u.upstreamUsed = s.store.upstream.length + (if answer then 1 else 0) := rfl
      have hplace : (if answer then 1 else 0) ≤ 1 := by split <;> omega
      omega
    refine ⟨t, exec_slotMapWrite_of_length ht hl (State.writeMap_of_good _ map hm fun b hb => mt (hbad b).mp (hgood b hb)),
      fun n c => ?slots, fun n => ?shuttles, ?bus, ?answers, fun hb => ?doubt, fun hz => ?quiet, ?room, ?work, ?store, ?keeps⟩
    case slots => exact (congrArg (fun v : State => v.slot n c) hkeeps :).trans (u.slot_remapped map n c)
    case shuttles => exact (hshuttle n).trans (u.shuttle_remapped map n)
    case bus =>
      intro kept polled first
      have hkept : t.bus = kept := hbus
      have hpolls (n : Level) : (s.shuttle n).presence.included true = true ↔ polled n := by
        rw [included_iff]
        simp only [true_and, polled, or_assoc]
      have hincluded (hno : ∀ n, ¬ polled n) {probe : Bool} (n : Level) : (t.shuttle n).presence.included probe = true ↔ first n := by
        rw [hshuttle]
        exact u.included_remapped_iff map (Bool.eq_false_iff.mpr (mt (hpolls n).mp (hno n)))
      have hunpolled (hs : SchedulerFollows s) (hi : s.bus.turn = .idle) (hno : ∀ n, ¬ polled n) :
          s.bus.next = none ∧ s.bus.cycle = false ∧ s.bus.pos = none := by
        obtain ⟨-, hfound, hnone, hrest⟩ := hs
        have hn : s.bus.next = none := Option.eq_none_iff_forall_ne_some.mpr fun k hk => by
          obtain ⟨-, hstands, -⟩ := hfound k hk
          exact hno k ((hpolls k).mp ((included_iff _ _).mpr (((included_iff _ _).mp hstands).imp_right fun h => ⟨rfl, h.2⟩)))
        exact ⟨hn, (hnone hi hn).1, (hrest (hnone hi hn).1).1⟩
      have hstill (hn : s.bus.next = none) : t.nextStands = false := State.nextStands_eq_false fun k hk =>
        absurd ((hnext.trans hn).symm.trans hk) (Option.some_ne_none k).symm
      refine ⟨hkept, fun hturns => ?turn, fun hs hi hstays hpolled => ?stands, fun hs hi hno => ⟨fun n hn hfirst => ?begins, fun hnone => ?idle⟩⟩
      all_goals rw [hfinish]
      case turn => rw [State.schedule_of_turn (by rw [hturn]; exact hturns), hkept]
      case stands =>
        obtain ⟨-, hfound, hnone, -⟩ := hs
        cases hn : s.bus.next with
        | none =>
          obtain ⟨n, hp⟩ := hpolled
          exact absurd ((hpolls n).mpr hp) (by rw [(hnone hi hn).2 n]; exact Bool.false_ne_true)
        | some n =>
          obtain ⟨-, hincluded, -⟩ := hfound n hn
          have hstands : t.nextStands = true := by
            rw [State.nextStands_of_some (hnext.trans hn), hprobe, hshuttle]
            exact u.included_remapped_of_kept map (hstays n hn) hincluded
          rw [State.schedule_of_stands hstands, hkept]
      case begins =>
        obtain ⟨hn0, hcycle, -⟩ := hunpolled hs hi hno
        have hbegin : t.bus.endCycle.beginCycle t.timing.probeInterval = { kept with
            pos := none, cycle := true, next := none
            probeCycle := decide (s.timing.probeInterval.toNat ≤ s.bus.probeCount.toNat + 1) } := by
          rw [hkept, Bus.endCycle_of_no_cycle (b := kept) hcycle, show t.timing = s.timing by rw [hkeeps]; rfl]
          rfl
        have hseek : t.seek (t.bus.endCycle.beginCycle t.timing.probeInterval) = some n := by
          rw [hbegin, State.seek_eq_some_iff]
          refine ⟨fun _ => nofun, ?_, fun k hk _ => ?_⟩
          · exact (hincluded hno n).mpr hn
          · exact mt (hincluded hno k).mp (hfirst k hk)
        have hany : t.anyPolled = true := t.anyPolled_iff.mpr ⟨n, (hincluded hno n).mpr hn⟩
        rw [State.schedule_of_idle (hturn.trans hi) (hstill hn0), State.look_of_ended fun hc => absurd ((congrArg Bus.cycle hkept).symm.trans hc)
          (by rw [hcycle]; exact Bool.false_ne_true), if_pos hany, State.newCycle_of_found hseek 256, hbegin]
      case idle =>
        obtain ⟨hn0, hcycle, -⟩ := hunpolled hs hi hno
        have hany : ¬ t.anyPolled = true := fun h => (t.anyPolled_iff.mp h).elim fun n hn => hnone n ((hincluded hno n).mp hn)
        rw [State.schedule_of_idle (hturn.trans hi) (hstill hn0), State.look_of_ended fun hc => absurd ((congrArg Bus.cycle hkept).symm.trans hc)
          (by rw [hcycle]; exact Bool.false_ne_true), if_neg hany, hkept, Bus.endCycle_of_no_cycle (b := kept) hcycle]
        show { kept with next := none } = kept
        rw [← show kept.next = none from hn0]
    case answers =>
      intro gone hroom
      have hsent := State.mapAnswered_of_room (hfits hroom)
      have hstore : t.store.upstream = (u.mapFlagged map).store.upstream := (congrArg (fun v : State => v.store.upstream) hkeeps :)
      rw [hstore]
      refine (u.notified_mapFlagged map).same.trans ?_
      rw [State.notForwardeds, hsent]
      refine (List.filter_append ..).trans (congrArg₂ (· ++ ·) rfl (List.filter_eq_self.mpr fun m hm => ?_))
      obtain ⟨i, -, rfl⟩ := List.mem_map.mp hm
      rfl
    case doubt =>
      refine (congrArg (fun v : State => v.notices.pending.doubt) hkeeps :).trans ?_
      show (u.mapFlagged map).notices.pending.doubt = true
      unfold State.mapFlagged
      rw [if_pos (State.any_ne_zero_iff.mpr hb)]
      exact State.doubt_handFlag _
    case quiet =>
      refine (congrArg State.notices hkeeps :).trans ?_
      show (u.mapFlagged map).notices = s.notices
      unfold State.mapFlagged
      rw [if_neg fun h => (State.any_ne_zero_iff.mp h).elim fun b hb => hb.2 (hz b hb.1), State.mapAnswered_keeps]
      rfl
    case room =>
      intro hroom
      have hsent := State.mapAnswered_of_room (hfits hroom)
      refine ⟨(congrArg (fun v : State => v.store.nfWait) hkeeps :).trans ?_, (congrArg (fun v : State => v.work.raises) hkeeps :).trans ?_⟩
      · show (u.mapAnswered map).store.nfWait = s.store.nfWait
        rw [hsent]
        rfl
      · show (u.mapAnswered map).work.raises = []
        rw [hsent]
        exact congrArg Work.raises ht.rests
    case work => rw [hkeeps]
    case store => rw [hkeeps]
    case keeps =>
      rw [hkeeps]
      rfl

end Sys2Proof.Machine

/-! ## Route table writes (O47) -/

namespace Sys2Proof.Machine

/-! ### The bytes of a row (R79, R80) -/

theorem markOf_of_mark {b : Byte} (h : b = 0 ∨ b = 1) : markOf b = some (decide (b = 1)) := by
  rcases h with rfl | rfl <;> rfl

theorem markOf_of_other {b : Byte} (h : ¬ (b = 0 ∨ b = 1)) : markOf b = none := by
  obtain ⟨h0, h1⟩ := not_or.mp h
  rw [markOf, if_neg h1, if_neg h0]

theorem liftOf_of_station {b : Byte} (h : b = 41 ∨ b = 42) : liftOf b = some (if b = 41 then .a else .b) := by
  rcases h with rfl | rfl <;> rfl

theorem liftOf_of_other {b : Byte} (h : ¬ (b = 41 ∨ b = 42)) : liftOf b = none := by
  rw [Option.eq_none_iff_forall_ne_some]
  intro x hx
  have hb := liftOf_eq_some_iff.mp hx
  cases x
  · exact h (.inl hb)
  · exact h (.inr hb)

theorem alternateOf_of_lift {b : Byte} (h : b = 0 ∨ b = 41 ∨ b = 42) :
    alternateOf b = some (if b = 0 then none else if b = 41 then some .a else some .b) := by
  rcases h with rfl | rfl | rfl <;> rfl

theorem alternateOf_of_other {b : Byte} (h : ¬ (b = 0 ∨ b = 41 ∨ b = 42)) : alternateOf b = none := by
  obtain ⟨h0, hlift⟩ := not_or.mp h
  rw [alternateOf, if_neg h0, liftOf_of_other hlift]
  rfl

/-- The routed mark and the lifts of a row are in their ranges (R80). -/
def LiftsFit (w : RowBytes) : Prop := (w.routed = 0 ∨ w.routed = 1) ∧ (w.primary = 41 ∨ w.primary = 42)
  ∧ (w.alternate = 0 ∨ w.alternate = 41 ∨ w.alternate = 42)

/-- The five fields that stream 0 does not have are in their ranges (R79, R80). -/
def OthersFit (w : RowBytes) : Prop := 1 ≤ w.window.toNat ∧ w.window.toNat ≤ 8 ∧ (w.stray = 0 ∨ w.stray = 1)
  ∧ (w.confirm = 0 ∨ w.confirm = 1) ∧ (w.dflt = 0 ∨ w.dflt = 1) ∧ w.lowMark.toNat ≤ 127

/-- The row that bytes in their ranges give (R79, R80). -/
def rowGiven (w : RowBytes) (i : StreamNo) : Row where
  routed := decide (w.routed = 1)
  primary := if w.primary = 41 then .a else .b
  alternate := if w.alternate = 0 then none else if w.alternate = 41 then some .a else some .b
  window := if i = 0 then 1 else w.window
  stray := if i ≠ 0 ∧ w.stray = 1 then .accept else .refuse
  confirm := decide (i ≠ 0 ∧ w.confirm = 1)
  dflt := if i ≠ 0 ∧ w.dflt = 1 then .grant else .deny
  lowMark := if i = 0 then 0 else w.lowMark

section
variable {w : RowBytes} {i : StreamNo}

theorem sequencedFields_of_fit (h : OthersFit w) : sequencedFields w = some (w.window, if w.stray = 1 then .accept else .refuse,
    decide (w.confirm = 1), if w.dflt = 1 then .grant else .deny, w.lowMark) := by
  obtain ⟨h1, h8, hstray, hconfirm, hdflt, hlow⟩ := h
  unfold sequencedFields
  rw [markOf_of_mark hstray, markOf_of_mark hconfirm, markOf_of_mark hdflt]
  simp only [decide_eq_true_eq]
  exact if_pos ⟨h1, h8, hlow⟩

theorem sequencedFields_of_misfit (h : ¬ OthersFit w) : sequencedFields w = none := by
  unfold sequencedFields
  by_cases hstray : w.stray = 0 ∨ w.stray = 1
  · by_cases hconfirm : w.confirm = 0 ∨ w.confirm = 1
    · by_cases hdflt : w.dflt = 0 ∨ w.dflt = 1
      · rw [markOf_of_mark hstray, markOf_of_mark hconfirm, markOf_of_mark hdflt]
        exact if_neg fun ⟨h1, h8, hlow⟩ => h ⟨h1, h8, hstray, hconfirm, hdflt, hlow⟩
      · rw [markOf_of_other hdflt]
        cases markOf w.stray <;> cases markOf w.confirm <;> rfl
    · rw [markOf_of_other hconfirm]
      cases markOf w.stray <;> rfl
  · rw [markOf_of_other hstray]

theorem rowOf_of_fit (hl : LiftsFit w) (ho : i = 0 ∨ OthersFit w) : rowOf i w = some (rowGiven w i) := by
  obtain ⟨hrouted, hprimary, halternate⟩ := hl
  unfold rowOf
  rw [markOf_of_mark hrouted, liftOf_of_station hprimary, alternateOf_of_lift halternate]
  dsimp only
  unfold rowGiven
  by_cases hi : i = 0
  · simp [hi, Row.resetValues]
  · simp [hi, sequencedFields_of_fit (ho.resolve_left hi)]

theorem rowOf_of_misfit (h : ¬ LiftsFit w ∨ (i ≠ 0 ∧ ¬ OthersFit w)) : rowOf i w = none := by
  unfold rowOf
  by_cases hrouted : w.routed = 0 ∨ w.routed = 1
  · by_cases hprimary : w.primary = 41 ∨ w.primary = 42
    · by_cases halternate : w.alternate = 0 ∨ w.alternate = 41 ∨ w.alternate = 42
      · obtain ⟨hi, ho⟩ := h.resolve_left fun hl => hl ⟨hrouted, hprimary, halternate⟩
        rw [markOf_of_mark hrouted, liftOf_of_station hprimary, alternateOf_of_lift halternate]
        simp only [if_neg hi, sequencedFields_of_misfit ho]
      · rw [alternateOf_of_other halternate]
        cases markOf w.routed <;> cases liftOf w.primary <;> rfl
    · rw [liftOf_of_other hprimary]
      cases markOf w.routed <;> rfl
  · rw [markOf_of_other hrouted]

end

theorem Row.liftsDiffer_iff (a b : Row) : a.liftsDiffer b = true ↔ a.primary ≠ b.primary ∨ a.alternate ≠ b.alternate := by
  simp [Row.liftsDiffer]

/-! ### The write (R80, R81) -/

namespace State
variable {s : State} {stream : Byte} {w : RowBytes} {i : StreamNo} {row : Row}

theorem writeRow_of_no_stream (h : streamOf stream = none) : s.writeRow stream w = (s, some .badCount) := by
  unfold writeRow
  rw [h]

theorem writeRow_of_misfit (h : rowOf i w = none) (hi : streamOf stream = some i) : s.writeRow stream w = (s, some .badCount) := by
  unfold writeRow
  rw [hi]
  dsimp only
  rw [h]

theorem writeRow_of_row (hi : streamOf stream = some i) (h : rowOf i w = some row) : s.writeRow stream w =
    if row.alternate = some row.primary then (s, some .route)
    else if (s.stream i).row.liftsDiffer row && (s.custody i .a || s.custody i .b) then (s, some .busy)
    else (s.applyRow i row, none) := by
  unfold writeRow
  rw [hi]
  dsimp only
  rw [h]

theorem applyRow_of_moved (h : (s.stream i).row.liftsDiffer row = true) : s.applyRow i row =
    (s.setStream i { s.stream i with row := row, active := row.primary, switchPending := false }).wantReeval := by
  unfold applyRow
  dsimp only
  rw [if_pos h]

theorem applyRow_of_unmoved (h : (s.stream i).row.liftsDiffer row = false) : s.applyRow i row =
    (s.setStream i { s.stream i with row := row }).wantReeval := by
  unfold applyRow
  dsimp only
  rw [if_neg (Bool.eq_false_iff.mp h)]

end State

section
variable {s : State} {h : StoreHdr} {answer : Bool} {stream : Byte} {w : RowBytes} (ht : Takes s h answer)
include ht

theorem exec_routeTableWrite_of_refused {r : Reason}
    (hw : (s.storeHunt.executing h.tag answer (.routeRow stream w)).writeRow stream w
      = (s.storeHunt.executing h.tag answer (.routeRow stream w), some r)) :
    exec (.routeTableWrite h stream w) s
      = .next ((s.storeHunt.executing h.tag answer (.routeRow stream w)).executed h.tag answer 1 (some r) [2, stream]) :=
  requested_of_calm (q := .routeRow stream w) ht (congrArg (fun p : State × Option Reason => (p.1, p.2, [2, stream])) hw) rfl fun _ _ => rfl

theorem exec_routeTableWrite_of_taken {t : State}
    (hw : (s.storeHunt.executing h.tag answer (.routeRow stream w)).writeRow stream w = (t, none)) :
    exec (.routeTableWrite h stream w) s = .next (t.finish.executed h.tag answer 1 none [2, stream]) :=
  requested_of_exec (q := .routeRow stream w) ht (congrArg (fun p : State × Option Reason => (p.1, p.2, [2, stream])) hw) fun _ _ => rfl

end

/-- Settles O47: the ranges of a row, the lifts it may not name, and what a row that is taken changes (R79 to R81). -/
theorem routeTableWrites : Obligations.RouteTableWrites := by
  unfold Obligations.RouteTableWrites
  intro s h answer stream w ht x a refused mark lifts others
  refine ⟨fun hs => ?noStream, fun i hi => ?stream⟩
  case noStream =>
    refine exec_routeTableWrite_of_refused ht (State.writeRow_of_no_stream ?_)
    rw [Option.eq_none_iff_forall_ne_some]
    intro i hi
    have := (streamOf_eq_some_iff stream i).mp hi
    omega
  case stream =>
    have hstream := (streamOf_eq_some_iff stream i).mpr hi
    refine ⟨fun hm => exec_routeTableWrite_of_refused ht (State.writeRow_of_misfit (rowOf_of_misfit hm) hstream), fun hl ho => ?_⟩
    intro row
    have hwrite := State.writeRow_of_row (s := x) hstream (rowOf_of_fit hl ho)
    refine ⟨fun hr => exec_routeTableWrite_of_refused ht (hwrite.trans (if_pos hr)), fun hr => ?_⟩
    intro old moved custody
    have hmoved : (x.stream i).row.liftsDiffer (rowGiven w i) = true ↔ moved := Row.liftsDiffer_iff _ _
    have hcustody : (x.custody i .a || x.custody i .b) = true ↔ custody := Bool.or_eq_true_iff
    have hfree (hno : ¬ (moved ∧ custody)) : x.writeRow stream w = (x.applyRow i (rowGiven w i), none) :=
      hwrite.trans ((if_neg hr).trans (if_neg fun hb => by
        rw [Bool.and_eq_true, hmoved, hcustody] at hb
        exact hno hb))
    refine ⟨fun hm hc => ?busy, fun hm hc => ?moves, fun hm => ?stays⟩
    case busy =>
      exact exec_routeTableWrite_of_refused ht (hwrite.trans ((if_neg hr).trans (if_pos (Bool.and_eq_true_iff.mpr ⟨hmoved.mpr hm, hcustody.mpr hc⟩))))
    case moves =>
      refine exec_routeTableWrite_of_taken ht ((hfree fun hb => hc hb.2).trans ?_)
      rw [State.applyRow_of_moved (hmoved.mpr hm)]
      rfl
    case stays =>
      refine exec_routeTableWrite_of_taken ht ((hfree fun hb => hm hb.1).trans ?_)
      rw [State.applyRow_of_unmoved (Bool.eq_false_iff.mpr (mt hmoved.mp hm))]
      rfl

end Sys2Proof.Machine

/-! ## The other table writes (O48) -/

namespace Sys2Proof.Machine

/-! ### Values in their ranges -/

theorem timingInRange_iff (t : Timing) : timingInRange t = true ↔
    (t.tick = 1 ∨ t.tick = 2 ∨ t.tick = 5 ∨ t.tick = 10)
    ∧ (∀ w ∈ [t.shuttleBase, t.shuttlePer, t.liftBase, t.liftPer, t.holdShuttle, t.holdLift, t.confirmLimit, t.visitBase, t.visitPer],
      1 ≤ w.toNat ∧ w.toNat ≤ 65535)
    ∧ 1 ≤ t.missThreshold.toNat ∧ t.missThreshold.toNat ≤ 15 ∧ 2 ≤ t.probeInterval.toNat ∧ t.probeInterval.toNat ≤ 64 := by
  have htick : [1, 2, 5, 10].contains t.tick.toNat = true ↔ t.tick = 1 ∨ t.tick = 2 ∨ t.tick = 5 ∨ t.tick = 10 := by
    simp only [List.contains_iff_mem, List.mem_cons, List.not_mem_nil, or_false, ← BitVec.toNat_inj]
    rfl
  have hword (w : BitVec 16) : decide (w ≠ 0) = true ↔ 1 ≤ w.toNat ∧ w.toNat ≤ 65535 := by
    have hlt := w.isLt
    rw [decide_eq_true_eq, ne_eq, ← BitVec.toNat_inj, show (0 : BitVec 16).toNat = 0 from rfl]
    omega
  unfold timingInRange
  rw [Bool.and_eq_true, Bool.and_eq_true, Bool.and_eq_true, Bool.and_eq_true, Bool.and_eq_true, htick, List.all_eq_true]
  simp only [hword, decide_eq_true_eq, and_assoc]

theorem FaultClass.byte_injective : Function.Injective FaultClass.byte := fun a b h =>
  Option.some.inj ((classOf_byte a).symm.trans ((congrArg classOf h).trans (classOf_byte b)))

theorem FaultClass.idx_injective : Function.Injective FaultClass.idx := fun a b h =>
  FaultClass.byte_injective (by rw [FaultClass.byte, h, FaultClass.byte])

theorem exists_class_of_range {c : Byte} (h1 : 1 ≤ c.toNat) (h12 : c.toNat ≤ 12) : ∃ k : FaultClass, c = k.byte := by
  have hidx : ∀ i : Fin 12, (FaultClass.all[i.val]'i.isLt).idx = i := by decide
  refine ⟨FaultClass.all[c.toNat - 1]'(show c.toNat - 1 < 12 by omega), BitVec.eq_of_toNat_eq ?_⟩
  rw [FaultClass.toNat_byte, hidx ⟨c.toNat - 1, by omega⟩]
  show c.toNat = c.toNat - 1 + 1
  omega

theorem classOf_isSome_eq_false_iff (b : Byte) : (classOf b).isSome = false ↔ b = 0 ∨ 12 < b.toNat := by
  refine ⟨fun h => ?_, fun h => by rw [classOf_eq_none h]; rfl⟩
  by_contra hno
  rw [not_or] at hno
  have hne : b.toNat ≠ 0 := fun h0 => hno.1 (BitVec.eq_of_toNat_eq h0)
  obtain ⟨k, rfl⟩ := exists_class_of_range (c := b) (by omega) (by omega)
  rw [classOf_byte] at h
  exact Bool.false_ne_true h.symm

theorem FaultClass.fixed_iff (k : FaultClass) : k.fixed = true ↔ k.byte = 9 ∨ k.byte = 12 := by cases k <;> decide

theorem dispositionOf_byte (e : Disposition) : dispositionOf e.byte = some e := by cases e <;> rfl

theorem dispositionOf_of_beyond {d : Byte} (h : 2 < d.toNat) : dispositionOf d = none := by
  have hne (n : Byte) (hn : n.toNat ≤ 2) : d ≠ n := fun he => by
    rw [he] at h
    omega
  rw [dispositionOf, if_neg (hne 0 (by decide)), if_neg (hne 1 (by decide)), if_neg (hne 2 (by decide))]

theorem filterMap_classOf (cs : List FaultClass) : (cs.map FaultClass.byte).filterMap classOf = cs := by
  rw [List.filterMap_map, show classOf ∘ FaultClass.byte = some from funext classOf_byte, List.filterMap_some]

/-! ### The writes (R174, R179, R185, R186, R190) -/

namespace State
variable {s : State}

theorem writeTiming_of_mode {t : Timing} (ht : t.tick ≠ s.timing.tick) (hm : s.mode ≠ .config) : s.writeTiming t = (s, some .config) :=
  if_pos ⟨ht, hm⟩

theorem writeTiming_of_allowed {t : Timing} (h : t.tick = s.timing.tick ∨ s.mode = .config) :
    s.writeTiming t = if timingInRange t then ({ s with timing := t }, none) else (s, some .badCount) :=
  if_neg fun ⟨ht, hm⟩ => h.elim ht hm

theorem writeDisposition_of_no_class {c : Byte} (d : Byte) (h : c = 0 ∨ 12 < c.toNat) : s.writeDisposition c d = (s, some .badCount) := by
  unfold writeDisposition
  rw [classOf_eq_none h]

theorem writeDisposition_of_fixed {k : FaultClass} (d : Byte) (h : k.fixed = true) : s.writeDisposition k.byte d = (s, some .readOnly) := by
  unfold writeDisposition
  rw [classOf_byte]
  exact if_pos h

section
variable {k : FaultClass} (h : ¬ k.fixed = true)
include h

theorem writeDisposition_of_beyond {d : Byte} (hd : 2 < d.toNat) : s.writeDisposition k.byte d = (s, some .badCount) := by
  unfold writeDisposition
  rw [classOf_byte, dispositionOf_of_beyond hd]
  exact if_neg h

theorem writeDisposition_of_byte (e : Disposition) : s.writeDisposition k.byte e.byte
    = ({ s with faults := { s.faults with dispositions := s.faults.dispositions.set k.idx e } }, none) := by
  unfold writeDisposition
  rw [classOf_byte, dispositionOf_byte]
  exact if_neg h

end

theorem writePriority_of_bad {l : List Byte} (h : 12 < l.length ∨ (∃ b ∈ l, b = 0 ∨ 12 < b.toNat) ∨ ¬ l.Nodup) :
    s.writePriority l = (s, some .badCount) := by
  refine if_pos ?_
  rw [Bool.or_eq_true, Bool.or_eq_true, or_assoc]
  refine h.imp decide_eq_true (Or.imp ?_ ?_)
  · rintro ⟨b, hb, hbad⟩
    rw [Bool.not_eq_true', List.all_eq_false]
    exact ⟨b, hb, by rw [(classOf_isSome_eq_false_iff b).mpr hbad]; exact Bool.false_ne_true⟩
  · intro hn
    rw [Bool.not_eq_true', Bool.eq_false_iff]
    exact mt (allDiffer_iff l).mp hn

theorem writePriority_of_classes {cs : List FaultClass} (h : cs.Nodup) :
    s.writePriority (cs.map FaultClass.byte) = ({ s with faults := { s.faults with priority := cs } }, none) := by
  have hlen : cs.length ≤ 12 := by
    have := (h.map FaultClass.idx_injective).length_le_card
    rwa [List.length_map, Fintype.card_fin] at this
  have hall : (cs.map FaultClass.byte).all (fun b => (classOf b).isSome) = true :=
    List.all_eq_true.mpr fun b hb => by
      obtain ⟨k, -, rfl⟩ := List.mem_map.mp hb
      rw [classOf_byte]
      rfl
  have hnodup : allDiffer (cs.map FaultClass.byte) = true := (allDiffer_iff _).mpr (h.map FaultClass.byte_injective)
  unfold writePriority
  rw [hall, hnodup, filterMap_classOf, List.length_map]
  exact if_neg (by simpa using hlen)

theorem writeAddress_of_mode {g v m : Byte} (h : s.mode ≠ .config) : s.writeAddress g v m = (s, some .config) := if_pos h

theorem writeAddress_of_beyond {g v m : Byte} (h : s.mode = .config) (hg : 63 < g.toNat) : s.writeAddress g v m = (s, some .badCount) :=
  (if_neg (not_not.mpr h)).trans (if_pos hg)

theorem writeAddress_of_group {g v m : Byte} (h : s.mode = .config) (hg : g.toNat ≤ 63) : s.writeAddress g v m
    = ({ s with store := { s.store with group := g, maskValue := v, mask := m } }, none) :=
  (if_neg (not_not.mpr h)).trans (if_neg (not_lt.mpr hg))

theorem writeEnables_of_bad {e : Byte} (h : badFlags e = true) : s.writeEnables e = (s, some .badCount) := if_pos h

theorem writeEnables_of_good {e : Byte} (h : badFlags e = false) : s.writeEnables e =
    let u : State := { s with notices := NoticeUnit.make s.notices.pending (flagsOf e) }
    (if (((flagsOf e).minus s.notices.enabled).both s.notices.pending).any then u.makeNotice else u, none) := by
  refine (if_neg (Bool.eq_false_iff.mp h)).trans ?_
  dsimp only
  split <;> rfl

theorem writeResumeDefault_of_byte (r : ResumeMode) :
    s.writeResumeDefault r.byte = ({ s with modeCtl := { s.modeCtl with resumeDefault := r } }, none) := by
  cases r <;> rfl

theorem writeResumeDefault_of_other {b : Byte} (h1 : b ≠ 1) (h2 : b ≠ 2) : s.writeResumeDefault b = (s, some .badCount) :=
  (if_neg h1).trans (if_neg h2)

end State

section
variable {s : State} {h : StoreHdr} {answer : Bool} {q : Req} (ht : Takes s h answer)
include ht

/-- A write that is refused (R185). -/
theorem write_refused {p : State → State × Option Reason} {d : List Byte} {r : Reason} (hq : ∀ u : State, u.execReq q = answered (p u) d)
    (hp : p (s.storeHunt.executing h.tag answer q) = (s.storeHunt.executing h.tag answer q, some r))
    (hdata : ∀ (u : State) d, u.answerData q d = d) :
    done (s.onRequest h true q) = .next ((s.storeHunt.executing h.tag answer q).executed h.tag answer q.code (some r) []) :=
  requested_of_calm ht ((hq _).trans (congrArg (answered · d) hp)) rfl hdata

/-- A write that is taken, and leaves nothing to pass on (R185). -/
theorem write_taken {p : State → State × Option Reason} {d : List Byte} {t : State} (hq : ∀ u : State, u.execReq q = answered (p u) d)
    (hp : p (s.storeHunt.executing h.tag answer q) = (t, none)) (hwork : t.work = (s.storeHunt.executing h.tag answer q).work)
    (hdata : ∀ (u : State) d, u.answerData q d = d) :
    done (s.onRequest h true q) = .next (t.executed h.tag answer q.code none d) :=
  requested_of_calm ht ((hq _).trans (congrArg (answered · d) hp)) hwork hdata

omit ht in
theorem exec_priorityListWrite_of_length {l : List Byte} (hl : l.length ≤ 45) :
    exec (.priorityListWrite h l) s = done (s.onRequest h true (.priority l)) := by
  show done (s.onRequest h (bodyFits (3 + l.length)) (.priority l)) = _
  rw [show bodyFits (3 + l.length) = true from decide_eq_true (by omega)]

end

/-- Settles O48: the ranges of the tables, and what the writes of tables 3 to 8 change or are refused for
(R24, R171, R174, R179, R185, R186, R190). -/
theorem tableWrites : Obligations.TableWrites := by
  unfold Obligations.TableWrites
  refine ⟨timingInRange_iff, fun _ => rfl, fun _ f => by cases f <;> rfl, rfl, rfl, FaultClass.toNat_byte, rfl, rfl, ?writes⟩
  intro s h answer ht x refused
  refine ⟨?timing, ?disposition, ?priority, ?address, ?enables, ?resume⟩
  case timing =>
    exact fun t => ⟨fun hne hm => write_refused (q := .timing t) ht (fun _ => rfl) (State.writeTiming_of_mode hne hm) fun _ _ => rfl,
      fun hok => ⟨fun hr => write_refused (q := .timing t) ht (fun _ => rfl)
          ((State.writeTiming_of_allowed (s := x (.timing t)) hok).trans (if_neg (Bool.eq_false_iff.mp hr))) fun _ _ => rfl,
        fun hr => write_taken (q := .timing t) ht (fun _ => rfl) ((State.writeTiming_of_allowed (s := x (.timing t)) hok).trans (if_pos hr)) rfl fun _ _ => rfl⟩⟩
  case disposition =>
    intro c d
    refine ⟨fun hc => ?noClass, fun hc => ?fixed, fun h1 h12 h9 hne hd => ?beyond, fun k e hc h9 hne hd => ?taken⟩
    case noClass =>
      exact write_refused (q := .disposition c d) ht (fun _ => rfl) (State.writeDisposition_of_no_class d hc) fun _ _ => rfl
    case fixed =>
      obtain ⟨k, rfl⟩ := exists_class_of_range (c := c) (by rcases hc with rfl | rfl <;> decide) (by rcases hc with rfl | rfl <;> decide)
      exact write_refused (q := .disposition k.byte d) ht (fun _ => rfl)
        (State.writeDisposition_of_fixed d (k.fixed_iff.mpr hc)) fun _ _ => rfl
    case beyond =>
      obtain ⟨k, rfl⟩ := exists_class_of_range h1 h12
      have hk : ¬ k.fixed = true := fun hf => (k.fixed_iff.mp hf).elim h9 hne
      exact write_refused (q := .disposition k.byte d) ht (fun _ => rfl) (State.writeDisposition_of_beyond hk hd) fun _ _ => rfl
    case taken =>
      subst hc hd
      have hk : ¬ k.fixed = true := fun hf => (k.fixed_iff.mp hf).elim h9 hne
      exact write_taken (q := .disposition k.byte e.byte) ht (fun _ => rfl) (State.writeDisposition_of_byte hk e) rfl fun _ _ => rfl
  case priority =>
    refine fun l hl => ⟨fun hbad => ?_, fun cs hcs hmap => ?_⟩
    · exact (exec_priorityListWrite_of_length hl).trans
        (write_refused ht (fun _ => rfl) (State.writePriority_of_bad hbad) fun _ _ => rfl)
    · subst hmap
      exact (exec_priorityListWrite_of_length hl).trans
        (write_taken ht (fun _ => rfl) (State.writePriority_of_classes hcs) rfl fun _ _ => rfl)
  case address =>
    exact fun g v m => ⟨fun hm => write_refused (q := .address g v m) ht (fun _ => rfl) (State.writeAddress_of_mode hm) fun _ _ => rfl,
      fun hm hg => write_refused (q := .address g v m) ht (fun _ => rfl) (State.writeAddress_of_beyond hm hg) fun _ _ => rfl,
      fun hm hg => write_taken (q := .address g v m) ht (fun _ => rfl) (State.writeAddress_of_group hm hg) rfl fun _ _ => rfl⟩
  case enables =>
    refine fun e => ⟨fun he => ?_, fun he => ?_⟩
    · exact write_refused (q := .enables e) ht (fun _ => rfl) (State.writeEnables_of_bad ((badFlags_iff e).mpr he)) fun _ _ => rfl
    · intro u turned
      have hgood : badFlags e = false := Bool.eq_false_iff.mpr fun hb => absurd ((badFlags_iff e).mp hb) (by omega)
      refine write_taken (q := .enables e) ht (fun _ => rfl) (State.writeEnables_of_good hgood) ?_ fun _ _ => rfl
      split
      · exact State.work_makeNotice u
      · rfl
  case resume =>
    refine fun b => ⟨fun h1 h2 => ?_, fun r hr => ?_⟩
    · exact write_refused (q := .resumeDefault b) ht (fun _ => rfl) (State.writeResumeDefault_of_other h1 h2) fun _ _ => rfl
    · subst hr
      exact write_taken (q := .resumeDefault r.byte) ht (fun _ => rfl) (State.writeResumeDefault_of_byte r) rfl fun _ _ => rfl

end Sys2Proof.Machine

/-! ## Table reads (O49) -/

namespace Sys2Proof.Machine

namespace State

/-- The byte of a level in the slot map: a bit for each slot that is mapped (Table 10-3). -/
theorem mapByte_spec (s : State) (n : Level) (c : SlotCode) :
    (s.mapByte n).toNat < 64 ∧ (s.mapByte n).getLsbD (c.byte.toNat - 1) = (s.slot n c).mapped := by
  have hsum : ∀ (a b c d e f : Bool) (i : Fin 6),
      let v := byte ((if a then 1 else 0) + (if b then 2 else 0) + (if c then 4 else 0) + (if d then 8 else 0)
        + (if e then 16 else 0) + (if f then 32 else 0))
      v.toNat < 64 ∧ v.getLsbD i.val = [a, b, c, d, e, f].getD i.val false := by
    decide
  have hbyte : s.mapByte n = byte ((if (s.slot n .in1).mapped then 1 else 0) + (if (s.slot n .in2).mapped then 2 else 0)
      + (if (s.slot n .a1).mapped then 4 else 0) + (if (s.slot n .a2).mapped then 8 else 0)
      + (if (s.slot n .b1).mapped then 16 else 0) + (if (s.slot n .b2).mapped then 32 else 0)) := by
    unfold mapByte SlotCode.all
    simp only [List.zipIdx_cons, List.zipIdx_nil, List.map_cons, List.map_nil, List.sum_cons, List.sum_nil, Nat.add_zero, add_assoc]
    rfl
  have hlt : c.byte.toNat - 1 < 6 := by cases c <;> decide
  rw [hbyte]
  refine ⟨(hsum _ _ _ _ _ _ 0).1, ((hsum _ _ _ _ _ _ ⟨c.byte.toNat - 1, hlt⟩).2).trans ?_⟩
  cases c <;> rfl

theorem getD_mapBytes (s : State) (n : Level) : (allLevels.map s.mapByte).getD n.val 0 = s.mapByte n := by
  have hlt : n.val < allLevels.length := by simp [allLevels]
  rw [List.getD_eq_getElem?_getD, List.getElem?_map, List.getElem?_eq_getElem hlt]
  have hget : allLevels[n.val] = n := List.getElem_finRange _
  rw [hget]
  rfl

theorem dispositionByte_eq (s : State) (c : FaultClass) :
    s.dispositionByte c = (s.disposition c).byte + if c = .ungrantedAct ∨ c = .stopInput then 128 else 0 := by
  have hfixed : c.fixed = true ↔ c = .ungrantedAct ∨ c = .stopInput := by simp [FaultClass.fixed]
  unfold dispositionByte
  rw [if_congr hfixed rfl rfl]
  split
  · cases s.disposition c <;> rfl
  · cases s.disposition c <;> rfl

section
variable {s : State} {stream : Byte}

theorem readTable_rows_of_no_stream (h : streamOf stream = none) : s.readTable 2 stream = (some .noRoute, []) := by
  show (match streamOf stream with
    | none => (some Reason.noRoute, [])
    | some i => (none, [2, stream] ++ (s.stream i).row.bytes)) = _
  rw [h]

theorem readTable_rows_of_stream {i : StreamNo} (h : streamOf stream = some i) :
    s.readTable 2 stream = (none, [2, stream] ++ (s.stream i).row.bytes) := by
  show (match streamOf stream with
    | none => (some Reason.noRoute, [])
    | some i => (none, [2, stream] ++ (s.stream i).row.bytes)) = _
  rw [h]

theorem readTable_of_beyond {t : Byte} (h : t = 0 ∨ 8 < t.toNat) : s.readTable t stream = (some .badCount, []) := by
  unfold readTable
  rcases h with rfl | h
  · rfl
  · obtain ⟨k, hk⟩ := Nat.exists_eq_add_of_le' h
    rw [hk]
    rfl

end

end State

theorem exec_tableRead {s : State} {h : StoreHdr} {answer : Bool} {t stream : Byte} {r : Option Reason} {d : List Byte}
    (ht : Takes s h answer) (hread : (s.storeHunt.executing h.tag answer (.tableRead t stream)).readTable t stream = (r, d)) :
    exec (.tableRead h t stream) s
      = .next ((s.storeHunt.executing h.tag answer (.tableRead t stream)).executed h.tag answer 0x02 r d) :=
  requested_of_unchanged (q := .tableRead t stream) ht (congrArg (Prod.mk _) hread) (fun _ _ => rfl)

/-- Settles O49: each table as it is read (R185). -/
theorem tableReads : Obligations.TableReads := by
  unfold Obligations.TableReads
  intro s h answer t stream ht x read given refused mark w
  refine ⟨?map, ?noRoute, ?row, ?timing, ?dispositions, ?priority, ?address, ?enables, ?resume, fun hb => ?beyond⟩
  case map =>
    rintro rfl
    exact ⟨allLevels.map s.mapByte, exec_tableRead ht rfl, by simp [allLevels],
      fun n c => by rw [s.getD_mapBytes]; exact s.mapByte_spec n c⟩
  case noRoute =>
    rintro rfl hs
    refine exec_tableRead ht (State.readTable_rows_of_no_stream ?_)
    rw [Option.eq_none_iff_forall_ne_some]
    intro i hi
    have := (streamOf_eq_some_iff stream i).mp hi
    omega
  case row =>
    rintro i rfl hi r
    refine (exec_tableRead ht (State.readTable_rows_of_stream ((streamOf_eq_some_iff stream i).mpr hi))).trans ?_
    show Host.Outcome.next (State.executed _ _ _ _ _ ([2, stream] ++ r.bytes)) = _
    unfold Row.bytes
    cases r.alternate <;> rfl
  case timing =>
    rintro rfl
    exact exec_tableRead ht rfl
  case dispositions =>
    rintro rfl
    refine exec_tableRead ht (congrArg (fun l => (none, (4 : Byte) :: l)) (List.map_congr_left fun c _ => ?_))
    refine (State.dispositionByte_eq _ c).trans ?_
    show (s.disposition c).byte + _ = _
    cases s.disposition c <;> rfl
  case priority =>
    rintro rfl
    exact exec_tableRead ht rfl
  case address =>
    rintro rfl
    exact exec_tableRead ht rfl
  case enables =>
    rintro rfl
    exact exec_tableRead ht rfl
  case resume =>
    rintro rfl
    refine exec_tableRead ht ?_
    show (none, [8, s.modeCtl.resumeDefault.byte]) = _
    cases s.modeCtl.resumeDefault <;> rfl
  case beyond => exact exec_tableRead ht (State.readTable_of_beyond hb)

end Sys2Proof.Machine

/-! ## MODE-SET (O50) -/

namespace Sys2Proof.Machine

namespace State
variable {s : State}

/-! ### The run conditions (R159) -/

theorem someMapped_iff : s.someMapped = true ↔ ∃ n, s.levelMapped n = true := by
  simp [someMapped, allLevels]

theorem haltPending_iff : s.haltPending = true ↔ ∃ c, (∃ f, s.faultRec c = some f) ∧ s.disposition c = .halt := by
  unfold haltPending
  simp only [List.any_eq_true, Bool.and_eq_true, decide_eq_true_eq, Option.isSome_iff_exists]
  exact ⟨fun ⟨c, _, hc⟩ => ⟨c, hc⟩, fun ⟨c, hc⟩ => ⟨c, by cases c <;> decide, hc⟩⟩

/-- The stop input is asserted, or a class of disposition HALT is pending (R159). -/
def RunBlocked (s : State) : Prop := s.modeCtl.stop = true ∨ ∃ c, (∃ f, s.faultRec c = some f) ∧ s.disposition c = .halt

theorem runRefusal_of_unmapped (h : ∀ n, s.levelMapped n = false) : s.runRefusal true = some .unmapped := by
  have hno : s.someMapped = false := Bool.eq_false_iff.mpr fun hm => by
    obtain ⟨n, hn⟩ := someMapped_iff.mp hm
    exact Bool.false_ne_true ((h n).symm.trans hn)
  simp [runRefusal, hno]

section
variable {fromConfig : Bool} (hm : fromConfig = true → ∃ n, s.levelMapped n = true)
include hm

theorem runRefusal_of_mapped : s.runRefusal fromConfig = firstFailure [(s.modeCtl.stop, .halted), (s.haltPending, .halted)] := by
  have hpass : (fromConfig && !s.someMapped) = false := by
    cases fromConfig with
    | false => rfl
    | true => rw [someMapped_iff.mpr (hm rfl)]; rfl
  unfold runRefusal
  rw [hpass, firstFailure_pass]

theorem runRefusal_of_blocked (h : s.RunBlocked) : s.runRefusal fromConfig = some .halted := by
  rw [runRefusal_of_mapped hm]
  rcases h with h | h
  · rw [h, firstFailure_fail]
  · rw [haltPending_iff.mpr h]
    cases s.modeCtl.stop <;> rfl

theorem runRefusal_of_unblocked (h : ¬ s.RunBlocked) : s.runRefusal fromConfig = none := by
  obtain ⟨hstop, hpending⟩ := not_or.mp h
  rw [runRefusal_of_mapped hm, Bool.eq_false_iff.mpr hstop, Bool.eq_false_iff.mpr (mt haltPending_iff.mp hpending)]
  rfl

end

theorem whenRunnable_of_some {b : Bool} {r : Reason} (h : s.runRefusal b = some r) (t : State) : s.whenRunnable b t = (s, some r) := by
  unfold whenRunnable
  rw [h]

theorem whenRunnable_of_none {b : Bool} (h : s.runRefusal b = none) (t : State) : s.whenRunnable b t = (t, none) := by
  unfold whenRunnable
  rw [h]

/-! ### By present mode (R158) -/

section
variable {r : Option ResumeMode}

theorem changeMode_of_config (h : s.mode = .config) : s.changeMode .config r = (s, none)
    ∧ s.changeMode .run r = s.whenRunnable true s.intoRun ∧ s.changeMode .drain r = (s, some .config)
    ∧ s.changeMode .halt r = (s, some .config) := by
  unfold changeMode
  rw [h]
  exact ⟨rfl, rfl, rfl, rfl⟩

theorem changeMode_of_run (h : s.mode = .run) : s.changeMode .config r
      = (if s.entries.isEmpty ∧ s.openVisits = 0 then (s.setMode .config, none) else (s, some .busy))
    ∧ s.changeMode .run r = (s, none) ∧ s.changeMode .drain r = (s.drain, none) ∧ s.changeMode .halt r = (s.enterHalt, none) := by
  unfold changeMode
  rw [h]
  exact ⟨rfl, rfl, rfl, rfl⟩

theorem changeMode_of_drain (h : s.mode = .drain) : s.changeMode .config r = (s, some .busy)
    ∧ s.changeMode .run r = s.whenRunnable false s.intoRun ∧ s.changeMode .drain r = (s, none)
    ∧ s.changeMode .halt r = (s.enterHalt, none) := by
  unfold changeMode
  rw [h]
  exact ⟨rfl, rfl, rfl, rfl⟩

theorem changeMode_of_halt (h : s.mode = .halt) : s.changeMode .config r = (s.cleanup, none)
    ∧ s.changeMode .run r = s.whenRunnable false (s.resume r) ∧ s.changeMode .drain r = (s, some .halted)
    ∧ s.changeMode .halt r = (s, none) := by
  unfold changeMode
  rw [h]
  exact ⟨rfl, rfl, rfl, rfl⟩

end

/-- No entry is held and no visit is open (R160). -/
theorem idle_iff : (s.entries.isEmpty ∧ s.openVisits = 0) ↔ (∀ k, s.entry k = none) ∧ ∀ y, (s.lift y).visit = none :=
  and_congr (isEmpty_entries_iff s) (openVisits_eq_zero_iff s)

theorem resume_of_reissue {r : Option ResumeMode} (h : r.getD s.modeCtl.resumeDefault = .reissue) : s.resume r = s.reissue := by
  unfold resume
  rw [h]

theorem resume_of_revoke {r : Option ResumeMode} (h : r.getD s.modeCtl.resumeDefault = .revoke) : s.resume r = s.resumeRevoke := by
  unfold resume
  rw [h]

end State

theorem resumeOf_of_beyond {b : Byte} (h : 2 < b.toNat) : resumeOf b = none := by
  have hne (n : Byte) (hn : n.toNat ≤ 2) : b ≠ n := fun he => by
    rw [he] at h
    omega
  rw [resumeOf, if_neg (hne 0 (by decide)), if_neg (hne 1 (by decide)), if_neg (hne 2 (by decide))]

section
variable {s : State} {h : StoreHdr} {answer : Bool} {target : Mode} {resume : Byte} (ht : Takes s h answer)
include ht

/-- A MODE-SET that is carried out; the ANSWER gives the mode after it (R158). -/
theorem modeSet_done {r : Option ResumeMode} (hr : resumeOf resume = some r) {u : State}
    (hc : (s.storeHunt.executing h.tag answer (.modeSet target.byte resume)).changeMode target r = (u, none)) :
    requested h (.modeSet target.byte resume) s = .next (u.finish.executed h.tag answer 0x10 none [u.finish.mode.byte]) := by
  have hset : (s.storeHunt.executing h.tag answer (.modeSet target.byte resume)).execReq (.modeSet target.byte resume) = (u, none, []) := by
    have hmode : modeOf target.byte = some target := by cases target <;> rfl
    simp only [State.execReq, State.modeSet, hmode, hr, hc]
  rw [requested, requested_of_takes s h answer _ ht, hset]
  rfl

theorem modeSet_refused {r : Option ResumeMode} (hr : resumeOf resume = some r) {why : Reason}
    (hc : (s.storeHunt.executing h.tag answer (.modeSet target.byte resume)).changeMode target r
      = (s.storeHunt.executing h.tag answer (.modeSet target.byte resume), some why)) :
    requested h (.modeSet target.byte resume) s
      = .next ((s.storeHunt.executing h.tag answer (.modeSet target.byte resume)).executed h.tag answer 0x10 (some why) [s.mode.byte]) := by
  have hset : (s.storeHunt.executing h.tag answer (.modeSet target.byte resume)).execReq (.modeSet target.byte resume)
      = (s.storeHunt.executing h.tag answer (.modeSet target.byte resume), some why, []) := by
    have hmode : modeOf target.byte = some target := by cases target <;> rfl
    simp only [State.execReq, State.modeSet, hmode, hr, hc]
  rw [requested, requested_of_takes s h answer _ ht, hset, finish_of_executing ht rfl]
  rfl

theorem modeSet_of_no_resume (hr : resumeOf resume = none) :
    requested h (.modeSet target.byte resume) s
      = .next ((s.storeHunt.executing h.tag answer (.modeSet target.byte resume)).executed h.tag answer 0x10 (some .badCount) [s.mode.byte]) := by
  have hset : (s.storeHunt.executing h.tag answer (.modeSet target.byte resume)).execReq (.modeSet target.byte resume)
      = (s.storeHunt.executing h.tag answer (.modeSet target.byte resume), some .badCount, []) := by
    have hmode : modeOf target.byte = some target := by cases target <;> rfl
    simp only [State.execReq, State.modeSet, hmode, hr]
  rw [requested, requested_of_takes s h answer _ ht, hset, finish_of_executing ht rfl]
  rfl

end

/-- Settles O50: what a MODE-SET does and is refused for, by the mode it finds (R158 to R162, R164, R166 to R168). -/
theorem modeSets : Obligations.ModeSets := by
  unfold Obligations.ModeSets
  refine ⟨?modes, ?badResume, rfl, rfl, rfl, fun _ => resumeOf_of_beyond⟩
  case badResume =>
    intro s h answer resume ht hb refused
    have hr := resumeOf_of_beyond hb
    exact ⟨modeSet_of_no_resume (target := .run) ht hr, modeSet_of_no_resume (target := .config) ht hr,
      modeSet_of_no_resume (target := .drain) ht hr, modeSet_of_no_resume (target := .halt) ht hr⟩
  case modes =>
    intro s h answer resume r ht hr x ok refused run config drain halt blocked idle
    have hdone (target : Mode) {u : State} (hc : (x target.byte).changeMode target r = (u, none)) :
        requested h (.modeSet target.byte resume) s = ok u := modeSet_done ht hr hc
    have hrefused (target : Mode) {why : Reason} (hc : (x target.byte).changeMode target r = (x target.byte, some why)) :
        requested h (.modeSet target.byte resume) s = refused target.byte why := modeSet_refused ht hr hc
    have hfree {P : Prop} : false = true → P := fun hf => absurd hf Bool.false_ne_true
    refine ⟨fun hm => ?config, fun hm => ?run, fun hm => ?drain, fun hm => ?halt, rfl, rfl, ?reissue, ?revoke⟩
    case config =>
      have hchange (m : Byte) := State.changeMode_of_config (s := x m) (r := r) hm
      refine ⟨hdone .config (hchange 0).1, hrefused .drain (hchange 2).2.2.1, hrefused .halt (hchange 3).2.2.2,
        fun hno => ?_, fun hmap hb => ?_, fun hmap hb => ?_⟩
      · exact hrefused .run ((hchange 1).2.1.trans (State.whenRunnable_of_some (State.runRefusal_of_unmapped (s := x 1) hno) _))
      · exact hrefused .run ((hchange 1).2.1.trans (State.whenRunnable_of_some (State.runRefusal_of_blocked (s := x 1) (fun _ => hmap) hb) _))
      · exact hdone .run ((hchange 1).2.1.trans (State.whenRunnable_of_none (State.runRefusal_of_unblocked (s := x 1) (fun _ => hmap) hb) _))
    case run =>
      have hchange (m : Byte) := State.changeMode_of_run (s := x m) (r := r) hm
      exact ⟨hdone .run (hchange 1).2.1, hdone .drain (hchange 2).2.2.1, hdone .halt (hchange 3).2.2.2,
        fun hi => hdone .config ((hchange 0).1.trans (if_pos ((State.idle_iff (s := x 0)).mpr hi))),
        fun hi => hrefused .config ((hchange 0).1.trans (if_neg (mt (State.idle_iff (s := x 0)).mp hi)))⟩
    case drain =>
      have hchange (m : Byte) := State.changeMode_of_drain (s := x m) (r := r) hm
      exact ⟨hrefused .config (hchange 0).1, hdone .drain (hchange 2).2.2.1, hdone .halt (hchange 3).2.2.2,
        fun hb => hrefused .run ((hchange 1).2.1.trans (State.whenRunnable_of_some (State.runRefusal_of_blocked (s := x 1) hfree hb) _)),
        fun hb => hdone .run ((hchange 1).2.1.trans (State.whenRunnable_of_none (State.runRefusal_of_unblocked (s := x 1) hfree hb) _))⟩
    case halt =>
      have hchange (m : Byte) := State.changeMode_of_halt (s := x m) (r := r) hm
      refine ⟨hdone .config (hchange 0).1, hrefused .drain (hchange 2).2.2.1, hdone .halt (hchange 3).2.2.2,
        fun hb => hrefused .run ((hchange 1).2.1.trans (State.whenRunnable_of_some (State.runRefusal_of_blocked (s := x 1) hfree hb) _)),
        fun hb => ?_⟩
      have hresumes := (hchange 1).2.1.trans (State.whenRunnable_of_none (State.runRefusal_of_unblocked (s := x 1) hfree hb) _)
      have hresume : run = ok ((x 1).resume r) := hdone .run hresumes
      rw [hresume]
      cases hd : r.getD s.modeCtl.resumeDefault with
      | reissue => rw [State.resume_of_reissue (s := x 1) hd]
      | revoke => rw [State.resume_of_revoke (s := x 1) hd]
    case reissue =>
      intro hres
      subst hres
      rfl
    case revoke =>
      intro hres
      subst hres
      rfl

end Sys2Proof.Machine

/-! ## STREAM-APPEND (O53) -/

namespace Sys2Proof.Machine

theorem sequencedOf_eq_some {stream : Byte} {i : StreamNo} (hi : i ≠ 0) (hs : stream.toNat = i.val) : sequencedOf stream = some i := by
  rw [sequencedOf, (streamOf_eq_some_iff stream i).mpr hs]
  exact (Option.filter_eq_some_iff.mpr ⟨rfl, decide_eq_true hi⟩)

theorem sequencedOf_eq_none {stream : Byte} (h : stream = 0 ∨ 16 < stream.toNat) : sequencedOf stream = none := by
  rw [Option.eq_none_iff_forall_ne_some]
  intro i hi
  obtain ⟨hs, hne⟩ := Option.filter_eq_some_iff.mp hi
  have hval := (streamOf_eq_some_iff stream i).mp hs
  rcases h with rfl | h
  · exact of_decide_eq_true hne (Fin.ext hval.symm)
  · omega

theorem idsFailure_of_zero {least : Nat} {ids : List ToteId} (hleast : least ≤ 1) (hlen : ids.length ≤ 11) (h : 0 ∈ ids) :
    idsFailure least ids = some .badTote := by
  have hpos := List.length_pos_of_mem h
  unfold idsFailure
  rw [show (decide (ids.length < least) || decide (11 < ids.length)) = false by simp; omega, firstFailure_pass,
    List.contains_iff_mem.mpr h, firstFailure_fail]

theorem idsFailure_of_good {least : Nat} {ids : List ToteId} (hleast : least ≤ ids.length) (hlen : ids.length ≤ 11) (h : 0 ∉ ids) :
    idsFailure least ids = none := by
  unfold idsFailure
  rw [show (decide (ids.length < least) || decide (11 < ids.length)) = false by simp; omega, firstFailure_pass,
    Bool.eq_false_iff.mpr (mt List.contains_iff_mem.mp h)]
  rfl

/-! ### One ID after the other (R83) -/

/-- The IDs of a request that enter a list: those that no list holds, once each (R83). -/
def newIds (unlisted : ToteId → Bool) (looked : List ToteId) : List ToteId := (looked.filter unlisted).eraseDups

theorem mem_newIds_iff {unlisted : ToteId → Bool} {looked : List ToteId} {id : ToteId} :
    id ∈ newIds unlisted looked ↔ id ∈ looked ∧ unlisted id = true := by
  rw [newIds, List.mem_eraseDups, List.mem_filter]

theorem newIds_append_of_skipped {unlisted : ToteId → Bool} {looked : List ToteId} {id : ToteId}
    (h : unlisted id = true → id ∈ newIds unlisted looked) : newIds unlisted (looked ++ [id]) = newIds unlisted looked := by
  unfold newIds
  rw [List.filter_append]
  cases hu : unlisted id with
  | false => rw [List.filter_cons_of_neg (by rw [hu]; exact Bool.false_ne_true), List.filter_nil, List.append_nil]
  | true =>
    have hmem : id ∈ looked.filter unlisted := List.mem_eraseDups.mp (h hu)
    rw [List.filter_cons_of_pos hu, List.filter_nil, List.eraseDups_append]
    have hnone : List.removeAll [id] (looked.filter unlisted) = [] := by
      simpa [List.removeAll] using List.mem_filter.mp hmem
    rw [hnone]
    exact List.append_nil _

theorem newIds_append_of_new {unlisted : ToteId → Bool} {looked : List ToteId} {id : ToteId} (hu : unlisted id = true)
    (h : id ∉ newIds unlisted looked) : newIds unlisted (looked ++ [id]) = newIds unlisted looked ++ [id] := by
  have hmem : id ∉ looked.filter unlisted := fun hm => h (List.mem_eraseDups.mpr hm)
  unfold newIds
  rw [List.filter_append, List.filter_cons_of_pos hu, List.filter_nil, List.eraseDups_append]
  have hself : List.removeAll [id] (looked.filter unlisted) = [id] :=
    List.filter_eq_self.mpr fun b hb => by
      rw [List.mem_singleton.mp hb]
      simpa [← imp_iff_not_or] using hmem
  rw [hself]
  rfl

namespace Appending
variable {elsewhere : ToteId → Bool} {used : Nat} {a : Appending} {id : ToteId}

theorem next_of_stopped (h : a.stop ≠ none) : a.next elsewhere used id = a := if_pos (Option.isSome_iff_ne_none.mpr h)

section
variable (hs : a.stop = none)
include hs

theorem next_of_skipped (h : (elsewhere id || (relIndex a.list id).isSome) = true) :
    a.next elsewhere used id = { a with skipped := a.skipped + 1 } :=
  (if_neg (by rw [hs]; exact Bool.false_ne_true)).trans (if_pos h)

variable (h : (elsewhere id || (relIndex a.list id).isSome) = false)
include h

theorem next_of_new : a.next elsewhere used id = if 128 ≤ a.list.length then { a with stop := some .listFull }
    else if 1024 ≤ used + a.appended then { a with stop := some .poolFull }
    else { a with list := a.list ++ [⟨id, false, false⟩], appended := a.appended + 1 } :=
  (if_neg (by rw [hs]; exact Bool.false_ne_true)).trans (if_neg (by rw [h]; exact Bool.false_ne_true))

end

theorem result_of_some {r : Reason} (h : a.stop = some r) : a.result = some r := by
  unfold result
  rw [h]

theorem result_of_none (h : a.stop = none) : a.result = if a.skipped = 0 then none else some .duplicate := by
  unfold result
  rw [h]

/-- The list with the new IDs behind it (R83). -/
def grown (old : List RelEntry) (new : List ToteId) : List RelEntry := old ++ new.map (fun id => ⟨id, false, false⟩)

theorem length_grown (old : List RelEntry) (new : List ToteId) : (grown old new).length = old.length + new.length := by
  rw [grown, List.length_append, List.length_map]

/-- How far an append has come, told by the IDs it has looked at (R83). -/
structure Follows (unlisted : ToteId → Bool) (old : List RelEntry) (used : Nat) (looked rest : List ToteId) (a : Appending) : Prop where
  list : a.list = grown old (newIds unlisted looked)
  appended : a.appended = (newIds unlisted looked).length
  skipped : a.skipped + (newIds unlisted looked).length = looked.length
  fits : newIds unlisted looked ≠ [] →
    (grown old (newIds unlisted looked)).length ≤ 128 ∧ used + (newIds unlisted looked).length ≤ 1024
  stops : (rest = [] ∧ a.stop = none) ∨ ∃ id more, rest = id :: more ∧ unlisted id = true ∧ id ∉ newIds unlisted looked
    ∧ ((128 ≤ (grown old (newIds unlisted looked)).length ∧ a.stop = some .listFull)
      ∨ ((grown old (newIds unlisted looked)).length < 128 ∧ 1024 ≤ used + (newIds unlisted looked).length
        ∧ a.stop = some .poolFull))

section
variable {unlisted : ToteId → Bool} {old : List RelEntry} {looked rest : List ToteId}

theorem Follows.of_stopped (h : a.stop ≠ none) (hf : Follows unlisted old used looked rest a) (id : ToteId) :
    Follows unlisted old used looked (rest ++ [id]) a := by
  refine ⟨hf.list, hf.appended, hf.skipped, hf.fits, .inr ?_⟩
  obtain ⟨j, more, rfl, hstop⟩ := hf.stops.resolve_left fun hn => h hn.2
  exact ⟨j, more ++ [id], rfl, hstop⟩

variable (hunlisted : unlisted id = true ↔ elsewhere id = false ∧ ∀ e ∈ old, e.id ≠ id)
include hunlisted

/-- An ID is passed over when a list holds it, or when the request has named it before (R83). -/
theorem skips_iff (hl : a.list = grown old (newIds unlisted looked)) :
    (elsewhere id || (relIndex a.list id).isSome) = false ↔ unlisted id = true ∧ id ∉ newIds unlisted looked := by
  rw [Bool.or_eq_false_iff, Option.isSome_eq_false_iff, Option.isNone_iff_eq_none, relIndex_eq_none_iff, hl, hunlisted, and_assoc]
  refine and_congr_right fun _ => ?_
  simp only [grown, List.mem_append, List.mem_map]
  constructor
  · exact fun h => ⟨fun e he => h e (.inl he), fun hm => h _ (.inr ⟨id, hm, rfl⟩) rfl⟩
  · rintro ⟨hold, hnew⟩ e (he | ⟨j, hj, rfl⟩)
    · exact hold e he
    · exact fun heq => hnew (heq ▸ hj)

/-- The next ID of a request that has not stopped (R83). -/
theorem Follows.next (hs : a.stop = none) (hf : Follows unlisted old used looked [] a) :
    ∃ l r, looked ++ [id] = l ++ r ∧ Follows unlisted old used l r (a.next elsewhere used id) := by
  cases hskip : (elsewhere id || (relIndex a.list id).isSome) with
  | true =>
    have hnew : newIds unlisted (looked ++ [id]) = newIds unlisted looked := newIds_append_of_skipped fun hu => by
      by_contra hno
      exact Bool.false_ne_true (((skips_iff hunlisted hf.list).mpr ⟨hu, hno⟩).symm.trans hskip)
    refine ⟨looked ++ [id], [], (List.append_nil _).symm, ?_⟩
    rw [next_of_skipped hs hskip]
    refine ⟨by rw [hnew]; exact hf.list, by rw [hnew]; exact hf.appended, ?_, by rw [hnew]; exact hf.fits, .inl ⟨rfl, hs⟩⟩
    have hskipped := hf.skipped
    rw [hnew, List.length_append, List.length_singleton]
    dsimp only
    omega
  | false =>
    obtain ⟨hu, hno⟩ := (skips_iff hunlisted hf.list).mp hskip
    rw [next_of_new hs hskip, hf.list, hf.appended]
    by_cases hfull : 128 ≤ (grown old (newIds unlisted looked)).length
    · rw [if_pos hfull]
      exact ⟨looked, [id], rfl, rfl, rfl, hf.skipped, hf.fits, .inr ⟨id, [], rfl, hu, hno, .inl ⟨hfull, rfl⟩⟩⟩
    · rw [if_neg hfull]
      by_cases hpool : 1024 ≤ used + (newIds unlisted looked).length
      · rw [if_pos hpool]
        exact ⟨looked, [id], rfl, rfl, rfl, hf.skipped, hf.fits,
          .inr ⟨id, [], rfl, hu, hno, .inr ⟨not_le.mp hfull, hpool, rfl⟩⟩⟩
      · rw [if_neg hpool]
        have hnew := newIds_append_of_new hu hno
        have hskipped := hf.skipped
        rw [length_grown] at hfull
        refine ⟨looked ++ [id], [], (List.append_nil _).symm, ?_, ?_, ?_, fun _ => ?_, .inl ⟨rfl, hs⟩⟩
        · rw [hnew]
          simp only [grown, List.map_append, List.append_assoc, List.map_cons, List.map_nil]
        · rw [hnew, List.length_append, List.length_singleton]
        · rw [hnew, List.length_append, List.length_append, List.length_singleton]
          dsimp only
          omega
        · rw [length_grown, hnew, List.length_append, List.length_singleton]
          omega

end

/-- A whole request (R83). -/
theorem follows_foldl {unlisted : ToteId → Bool} {old : List RelEntry}
    (hunlisted : ∀ id, unlisted id = true ↔ elsewhere id = false ∧ ∀ e ∈ old, e.id ≠ id) (ids : List ToteId) :
    ∃ looked rest, ids = looked ++ rest ∧ Follows unlisted old used looked rest (ids.foldl (Appending.next elsewhere used) ⟨old, 0, 0, none⟩) := by
  induction ids using List.reverseRecOn with
  | nil => exact ⟨[], [], rfl, (List.append_nil _).symm, rfl, rfl, fun h => absurd rfl h, .inl ⟨rfl, rfl⟩⟩
  | append_singleton ids id ih =>
    obtain ⟨looked, rest, rfl, hf⟩ := ih
    rw [List.foldl_append, List.foldl_cons, List.foldl_nil]
    generalize (looked ++ rest).foldl (Appending.next elsewhere used) ⟨old, 0, 0, none⟩ = a at hf ⊢
    by_cases hs : a.stop = none
    · obtain ⟨rfl, -⟩ := hf.stops.resolve_right fun ⟨_, _, _, _, _, hstop⟩ => by
        rcases hstop with ⟨_, h⟩ | ⟨_, _, h⟩ <;> exact absurd (hs.symm.trans h) (Option.some_ne_none _).symm
      rw [List.append_nil]
      exact hf.next (hunlisted id) hs
    · rw [next_of_stopped hs]
      exact ⟨looked, rest ++ [id], List.append_assoc .., hf.of_stopped hs id⟩

end Appending

theorem exec_streamAppend {s : State} {h : StoreHdr} {stream : Byte} {ids : List ToteId} (hlen : ids.length ≤ 11) :
    exec (.streamAppend h stream ids) s = done (s.onRequest h true (.append stream ids)) := by
  show done (s.onRequest h (bodyFits (3 + 4 * ids.length)) (.append stream ids)) = _
  rw [show bodyFits (3 + 4 * ids.length) = true from decide_eq_true (by omega)]

namespace State
variable {s : State} {stream : Byte} {ids : List ToteId} {i : StreamNo}

theorem append_of_no_stream (h : sequencedOf stream = none) : s.append stream ids = (s, some .noRoute, []) := by
  unfold append
  rw [h]

theorem append_of_failure (h : sequencedOf stream = some i) {r : Reason} (hr : idsFailure 1 ids = some r) :
    s.append stream ids = (s, some r, []) := by
  unfold append
  rw [h]
  dsimp only
  rw [hr]

theorem append_of_good (h : sequencedOf stream = some i) (hr : idsFailure 1 ids = none) {a : Appending}
    (ha : ids.foldl (Appending.next (s.listedElsewhere i) s.poolUsed) ⟨(s.stream i).list, 0, 0, none⟩ = a) :
    s.append stream ids = (if a.appended = 0 then s else (s.setStream i { s.stream i with list := a.list }).wantReeval, a.result,
      [stream, byte a.appended, byte a.skipped, byte a.list.length]) := by
  unfold append
  rw [h]
  dsimp only
  rw [hr, ha]

/-- No list holds the ID (R83). -/
def unlisted (s : State) (id : ToteId) : Bool := decide (∀ k : StreamNo, ∀ e ∈ (s.stream k).list, e.id ≠ id)

theorem unlisted_iff (s : State) (i : StreamNo) (id : ToteId) :
    s.unlisted id = true ↔ s.listedElsewhere i id = false ∧ ∀ e ∈ (s.stream i).list, e.id ≠ id := by
  have helse : s.listedElsewhere i id = false ↔ ∀ k, k ≠ i → ∀ e ∈ (s.stream k).list, e.id ≠ id := by
    unfold listedElsewhere allStreams
    rw [List.any_eq_false]
    refine ⟨fun h k hk => ?_, fun h k _ hk => ?_⟩
    · have hno := h k (List.mem_finRange k)
      rw [Bool.and_eq_true, not_and] at hno
      exact (relIndex_eq_none_iff _ _).mp (Option.not_isSome_iff_eq_none.mp (hno (decide_eq_true hk)))
    · obtain ⟨hne, hsome⟩ := Bool.and_eq_true_iff.mp hk
      rw [(relIndex_eq_none_iff _ _).mpr (h k (of_decide_eq_true hne))] at hsome
      exact Bool.false_ne_true hsome
  rw [unlisted, decide_eq_true_eq, helse]
  refine ⟨fun h => ⟨fun k _ => h k, h i⟩, fun ⟨h, hi⟩ k => ?_⟩
  by_cases hk : k = i
  · exact hk ▸ hi
  · exact h k hk

end State

/-- Settles O53: the refusals of an append, and the IDs it appends, passes over and stops at (R83). -/
theorem streamAppends : Obligations.StreamAppends := by
  unfold Obligations.StreamAppends
  intro s h answer stream ids ht hlen x a refused
  have hrefused {r : Reason} (hr : x.append stream ids = (x, some r, [])) : a = refused r :=
    (exec_streamAppend hlen).trans (requested_of_calm ht hr rfl fun _ _ => rfl)
  refine ⟨fun hs => hrefused (State.append_of_no_stream (sequencedOf_eq_none hs)), fun i hi hs => ?_⟩
  have hstream := sequencedOf_eq_some hi hs
  refine ⟨fun hnil => ?empty, fun h0 => ?zero, fun hne h0 => ?appends⟩
  case empty =>
    subst hnil
    exact hrefused (State.append_of_failure hstream rfl)
  case zero => exact hrefused (State.append_of_failure hstream (idsFailure_of_zero le_rfl hlen h0))
  case appends =>
    intro old used unlisted
    obtain ⟨looked, rest, hids, hf⟩ := Appending.follows_foldl (used := x.poolUsed) (x.unlisted_iff i) ids
    have happend := State.append_of_good hstream (idsFailure_of_good (List.length_pos_of_ne_nil hne) hlen h0) (s := x) rfl
    generalize ids.foldl (Appending.next (x.listedElsewhere i) x.poolUsed) ⟨(x.stream i).list, 0, 0, none⟩ = b at hf happend
    refine ⟨looked, rest, hids, ?_⟩
    intro new list u answered
    have hlist : b.list = list := hf.list
    have hnew : b.appended = new.length := hf.appended
    have hskipped : b.skipped = looked.length - new.length := by
      have : b.skipped + new.length = looked.length := hf.skipped
      omega
    have hstate : (if b.appended = 0 then x else (x.setStream i { x.stream i with list := b.list }).wantReeval) = u := by
      rw [hlist, hnew]
      exact if_congr List.length_eq_zero_iff rfl rfl
    have ha : a = answered b.result := by
      rw [hstate, hlist, hnew, hskipped] at happend
      exact (exec_streamAppend hlen).trans (requested_of_exec ht happend fun _ _ => rfl)
    refine ⟨hf.fits, hf.stops.imp ?_ ?_⟩
    · rintro ⟨hrest, hstop⟩
      refine ⟨hrest, ha.trans (congrArg answered ((Appending.result_of_none hstop).trans (if_congr ?_ rfl rfl)))⟩
      have : b.skipped + new.length = looked.length := hf.skipped
      omega
    · rintro ⟨id, more, hrest, hu, hno, hstop⟩
      refine ⟨id, more, hrest, hu, hno, hstop.imp ?_ ?_⟩
      · exact fun ⟨hfull, hr⟩ => ⟨hfull, ha.trans (congrArg answered (Appending.result_of_some hr))⟩
      · exact fun ⟨hroom, hpool, hr⟩ => ⟨hroom, hpool, ha.trans (congrArg answered (Appending.result_of_some hr))⟩

end Sys2Proof.Machine

/-! ## STREAM-CUT and UNBAR (O54) -/

namespace Sys2Proof.Machine

theorem relEntry_eq_none_iff (l : List RelEntry) (id : ToteId) : relEntry l id = none ↔ ∀ e ∈ l, e.id ≠ id := by
  simp [relEntry]

theorem relEntry_of_mem {l : List RelEntry} (hn : (l.map (fun e => e.id)).Nodup) {e : RelEntry} (he : e ∈ l) : relEntry l e.id = some e := by
  cases hr : relEntry l e.id with
  | none => exact absurd rfl ((relEntry_eq_none_iff l e.id).mp hr e he)
  | some r =>
    obtain ⟨before, after, rfl, hid, -⟩ := (relEntry_eq_some_iff l e.id r).mp hr
    rw [List.inj_on_of_nodup_map hn (List.mem_append_right _ List.mem_cons_self) he hid]

/-! ### One ID after the other (R84) -/

namespace Cutting
variable {c : Cutting} {id : ToteId}

theorem next_of_none (h : relEntry c.list id = none) : c.next id = { c with notFound := c.notFound + 1 } := by
  unfold next
  rw [h]

section
variable {e : RelEntry} (h : relEntry c.list id = some e)
include h

theorem next_of_pledged (hp : e.pledged = true) : c.next id = { c with kept := c.kept + 1 } := by
  unfold next
  rw [h]
  exact if_pos hp

theorem next_of_unpledged (hp : e.pledged = false) :
    c.next id = { c with list := c.list.filter (fun e => e.id ≠ id), removed := c.removed + 1 } := by
  unfold next
  rw [h]
  exact if_neg (Bool.eq_false_iff.mp hp)

end

/-- What a cut leaves of a list: what is pledged, and what it does not name (R84). -/
def left (l : List RelEntry) (ids : List ToteId) : List RelEntry := l.filter (fun e => e.pledged || !ids.contains e.id)

/-- The named IDs that are pledged (R84). -/
def pledgedIds (l : List RelEntry) (ids : List ToteId) : List ToteId := ids.filter (fun id => l.any (fun e => e.id = id && e.pledged))

/-- How far a cut has come, told by the IDs it has looked at (R84). -/
structure Follows (l : List RelEntry) (ids : List ToteId) (c : Cutting) : Prop where
  list : c.list = left l ids
  removed : c.removed + (left l ids).length = l.length
  kept : c.kept = (pledgedIds l ids).length
  total : c.removed + c.kept + c.notFound = ids.length

section
variable {l : List RelEntry} {ids : List ToteId}

theorem mem_left_iff {e : RelEntry} : e ∈ left l ids ↔ e ∈ l ∧ (e.pledged = true ∨ e.id ∉ ids) := by
  simp [left]

/-- An ID more leaves the list as it is unless it names an entry that is not pledged. -/
theorem left_append_of_kept (h : ∀ e ∈ left l ids, e.id = id → e.pledged = true) : left l (ids ++ [id]) = left l ids := by
  refine List.filter_congr fun e he => ?_
  rw [Bool.eq_iff_iff]
  simp only [Bool.or_eq_true, Bool.not_eq_true', ← Bool.not_eq_true, List.contains_iff_mem, List.mem_append, List.mem_singleton, not_or]
  refine or_congr_right' fun hp => ⟨fun hno => hno.1, fun hno => ⟨hno, fun heq => hp ?_⟩⟩
  exact h e (mem_left_iff.mpr ⟨he, .inr hno⟩) heq

theorem left_append_of_removed (h : ∀ e ∈ l, e.id = id → e.pledged = false) :
    left l (ids ++ [id]) = (left l ids).filter (fun e => e.id ≠ id) := by
  unfold left
  rw [List.filter_filter]
  refine List.filter_congr fun e he => ?_
  rw [Bool.eq_iff_iff]
  simp only [Bool.or_eq_true, Bool.and_eq_true, Bool.not_eq_true', ← Bool.not_eq_true, List.contains_iff_mem, List.mem_append,
    List.mem_singleton, not_or, decide_eq_true_eq]
  constructor
  · rintro (hp | ⟨hids, hne⟩)
    · exact ⟨fun heq => Bool.false_ne_true ((h e he heq).symm.trans hp), .inl hp⟩
    · exact ⟨hne, .inr hids⟩
  · rintro ⟨hne, hp | hids⟩
    · exact .inl hp
    · exact .inr ⟨hids, hne⟩

theorem pledgedIds_append (b : Bool) (h : l.any (fun e => e.id = id && e.pledged) = b) :
    (pledgedIds l (ids ++ [id])).length = (pledgedIds l ids).length + if b then 1 else 0 := by
  unfold pledgedIds
  rw [List.filter_append, List.length_append, List.filter_singleton, h]
  cases b <;> rfl

variable (hn : (l.map (fun e => e.id)).Nodup)
include hn

/-- One entry of a list is taken out of it. -/
theorem length_filter_ne {e : RelEntry} (he : e ∈ l) : (l.filter (fun r => r.id ≠ e.id)).length + 1 = l.length := by
  obtain ⟨before, after, rfl⟩ := List.append_of_mem he
  have hne {r : RelEntry} (hr : r ∈ before ∨ r ∈ after) : r.id ≠ e.id := by
    rw [List.map_append, List.map_cons, List.nodup_append] at hn
    obtain ⟨-, hafter, hapart⟩ := hn
    rcases hr with hr | hr
    · exact hapart _ (List.mem_map_of_mem hr) _ List.mem_cons_self
    · exact fun heq => (List.nodup_cons.mp hafter).1 (heq ▸ List.mem_map_of_mem hr)
  have hbefore : before.filter (fun r => r.id ≠ e.id) = before := List.filter_eq_self.mpr fun r hr => decide_eq_true (hne (.inl hr))
  have hafter : after.filter (fun r => r.id ≠ e.id) = after := List.filter_eq_self.mpr fun r hr => decide_eq_true (hne (.inr hr))
  rw [List.filter_append, List.filter_cons_of_neg (by simp), hbefore, hafter, List.length_append, List.length_append, List.length_cons]
  rfl

/-- The next ID of a cut (R84). -/
theorem Follows.next (hf : Follows l ids c) : Follows l (ids ++ [id]) (c.next id) := by
  obtain ⟨hlist, hremoved, hkept, htotal⟩ := hf
  have hlength : (ids ++ [id]).length = ids.length + 1 := by rw [List.length_append, List.length_singleton]
  cases hr : relEntry c.list id with
  | none =>
    have hnone := (relEntry_eq_none_iff _ _).mp hr
    rw [hlist] at hnone
    have hleft : left l (ids ++ [id]) = left l ids := left_append_of_kept fun e he heq => absurd heq (hnone e he)
    have hno : l.any (fun e => e.id = id && e.pledged) = false := List.any_eq_false.mpr fun e he hp => by
      obtain ⟨heq, hp⟩ := Bool.and_eq_true_iff.mp hp
      exact hnone e (mem_left_iff.mpr ⟨he, .inl hp⟩) (of_decide_eq_true heq)
    rw [next_of_none hr]
    refine ⟨hleft ▸ hlist, hleft ▸ hremoved, ?_, ?_⟩
    · rw [pledgedIds_append false hno]
      exact hkept
    · rw [hlength]
      dsimp only
      omega
  | some e =>
    obtain ⟨before, after, hsplit, hid, -⟩ := (relEntry_eq_some_iff _ _ _).mp hr
    have hmem : e ∈ left l ids := by
      rw [← hlist, hsplit]
      exact List.mem_append_right _ List.mem_cons_self
    have hmeml : e ∈ l := (mem_left_iff.mp hmem).1
    have honly {r : RelEntry} (hr : r ∈ l) (heq : r.id = id) : r = e := List.inj_on_of_nodup_map hn hr hmeml (heq.trans hid.symm)
    cases hp : e.pledged with
    | true =>
      have hleft : left l (ids ++ [id]) = left l ids := left_append_of_kept fun r hr heq => by
        rw [honly (mem_left_iff.mp hr).1 heq, hp]
      have hyes : l.any (fun e => e.id = id && e.pledged) = true :=
        List.any_eq_true.mpr ⟨e, hmeml, Bool.and_eq_true_iff.mpr ⟨decide_eq_true hid, hp⟩⟩
      rw [next_of_pledged hr hp]
      refine ⟨hleft ▸ hlist, hleft ▸ hremoved, ?_, ?_⟩
      · rw [pledgedIds_append true hyes]
        exact congrArg (· + 1) hkept
      · rw [hlength]
        dsimp only
        omega
    | false =>
      have hleft : left l (ids ++ [id]) = (left l ids).filter (fun e => e.id ≠ id) := left_append_of_removed fun r hr heq => by
        rw [honly hr heq, hp]
      have hno : l.any (fun e => e.id = id && e.pledged) = false := List.any_eq_false.mpr fun r hr hp' => by
        obtain ⟨heq, hp'⟩ := Bool.and_eq_true_iff.mp hp'
        rw [honly hr (of_decide_eq_true heq), hp] at hp'
        exact Bool.false_ne_true hp'
      have hnodup : ((left l ids).map (fun e => e.id)).Nodup := hn.sublist (List.Sublist.map _ List.filter_sublist)
      have hshorter := length_filter_ne hnodup hmem
      rw [next_of_unpledged hr hp]
      refine ⟨?_, ?_, ?_, ?_⟩
      · rw [hleft, hlist]
      · rw [hleft, ← hid]
        dsimp only at hshorter ⊢
        omega
      · rw [pledgedIds_append false hno]
        exact hkept
      · rw [hlength]
        dsimp only
        omega

end

/-- A whole request (R84). -/
theorem follows_foldl {l : List RelEntry} (hn : (l.map (fun e => e.id)).Nodup) (ids : List ToteId) :
    Follows l ids (ids.foldl Cutting.next ⟨l, 0, 0, 0⟩) := by
  induction ids using List.reverseRecOn with
  | nil =>
    have hleft : left l [] = l := List.filter_eq_self.mpr fun e _ => by simp
    exact ⟨hleft.symm, by rw [hleft]; exact Nat.zero_add _, rfl, rfl⟩
  | append_singleton ids id ih =>
    rw [List.foldl_append, List.foldl_cons, List.foldl_nil]
    exact ih.next hn

end Cutting

namespace State
variable {s : State} {stream : Byte} {ids : List ToteId} {i : StreamNo}

theorem cut_of_no_stream (h : sequencedOf stream = none) : s.cut stream ids = (s, some .noRoute, []) := by
  unfold cut
  rw [h]

theorem cut_of_failure (h : sequencedOf stream = some i) {r : Reason} (hr : idsFailure 0 ids = some r) :
    s.cut stream ids = (s, some r, []) := by
  unfold cut
  rw [h]
  dsimp only
  rw [hr]

theorem cut_of_good (h : sequencedOf stream = some i) (hr : idsFailure 0 ids = none) {c : Cutting}
    (hc : (if ids.isEmpty then cutAll (s.stream i).list else ids.foldl Cutting.next ⟨(s.stream i).list, 0, 0, 0⟩) = c) :
    s.cut stream ids = (if c.removed = 0 then s else (s.shrinkList i c.list).wantReeval, none,
      [stream, byte c.removed, byte c.kept, byte c.notFound, byte c.list.length]) := by
  unfold cut
  rw [h]
  dsimp only
  rw [hr, hc]

/-- A list made shorter, told by whether it fell below its low mark (R88). -/
theorem shrinkList_eq (l : List RelEntry) {fell : Bool}
    (hfell : (decide ((s.stream i).row.lowMark.toNat ≤ (s.stream i).list.length) && decide (l.length < (s.stream i).row.lowMark.toNat)) = fell) :
    s.shrinkList i l =
      let y := s.setStream i { s.stream i with list := l, lowMarker := fell || (s.stream i).lowMarker }
      if fell then y.handFlag .streamLow else y := by
  unfold shrinkList fallsBelow
  dsimp only
  rw [hfell]
  cases fell <;> rfl

variable {id : ToteId}

theorem unbar_of_no_stream (h : sequencedOf stream = none) : s.unbar stream id = (s, some .noRoute) := by
  unfold unbar
  rw [h]

section
variable (h : sequencedOf stream = some i)
include h

theorem unbar_of_zero : s.unbar stream 0 = (s, some .badTote) := by
  unfold unbar
  rw [h]
  rfl

theorem unbar_of_unbarred (hid : id ≠ 0) (hb : ∀ e ∈ (s.stream i).list, e.id = id → e.barred = false) :
    s.unbar stream id = (s, some .void) := by
  unfold unbar
  rw [h]
  dsimp only
  rw [if_neg hid]
  cases hr : relEntry (s.stream i).list id with
  | none => rfl
  | some e =>
    obtain ⟨before, after, hsplit, hide, -⟩ := (relEntry_eq_some_iff _ _ _).mp hr
    have hbarred := hb e (by rw [hsplit]; exact List.mem_append_right _ List.mem_cons_self) hide
    exact if_neg (Bool.eq_false_iff.mp hbarred)

theorem unbar_of_barred (hid : id ≠ 0) (hn : ((s.stream i).list.map (fun e => e.id)).Nodup)
    (hb : ∃ e ∈ (s.stream i).list, e.id = id ∧ e.barred = true) :
    s.unbar stream id = ((s.changeRel i id (fun e => { e with barred := false })).wantReeval, none) := by
  obtain ⟨e, he, rfl, hbarred⟩ := hb
  unfold unbar
  rw [h]
  dsimp only
  rw [if_neg hid, relEntry_of_mem hn he]
  exact if_pos hbarred

end

end State

theorem exec_streamCut {s : State} {h : StoreHdr} {stream : Byte} {ids : List ToteId} (hlen : ids.length ≤ 11) :
    exec (.streamCut h stream ids) s = done (s.onRequest h true (.cut stream ids)) := by
  show done (s.onRequest h (bodyFits (3 + 4 * ids.length)) (.cut stream ids)) = _
  rw [show bodyFits (3 + 4 * ids.length) = true from decide_eq_true (by omega)]

/-- What a cut gives, of all entries and of those it names (R84). -/
theorem cutting_spec {l : List RelEntry} (hn : (l.map (fun e => e.id)).Nodup) {ids : List ToteId} {c : Cutting}
    (hc : (if ids.isEmpty then cutAll l else ids.foldl Cutting.next ⟨l, 0, 0, 0⟩) = c) :
    c.list = l.filter (fun e => e.pledged || !(ids.isEmpty || ids.contains e.id))
      ∧ c.removed = l.length - c.list.length
      ∧ c.kept = (if ids = [] then c.list.length else (Cutting.pledgedIds l ids).length)
      ∧ c.notFound = ids.length - c.removed - c.kept := by
  by_cases hnil : ids = []
  · subst hnil hc
    have hsum : l.length = (l.filter (fun e => e.pledged)).length + (l.filter (fun e => !e.pledged)).length :=
      List.length_eq_length_filter_add _
    refine ⟨?_, ?_, rfl, (Nat.zero_sub _).symm ▸ (Nat.zero_sub _).symm⟩
    · simp [cutAll]
    · rw [hsum]
      exact (Nat.add_sub_cancel_left ..).symm
  · have hempty : ids.isEmpty = false := by simpa using hnil
    obtain ⟨hlist, hremoved, hkept, htotal⟩ := Cutting.follows_foldl hn ids
    rw [(if_neg (by rw [hempty]; exact Bool.false_ne_true)).symm.trans hc] at hlist hremoved hkept htotal
    rw [hempty, if_neg hnil]
    refine ⟨hlist, ?_, hkept, ?_⟩
    · rw [hlist]
      omega
    · omega

/-- Settles O54: the refusals of a cut and of an UNBAR, and what they leave (R84, R88, R115). -/
theorem streamCutsAndUnbars : Obligations.StreamCutsAndUnbars := by
  unfold Obligations.StreamCutsAndUnbars
  intro s h answer stream ht
  refine ⟨fun ids hlen => ?cut, fun id => ?unbar⟩
  case cut =>
    intro x a refused
    have hrefused {r : Reason} (hr : x.cut stream ids = (x, some r, [])) : a = refused r :=
      (exec_streamCut hlen).trans (requested_of_calm ht hr rfl fun _ _ => rfl)
    refine ⟨fun hs => hrefused (State.cut_of_no_stream (sequencedOf_eq_none hs)), fun i hi hs => ⟨fun h0 => ?_, fun h0 hn => ?_⟩⟩
    · exact hrefused (State.cut_of_failure (sequencedOf_eq_some hi hs) (idsFailure_of_zero (Nat.zero_le _) hlen h0))
    · intro old left removed kept fell y u
      obtain ⟨c, hc⟩ : ∃ c, (if ids.isEmpty then cutAll old.list else ids.foldl Cutting.next ⟨old.list, 0, 0, 0⟩) = c := ⟨_, rfl⟩
      obtain ⟨hlist, hremoved, hkept, hlost⟩ := cutting_spec hn hc
      have hcut := State.cut_of_good (s := x) (sequencedOf_eq_some hi hs) (idsFailure_of_good (Nat.zero_le _) hlen h0) hc
      have hleft : c.list = left := hlist
      have hgone : c.removed = removed := by rw [hremoved, hleft]
      have hstay : c.kept = kept := by rw [hkept, hleft]; rfl
      have hstate : (if c.removed = 0 then x else (x.shrinkList i c.list).wantReeval) = u := by
        rw [hgone, hleft, State.shrinkList_eq (s := x) left (fell := fell) rfl]
        rfl
      rw [hstate, hlost, hgone, hstay, hleft] at hcut
      exact (exec_streamCut hlen).trans (requested_of_exec ht hcut fun _ _ => rfl)
  case unbar =>
    intro x a refused
    have hrefused {r : Reason} (hr : x.unbar stream id = (x, some r)) : a = refused r :=
      write_refused (q := .unbar stream id) ht (fun _ => rfl) hr fun _ _ => rfl
    refine ⟨fun hs => hrefused (State.unbar_of_no_stream (sequencedOf_eq_none hs)), fun i hi hs => ?_⟩
    have hstream := sequencedOf_eq_some hi hs
    intro old
    refine ⟨fun h0 => ?_, fun hid hb => hrefused (State.unbar_of_unbarred hstream hid hb), fun hid hn hb => ?_⟩
    · subst h0
      exact hrefused (State.unbar_of_zero hstream)
    · exact requested_of_exec (q := .unbar stream id) ht (congrArg (answered · []) (State.unbar_of_barred (s := x) hstream hid hn hb)) fun _ _ => rfl

end Sys2Proof.Machine

/-! ## The resolution of a CONFIRMING entry (R110) -/

namespace Sys2Proof.Machine

/-- What a filter gives, seen through what it keeps of each item. -/
theorem map_filterMap_of_passes {α β γ : Type} {f : α → Option β} {g : β → γ} {g' : α → γ} {p : α → Bool}
    (hp : ∀ a, p a = (f a).isSome) (hg : ∀ a b, f a = some b → g b = g' a) (l : List α) :
    (l.filterMap f).map g = (l.filter p).map g' := by
  induction l with
  | nil => rfl
  | cons a l ih =>
    cases hf : f a with
    | none =>
      have hpa : ¬ p a = true := by rw [hp, hf]; exact Bool.false_ne_true
      rw [List.filterMap_cons_none hf, List.filter_cons_of_neg hpa, ih]
    | some b =>
      have hpa : p a = true := by rw [hp, hf]; rfl
      rw [List.filterMap_cons_some hf, List.filter_cons_of_pos hpa, List.map_cons, List.map_cons, ih, hg a b hf]

theorem filterMap_eq_nil_of_passes {α β : Type} {f : α → Option β} {p : α → Bool} (hp : ∀ a, p a = (f a).isSome) (l : List α) :
    l.filterMap f = [] ↔ ∀ a ∈ l, p a = false := by
  simp only [List.filterMap_eq_nil_iff, hp, Option.isSome_eq_false_iff, Option.isNone_iff_eq_none]

namespace State
variable (s : State) (x : Lift) (v : Visit)

/-- The slot holds the item's tote, OPEN, unclaimed and eligible (R110). -/
def standsIn (i : Item) (c : SlotCode) : Bool :=
  (s.slot v.level c).ready.any (fun t => t.tote.id = i.tote.id && s.eligible t.tote)

/-- The item can still be granted (R110). -/
def itemPasses (i : Item) : Bool := (i.conf = .confirmed || i.conf = .none) && (outPair x).any (s.standsIn v i)

theorem stillFetchable_isSome (i : Item) : (s.stillFetchable x v.level i.tote.id).isSome = (outPair x).any (s.standsIn v i) := by
  rw [stillFetchable, List.isSome_findSome?]
  refine congrArg (fun f => (outPair x).any f) (funext fun c => ?_)
  unfold standsIn
  cases (s.slot v.level c).ready with
  | none => rfl
  | some t =>
    dsimp only
    rw [Option.any_some]
    split
    next h => rw [h]; rfl
    next h => rw [Bool.eq_false_iff.mpr h]; rfl

theorem stillFetchable_spec {n : Level} {id : ToteId} {c : SlotCode} {r : ToteRec} (h : s.stillFetchable x n id = some (c, r)) :
    c.outLift = some x ∧ ∃ t, s.slot n c = .opened (some t) none ∧ r = t.tote ∧ t.tote.id = id := by
  obtain ⟨d, hd, hfound⟩ := List.exists_of_findSome?_eq_some h
  cases hready : (s.slot n d).ready with
  | none =>
    rw [hready] at hfound
    exact absurd hfound.symm (Option.some_ne_none _)
  | some t =>
    rw [hready] at hfound
    obtain ⟨hcond, heq⟩ := Option.ite_none_right_eq_some.mp hfound
    cases heq
    exact ⟨(mem_outPair_iff c x).mp hd, t, (Slot.ready_eq_some_iff _ _).mp hready, rfl,
      of_decide_eq_true (Bool.and_eq_true_iff.mp hcond).1⟩

/-- What is left of an item at the resolution: the tote and the slot where it stands (R110). -/
def keepItem (i : Item) : Option Item :=
  if i.conf = .confirmed ∨ i.conf = .none then
    (s.stillFetchable x v.level i.tote.id).map (fun p => { tote := p.2, slot := some (v.level, p.1), conf := i.conf })
  else none

theorem keepItem_isSome (i : Item) : s.itemPasses x v i = (s.keepItem x v i).isSome := by
  unfold itemPasses keepItem
  rw [← stillFetchable_isSome, Bool.eq_iff_iff]
  simp only [Bool.and_eq_true, Bool.or_eq_true, decide_eq_true_eq]
  split
  next h => rw [Option.isSome_map, and_iff_right h]
  next h => exact iff_of_false (fun hp => h hp.1) Bool.false_ne_true

theorem keepItem_spec {i k : Item} (h : s.keepItem x v i = some k) : (k.tote.id, k.conf) = (i.tote.id, i.conf)
    ∧ ∃ c t, k.slot = some (v.level, c) ∧ c.outLift = some x ∧ s.slot v.level c = .opened (some t) none ∧ k.tote = t.tote := by
  obtain ⟨-, hkept⟩ := Option.ite_none_right_eq_some.mp h
  obtain ⟨⟨c, r⟩, hfound, rfl⟩ := Option.map_eq_some_iff.mp hkept
  obtain ⟨hc, t, hslot, rfl, hid⟩ := s.stillFetchable_spec x hfound
  exact ⟨congrArg (·, i.conf) hid, c, t, rfl, hc, hslot, rfl⟩

variable {s x v} {e : Entry}

section
variable (hp : e.party = .lift x) (hv : (s.lift x).visit = some v)
include hp hv

theorem keptItems_eq : s.keptItems e = e.items.filterMap (s.keepItem x v) := by
  unfold keptItems
  rw [hp]
  dsimp only
  rw [hv]
  rfl

theorem map_keptItems : (s.keptItems e).map (fun k => (k.tote.id, k.conf))
    = (e.items.filter (s.itemPasses x v)).map (fun i => (i.tote.id, i.conf)) := by
  rw [keptItems_eq hp hv]
  exact map_filterMap_of_passes (s.keepItem_isSome x v) (fun i k hk => (s.keepItem_spec x v hk).1) e.items

theorem mem_keptItems {k : Item} (hk : k ∈ s.keptItems e) :
    ∃ c t, k.slot = some (v.level, c) ∧ c.outLift = some x ∧ s.slot v.level c = .opened (some t) none ∧ k.tote = t.tote := by
  rw [keptItems_eq hp hv] at hk
  obtain ⟨i, -, hi⟩ := List.mem_filterMap.mp hk
  exact (s.keepItem_spec x v hi).2

theorem keptItems_eq_nil_iff : s.keptItems e = [] ↔ ∀ i ∈ e.items, s.itemPasses x v i = false := by
  rw [keptItems_eq hp hv]
  exact filterMap_eq_nil_of_passes (s.keepItem_isSome x v) e.items

end

variable {h : Handle}

theorem resolve_of_kept (hk : s.keptItems e ≠ []) : s.resolve h e = ((s.dropConfirmAsks h).grant h e (s.keptItems e)).wantReeval :=
  if_neg (by rw [List.isEmpty_iff]; exact hk)

theorem resolve_of_none_waiting (hk : s.keptItems e = []) (hw : e.wait = true) :
    s.resolve h e = ((s.dropConfirmAsks h).hold h { e with items := [] } .notEligible).wantReeval :=
  (if_pos (List.isEmpty_iff.mpr hk)).trans (if_pos hw)

theorem resolve_of_none_refused (hk : s.keptItems e = []) (hw : e.wait = false) :
    s.resolve h e = (s.dropConfirmAsks h).refuseEntry h e .denied :=
  (if_pos (List.isEmpty_iff.mpr hk)).trans (if_neg (Bool.eq_false_iff.mp hw))

/-- In RUN a CONFIRMING entry with no tote asked is resolved, and no other is touched (R110, R114). -/
theorem resolveIfDecided_of_confirming (he : s.entry h = some e) (hp : e.phase = .confirming) :
    s.resolveIfDecided h = if s.mode = .run ∧ ∀ j ∈ e.items, j.conf ≠ .asked then s.resolve h e else s := by
  have hdecided : e.allDecided = true ↔ ∀ j ∈ e.items, j.conf ≠ .asked := by
    simp only [Entry.allDecided, List.all_eq_true, decide_eq_true_eq]
  unfold resolveIfDecided
  rw [he]
  refine if_congr ?_ rfl rfl
  rw [Bool.and_eq_true, Bool.and_eq_true, hdecided, decide_eq_true_eq, decide_eq_true_eq, and_iff_right hp, and_comm]

end State

end Sys2Proof.Machine

/-! ## Decisions and resolutions (O55) -/

namespace Sys2Proof.Machine

theorem handleOf_eq_some_iff (b : Byte) (k : Handle) : handleOf b = some k ↔ b.toNat = k.val := by
  unfold handleOf
  constructor
  · intro h
    split at h
    · cases h
      rfl
    · exact absurd h.symm (Option.some_ne_none k)
  · intro h
    rw [dif_pos (by rw [h]; exact k.isLt)]
    exact congrArg some (Fin.ext h)

/-- The entry with a decision on the tote of an ID (R108). -/
def Entry.decided (e : Entry) (id : ToteId) (c : Conf) : Entry :=
  { e with items := e.items.map (fun j => if j.tote.id = id then { j with conf := c } else j) }

namespace State
variable {s : State} {hb : Byte} {id : ToteId} {k : Handle} {e : Entry} {i : Item}

theorem decideRequest_of_void (h : ∀ (k : Handle) e, hb.toNat = k.val → s.entry k = some e → e.phase = .confirming →
    ∀ i ∈ e.items, i.tote.id = id → i.conf ≠ .asked) (deny : Bool) : s.decideRequest deny hb id = (s, some .void, []) := by
  unfold decideRequest
  cases hk : handleOf hb with
  | none => rfl
  | some k =>
    cases he : s.entry k with
    | none => simp only [he]
    | some e =>
      simp only [he]
      split
      next hp =>
        have hno : e.askedItem id = none := List.find?_eq_none.mpr fun i hi hf => by
          obtain ⟨hid, hasked⟩ := Bool.and_eq_true_iff.mp hf
          exact h k e ((handleOf_eq_some_iff hb k).mp hk) he hp i hi (of_decide_eq_true hid) (of_decide_eq_true hasked)
        rw [hno]
      · rfl

/-- In RUN an entry with no tote asked after a decision is resolved (R110). -/
theorem resolveIfDecided_decided {u : State} {c : Conf} (he : u.entry k = some (e.decided id c)) (hp : e.phase = .confirming)
    (hm : u.mode = s.mode) : u.resolveIfDecided k
      = if s.mode = .run ∧ ∀ j ∈ (e.decided id c).items, j.conf ≠ .asked then u.resolve k (e.decided id c) else u := by
  rw [← hm]
  exact resolveIfDecided_of_confirming he hp

section
variable (hk : hb.toNat = k.val) (he : s.entry k = some e) (hp : e.phase = .confirming) (hi : i ∈ e.items) (hid : i.tote.id = id)
  (hasked : i.conf = .asked) (hn : (e.items.map (fun j => j.tote.id)).Nodup)
include hi hid hasked hn

theorem decideItem_eq (c : Conf) : s.decideItem k e id c = (s.setEntry k (some (e.decided id c))).touch := by
  have hmap : e.mapItems (fun j => if j.tote.id = id && j.conf = .asked then { j with conf := c } else j) = e.decided id c := by
    refine congrArg (fun l => { e with items := l }) (List.map_congr_left fun j hj => ?_)
    refine if_congr ?_ rfl rfl
    rw [Bool.and_eq_true, decide_eq_true_eq, decide_eq_true_eq]
    refine and_iff_left_of_imp fun hj' => ?_
    rw [List.inj_on_of_nodup_map hn hj hi (hj'.trans hid.symm)]
    exact hasked
  unfold decideItem
  rw [hmap]

theorem askedItem_eq : e.askedItem id = some i := by
  cases hf : e.askedItem id with
  | none =>
    exact absurd (Bool.and_eq_true_iff.mpr ⟨decide_eq_true hid, decide_eq_true hasked⟩) (List.find?_eq_none.mp hf i hi)
  | some j =>
    have hfound : e.items.find? (fun i => i.tote.id = id && i.conf = .asked) = some j := hf
    have hpicked : (decide (j.tote.id = id) && decide (j.conf = .asked)) = true := List.find?_some (p := fun i : Item => decide (i.tote.id = id) && decide (i.conf = .asked)) hfound
    have hid' := of_decide_eq_true (Bool.and_eq_true_iff.mp hpicked).1
    rw [List.inj_on_of_nodup_map hn (List.mem_of_find?_eq_some hfound) hi (hid'.trans hid.symm)]

include hk he hp

theorem decideRequest_of_confirm : s.decideRequest false hb id
    = (((s.setEntry k (some (e.decided id .confirmed))).touch).resolveIfDecided k, none, hb :: be32 id) := by
  unfold decideRequest
  rw [(handleOf_eq_some_iff hb k).mpr hk]
  dsimp only
  rw [he]
  dsimp only
  rw [if_pos hp, askedItem_eq hi hid hasked hn]
  dsimp only
  rw [if_neg Bool.false_ne_true, decideItem_eq hi hid hasked hn]
  rfl

theorem decideRequest_of_deny : s.decideRequest true hb id
    = ((if s.listed i.tote then ((s.setEntry k (some (e.decided id .denied))).touch).bar i.tote
        else (s.setEntry k (some (e.decided id .denied))).touch).resolveIfDecided k, none,
      hb :: be32 id ++ [markByte (s.listed i.tote)]) := by
  unfold decideRequest
  rw [(handleOf_eq_some_iff hb k).mpr hk]
  dsimp only
  rw [he]
  dsimp only
  rw [if_pos hp, askedItem_eq hi hid hasked hn, decideItem_eq hi hid hasked hn]
  rfl

end

theorem listed_eq_false {r : ToteRec} (h : ∀ n : StreamNo, r.stream.toNat = n.val → n = 0 ∨ ∀ q ∈ (s.stream n).list, q.id ≠ r.id) :
    s.listed r = false := by
  cases hs : toteStream r with
  | none =>
    unfold listed
    rw [hs]
  | some n =>
    have hn := (toteStream_eq_some_iff r n).mp hs
    refine Bool.eq_false_iff.mpr fun hl => ?_
    obtain ⟨hne, q, hq, hid⟩ := (listed_iff hn).mp hl
    exact ((h n hn).resolve_left hne) q hq hid

theorem bar_of_stream {r : ToteRec} {n : StreamNo} (hr : r.stream.toNat = n.val) (hn : n ≠ 0) :
    s.bar r = (s.changeRel n r.id (fun q => { q with barred := true })).touch := by
  unfold bar
  rw [(toteStream_eq_some_iff r n).mpr hr]
  exact if_neg hn

end State

/-- Settles O55: decisions that are void or taken, and what a resolution grants, holds or refuses (R107, R108, R110, R111, R114). -/
theorem decisionsAndResolutions : Obligations.DecisionsAndResolutions := by
  unfold Obligations.DecisionsAndResolutions
  refine ⟨?decisions, ?resolutions⟩
  case decisions =>
    intro s h answer hb id ht x
    refine ⟨fun hno => ⟨?voidConfirm, ?voidDeny⟩, fun k e i hk he hp hi hid hasked hn => ?taken⟩
    case voidConfirm => exact requested_of_calm (q := .confirm hb id) ht (State.decideRequest_of_void (s := x (.confirm hb id)) hno false) rfl fun _ _ => rfl
    case voidDeny => exact requested_of_calm (q := .deny hb id) ht (State.decideRequest_of_void (s := x (.deny hb id)) hno true) rfl fun _ _ => rfl
    case taken =>
      intro after ended
      have hended {u : State} {c : Conf} (hentry : u.entry k = some (e.decided id c)) (hm : u.mode = s.mode) :
          u.resolveIfDecided k = ended u c := State.resolveIfDecided_decided hentry hp hm
      refine ⟨?confirm, ?deny⟩
      case confirm =>
        have hreq := State.decideRequest_of_confirm (s := x (.confirm hb id)) hk he hp hi hid hasked hn
        rw [hended (u := ((x (.confirm hb id)).setEntry k (some (e.decided id .confirmed))).touch) (State.entry_setEntry_self _ k _) rfl] at hreq
        exact requested_of_exec (q := .confirm hb id) ht hreq fun _ _ => rfl
      case deny =>
        intro u
        have hu (v : Stream) (n : StreamNo) : (u.setStream n v).touch.entry k = some (e.decided id .denied) :=
          State.entry_setEntry_self _ k _
        have hreq := State.decideRequest_of_deny (s := x (.deny hb id)) hk he hp hi hid hasked hn
        refine ⟨fun n hs hne hr => ?barred, fun hno => ?unlisted⟩
        case barred =>
          have hl : (x (.deny hb id)).listed i.tote = true := (State.listed_iff hs).mpr ⟨hne, by rw [hid]; exact hr⟩
          rw [hl, if_pos rfl, State.bar_of_stream hs hne, hid] at hreq
          have hresolved := hended (hu { s.stream n with
            list := (s.stream n).list.map (fun r => if r.id = id then { r with barred := true } else r) } n) rfl
          exact requested_of_exec (q := .deny hb id) ht
            (hreq.trans (congrArg (fun v : State => (v, none, hb :: be32 id ++ [1])) hresolved)) fun _ _ => rfl
        case unlisted =>
          have hl : (x (.deny hb id)).listed i.tote = false := State.listed_eq_false fun n hs => by rw [hid]; exact hno n hs
          rw [hl, if_neg Bool.false_ne_true, hended (u := ((x (.deny hb id)).setEntry k (some (e.decided id .denied))).touch) (State.entry_setEntry_self _ k _) rfl] at hreq
          exact requested_of_exec (q := .deny hb id) ht hreq fun _ _ => rfl
  case resolutions =>
    intro s h e x v hparty hvisit stands passes u
    have hnil := State.keptItems_eq_nil_iff hparty hvisit
    refine ⟨fun hno => ⟨State.resolve_of_none_waiting (hnil.mpr hno), State.resolve_of_none_refused (hnil.mpr hno)⟩,
      fun ⟨i, hi, hpass⟩ => ⟨s.keptItems e, State.resolve_of_kept fun hk => ?_, State.map_keptItems hparty hvisit,
        fun k hk => State.mem_keptItems hparty hvisit hk⟩⟩
    exact Bool.false_ne_true ((hnil.mp hk i hi).symm.trans hpass)

end Sys2Proof.Machine

/-! ## The census and SLOT-SET (O56) -/

namespace Sys2Proof.Machine

/-! ### The census (R19) -/

namespace State
variable (s : State) (id : ToteId) (but : Option (Level × SlotCode))

theorem inSlots_iff : s.inSlots id but = true ↔ ∃ n c t, some (n, c) ≠ but ∧ (s.slot n c).content = some t ∧ t.tote.id = id := by
  have hcode (c : SlotCode) : c ∈ SlotCode.all := by cases c <;> decide
  unfold inSlots allLevels
  simp only [List.any_eq_true, List.mem_finRange, true_and, hcode, Bool.and_eq_true, decide_eq_true_eq]
  refine exists_congr fun n => exists_congr fun c => ?_
  cases (s.slot n c).content <;> simp

theorem inCarriage_iff (x : Lift) : s.inCarriage x id = true ↔ ∃ r ∈ (s.lift x).carriage, r.id = id := by
  simp only [inCarriage, List.any_eq_true, decide_eq_true_eq]

theorem inPlaceEntries_iff : s.inPlaceEntries id = true ↔
    ∃ h n, ∃ e ∈ s.entry h, e.party = .shuttle n ∧ e.kind = .place ∧ ∃ i ∈ e.items, i.tote.id = id := by
  unfold inPlaceEntries
  simp only [List.any_eq_true, Prod.exists, mem_entries_iff]
  constructor
  · rintro ⟨h, e, he, hplace⟩
    cases hp : e.party with
    | lift x => simp [hp] at hplace
    | shuttle n =>
      cases hk : e.kind with
      | fetch => simp [hp, hk] at hplace
      | place => exact ⟨h, n, e, he, hp, hk, by simpa [hp, hk] using hplace⟩
  · rintro ⟨h, n, e, he, hp, hk, hi⟩
    exact ⟨h, e, he, by simpa [hp, hk] using hi⟩

theorem inCensus_iff : s.inCensus id but = true ↔
    (∃ n c t, some (n, c) ≠ but ∧ (s.slot n c).content = some t ∧ t.tote.id = id)
    ∨ (∃ x, ∃ r ∈ (s.lift x).carriage, r.id = id)
    ∨ ∃ h n, ∃ e ∈ s.entry h, e.party = .shuttle n ∧ e.kind = .place ∧ ∃ i ∈ e.items, i.tote.id = id := by
  have hlifts : (s.inCarriage .a id = true ∨ s.inCarriage .b id = true) ↔ ∃ x, ∃ r ∈ (s.lift x).carriage, r.id = id := by
    simp only [inCarriage_iff]
    constructor
    · rintro (h | h)
      · exact ⟨.a, h⟩
      · exact ⟨.b, h⟩
    · rintro ⟨x, h⟩
      cases x
      · exact .inl h
      · exact .inr h
  rw [inCensus, Bool.or_eq_true, Bool.or_eq_true, Bool.or_eq_true, inSlots_iff, inPlaceEntries_iff, ← hlifts, or_assoc, or_assoc, or_assoc]

end State

/-! ### Slots by their state (R5, R6, R8) -/

theorem Slot.mapped_iff (v : Slot) : v.mapped = true ↔ v ≠ .off := by cases v <;> simp [Slot.mapped]

theorem Slot.isOpen_iff (v : Slot) : v.isOpen = true ↔ ∃ t k, v = .opened t k := by cases v <;> simp [Slot.isOpen]

/-! ### SLOT-SET (R15, R16) -/

theorem slotCodeOf_byte (c : SlotCode) : slotCodeOf c.byte = some c := by cases c <;> rfl

theorem slotCodeOf_of_beyond {b : Byte} (h : b = 0 ∨ 6 < b.toNat) : slotCodeOf b = none := by
  refine List.find?_eq_none.mpr fun c _ hc => ?_
  have hb := of_decide_eq_true hc
  rcases h with rfl | h
  · cases c <;> exact absurd hb (by decide)
  · rw [← hb] at h
    cases c <;> exact absurd h (by decide)

theorem levelOf_of_beyond {b : Byte} (h : b = 0 ∨ 40 < b.toNat) : levelOf b = none := by
  rw [Option.eq_none_iff_forall_ne_some]
  intro n hn
  have hb := (levelOf_eq_some_iff b n).mp hn
  rcases h with rfl | h
  · exact absurd hb (by simp)
  · omega

theorem targetOf_of_state {b : Byte} (h : b = 1 ∨ b = 3) : targetOf b = some (decide (b = 1)) := by
  rcases h with rfl | rfl <;> rfl

theorem targetOf_of_other {b : Byte} (h : b ≠ 1 ∧ b ≠ 3) : targetOf b = none := (if_neg h.1).trans (if_neg h.2)

namespace State
variable {s : State} {level code target : Byte} {r : ToteRec} {n : Level} {c : SlotCode}

theorem slotSet_of_bad (h : level = 0 ∨ 40 < level.toNat ∨ code = 0 ∨ 6 < code.toNat ∨ (target ≠ 1 ∧ target ≠ 3)) :
    s.slotSet level code target r = (s, some .badSlot, [level, code]) := by
  have hnone : levelOf level = none ∨ slotCodeOf code = none ∨ targetOf target = none := by
    rcases h with h | h | h | h | h
    · exact .inl (levelOf_of_beyond (.inl h))
    · exact .inl (levelOf_of_beyond (.inr h))
    · exact .inr (.inl (slotCodeOf_of_beyond (.inl h)))
    · exact .inr (.inl (slotCodeOf_of_beyond (.inr h)))
    · exact .inr (.inr (targetOf_of_other h))
  unfold slotSet
  rcases hnone with h | h | h
  · rw [h]
  · rw [h]
    cases levelOf level <;> rfl
  · rw [h]
    cases levelOf level <;> cases slotCodeOf code <;> rfl

section
variable (hl : level.toNat = n.val + 1) (hc : code = c.byte) (ht : target = 1 ∨ target = 3)
include hl hc ht

theorem slotSet_of_failure {e : Reason} (he : s.slotSetFailure n c r = some e) :
    s.slotSet level code target r = (s, some e, [level, code]) := by
  unfold slotSet
  rw [(levelOf_eq_some_iff level n).mpr hl, hc, slotCodeOf_byte, targetOf_of_state ht]
  dsimp only
  rw [he]

theorem slotSet_of_good (he : s.slotSetFailure n c r = none) :
    s.slotSet level code target r = (s.declare n c (decide (target = 1)) r, none, [level, code]) := by
  unfold slotSet
  rw [(levelOf_eq_some_iff level n).mpr hl, hc, slotCodeOf_byte, targetOf_of_state ht]
  dsimp only
  rw [he]

end

/-- The record is none, or one that the slot takes (R4, R15). -/
def RecordFits (level : Byte) (c : SlotCode) (r : ToteRec) : Prop :=
  r.id = 0 ∨ (validTote r = true ∧ r.dest = if c.outLift = none then level else 0)

theorem fitsSlot_iff (hl : level.toNat = n.val + 1) : fitsSlot r n c = true ↔ r.dest = if c.outLift = none then level else 0 := by
  rw [(eq_levelByte_iff level n).mpr hl]
  unfold fitsSlot
  cases c.outLift <;> simp

section
variable (hmapped : s.slot n c ≠ .off) (hclaim : (s.slot n c).claim = none)

theorem slotSetFailure_of_off (h : s.slot n c = .off) : s.slotSetFailure n c r = some .unmapped := by
  unfold slotSetFailure
  rw [h]
  rfl

theorem slotSetFailure_of_claim (h : (s.slot n c).claim ≠ none) : s.slotSetFailure n c r = some .busy := by
  have hmapped : (s.slot n c).mapped = true := (Slot.mapped_iff _).mpr fun hoff => h (by rw [hoff]; rfl)
  unfold slotSetFailure
  rw [hmapped, Option.isSome_iff_ne_none.mpr h]
  rfl

include hmapped hclaim

theorem slotSetFailure_of_free : s.slotSetFailure n c r = firstFailure [
    (r.id ≠ 0 && !(validTote r && fitsSlot r n c), .badTote),
    (r.id ≠ 0 && s.inCensus r.id (some (n, c)), .duplicate)] := by
  unfold slotSetFailure
  rw [(Slot.mapped_iff _).mpr hmapped, hclaim]
  rfl

variable (hl : level.toNat = n.val + 1)
include hl

theorem slotSetFailure_of_misfit (h : ¬ RecordFits level c r) : s.slotSetFailure n c r = some .badTote := by
  obtain ⟨hid, hmisfit⟩ := not_or.mp h
  have hfits : (validTote r && fitsSlot r n c) = false := Bool.eq_false_iff.mpr fun hb => by
    obtain ⟨hv, hf⟩ := Bool.and_eq_true_iff.mp hb
    exact hmisfit ⟨hv, (fitsSlot_iff hl).mp hf⟩
  rw [slotSetFailure_of_free hmapped hclaim, hfits, decide_eq_true hid]
  rfl

variable (hf : RecordFits level c r)
include hf

theorem slotSetFailure_of_fit : s.slotSetFailure n c r = firstFailure [(r.id ≠ 0 && s.inCensus r.id (some (n, c)), .duplicate)] := by
  rw [slotSetFailure_of_free hmapped hclaim]
  have hpass : (decide (r.id ≠ 0) && !(validTote r && fitsSlot r n c)) = false := by
    rcases hf with h0 | ⟨hv, hd⟩
    · rw [decide_eq_false (not_not.mpr h0)]
      rfl
    · rw [hv, (fitsSlot_iff hl).mpr hd]
      exact Bool.and_false _
  rw [hpass, firstFailure_pass]

theorem slotSetFailure_of_duplicate (hid : r.id ≠ 0) (h : s.inCensus r.id (some (n, c)) = true) :
    s.slotSetFailure n c r = some .duplicate := by
  rw [slotSetFailure_of_fit hmapped hclaim hl hf, decide_eq_true hid, h]
  rfl

theorem slotSetFailure_of_good (h : r.id = 0 ∨ s.inCensus r.id (some (n, c)) = false) : s.slotSetFailure n c r = none := by
  have hpass : (decide (r.id ≠ 0) && s.inCensus r.id (some (n, c))) = false := by
    rcases h with h | h
    · rw [decide_eq_false (not_not.mpr h)]
      rfl
    · rw [h]
      exact Bool.and_false _
  rw [slotSetFailure_of_fit hmapped hclaim hl hf, hpass]
  rfl

end

end State

/-- Settles O56: the census, slot records by their state, and the checks and the effect of a SLOT-SET (R1 to R6, R8, R15, R16, R19, R20). -/
theorem censusAndSlotSets : Obligations.CensusAndSlotSets := by
  unfold Obligations.CensusAndSlotSets
  refine ⟨State.inCensus_iff, fun s id but => ⟨s.inSlots_iff id but, s.inCarriage_iff id, s.inPlaceEntries_iff id⟩,
    fun v => ⟨v.mapped_iff, v.isOpen_iff, v.claim_eq_some_iff, v.ready_eq_some_iff, v.content_eq_some_iff⟩, rfl, rfl, rfl, rfl, ?sets⟩
  intro s h answer level code target r ht x a refused
  have hrefused {e : Reason} (hset : x.slotSet level code target r = (x, some e, [level, code])) : a = refused e :=
    requested_of_calm (q := .slotSet level code target r) ht hset rfl fun _ _ => rfl
  refine ⟨fun hb => hrefused (State.slotSet_of_bad hb), fun n c hl hc htarget => ?_⟩
  intro v fits content set told
  have hfail {e : Reason} (he : x.slotSetFailure n c r = some e) : a = refused e :=
    hrefused (State.slotSet_of_failure hl hc htarget he)
  refine ⟨fun hoff => hfail (State.slotSetFailure_of_off hoff), fun hk => hfail (State.slotSetFailure_of_claim hk),
    fun hm hk => ⟨fun hf => hfail (State.slotSetFailure_of_misfit (s := x) hm hk hl hf),
      fun hf hid hdup => hfail (State.slotSetFailure_of_duplicate (s := x) hm hk hl hf hid hdup), fun hf hgood => ?_⟩⟩
  have hset := State.slotSet_of_good (s := x) hl hc htarget (State.slotSetFailure_of_good (s := x) hm hk hl hf hgood)
  have hdeclared : x.declare n c (decide (target = 1)) r = if told then set.wantReeval else set.touch := by
    have hslot : declaredSlot (decide (target = 1)) content = if target = 1 then .opened content none else .fenced content :=
      if_congr decide_eq_true_iff rfl rfl
    show (if told then (x.setSlot n c (declaredSlot (decide (target = 1)) content)).wantReeval
      else (x.setSlot n c (declaredSlot (decide (target = 1)) content)).touch) = _
    rw [hslot]
  rw [hdeclared] at hset
  exact requested_of_exec (q := .slotSet level code target r) ht hset fun _ _ => rfl

end Sys2Proof.Machine

/-! ## An entry into SERVICE, and the first turn of a new cycle -/

namespace Sys2Proof.Machine.State
variable {s : State} {n : Level}

/-- A level in SERVICE is answered nothing: its WAITING entry is removed (R143, R149, R151). -/
theorem refuseWaiting_of_service (hp : (s.shuttle n).presence = .service) : s.refuseWaiting n = s.dropWaiting n := by
  unfold refuseWaiting dropWaiting
  cases he : s.entryOf (.shuttle n) with
  | none => rfl
  | some x =>
    obtain ⟨h, e⟩ := x
    have hparty : e.party = .shuttle n := ((entryOf_eq_some_iff s _ h e).mp he).2.1
    have hrefused : s.refuseEntry h e .service = s.removeEntry h e := by
      unfold refuseEntry refuse
      rw [hparty]
      exact congrArg (fun u : State => u.removeEntry h e) (sendShuttle_of_unpolled (.inl hp) _ _)
    dsimp only
    rw [hrefused]

/-- A level enters SERVICE: its record with the box empty, and what is left of it (R149, R151). -/
theorem intoService_eq (s : State) (n : Level) (m : Nat) : s.intoService n m =
    ((s.setShuttle n { s.shuttle n with presence := .service, miss := m, mark := false, box := [] }).levelLeft n .service).wantLook := by
  have hservice : ((s.setShuttle n { s.shuttle n with presence := .service, miss := m, mark := false }).shuttle n).presence = .service := by
    rw [shuttle_setShuttle_self]
  unfold intoService
  dsimp only
  rw [refuseWaiting_of_service hservice]
  exact congrArg State.wantLook (emptyBox_of_blind (blind_levelLeft n .service) s n
    { s.shuttle n with presence := .service, miss := m, mark := false })

/-- A new cycle begins with the lowest level that it includes (R137, R138). -/
theorem schedule_of_first (hi : s.bus.turn = .idle) (hn : s.bus.next = none) (hc : s.bus.cycle = false)
    (hincluded : ∀ probe, (s.shuttle n).presence.included probe = true)
    (hfirst : ∀ k, k < n → ∀ probe, ¬ (s.shuttle k).presence.included probe = true) :
    s.schedule = { s with bus := { s.bus with
      pos := none, next := some n, cycle := true, probeCycle := probes s.bus.probeCount s.timing.probeInterval } } := by
  have hbegin : s.bus.endCycle.beginCycle s.timing.probeInterval = { s.bus with
      pos := none, next := none, cycle := true, probeCycle := probes s.bus.probeCount s.timing.probeInterval } := by
    rw [Bus.endCycle_of_no_cycle hc]
    rfl
  have hseek : s.seek (s.bus.endCycle.beginCycle s.timing.probeInterval) = some n := by
    rw [hbegin, seek_eq_some_iff]
    exact ⟨fun _ => nofun, hincluded _, fun k hk _ => hfirst k hk _⟩
  have hstands : s.nextStands = false := nextStands_eq_false fun k hk => absurd (hn.symm.trans hk) (Option.some_ne_none k).symm
  rw [schedule_of_idle hi hstands, look_of_ended fun h => absurd (hc.symm.trans h) Bool.false_ne_true,
    if_pos (s.anyPolled_iff.mpr ⟨n, hincluded true⟩), newCycle_of_found hseek 256, hbegin]

/-- With a level polled and the bus idle, some level is to have the next turn (R137). -/
theorem exists_next_of_polled (hs : SchedulerFollows s) (hi : s.bus.turn = .idle) (hp : (s.shuttle n).presence.included true = true) :
    ∃ k, s.bus.next = some k ∧ (s.shuttle k).presence.included s.bus.probeCycle = true := by
  obtain ⟨-, hfound, hnone, -⟩ := hs
  cases hk : s.bus.next with
  | none => exact absurd hp (by rw [(hnone hi hk).2 n]; exact Bool.false_ne_true)
  | some k => exact ⟨k, rfl, (hfound k hk).2.1⟩

/-- With no level polled, no level is to have the next turn, and no cycle is under way (R138). -/
theorem no_cycle_of_unpolled (hs : SchedulerFollows s) (hi : s.bus.turn = .idle)
    (hno : ∀ k, ¬ (s.shuttle k).presence.included true = true) :
    s.bus.next = none ∧ s.bus.cycle = false ∧ s.bus.pos = none := by
  obtain ⟨-, hfound, hnone, hrest⟩ := hs
  have hn : s.bus.next = none := Option.eq_none_iff_forall_ne_some.mpr fun k hk => by
    obtain ⟨-, hstands, -⟩ := hfound k hk
    exact hno k ((included_iff _ _).mpr (((included_iff _ _).mp hstands).imp_right fun h => ⟨rfl, h.2⟩))
  exact ⟨hn, (hnone hi hn).1, (hrest (hnone hi hn).1).1⟩

/-- The end of a request that leaves the scheduler alone something to do. -/
theorem finish_wantLook (hw : s.work = { Work.done with reserved := s.work.reserved }) :
    s.wantLook.finish = { s with bus := s.wantLook.schedule.bus } := by
  have ht : s.wantLook.work.touched = false := by
    show s.work.touched = false
    rw [hw]
    rfl
  have hr : s.wantLook.work.raises = [] := by
    show s.work.raises = []
    rw [hw]
    rfl
  rw [finish_of_calm ht hr, lookDone_of_set rfl, schedule_eq]
  have hwork : { s.wantLook.work with touched := false, reeval := false, look := false, raises := [] } = s.work := by
    rw [wantLook, hw]
    rfl
  rw [hwork]
  rfl

/-! ### LIFT-SERVICE (R61) -/

section
variable {x : Lift}

theorem flushLift_keeps (s : State) (x : Lift) : s.flushLift x = { s with
    links := (s.setLink x { s.link x with down := (s.link x).down.filter (fun i => i.own || i.begun) }).links
    store := { s.store with upstream := (s.flushLift x).store.upstream, nfWait := (s.flushLift x).store.nfWait }
    work := { s.work with raises := (s.flushLift x).work.raises } } :=
  foldl_sendNotForwarded_keeps (fun i : DownItem => i.tel) .service ((s.link x).down.filter (fun i => !i.own && !i.begun))
    (s.setLink x { s.link x with down := (s.link x).down.filter (fun i => i.own || i.begun) })

theorem flushLift_of_room (h : s.upstreamUsed + ((s.link x).down.filter (fun i => !i.own && !i.begun)).length ≤ 64) :
    (s.flushLift x).store.upstream = s.store.upstream
        ++ ((s.link x).down.filter (fun i => !i.own && !i.begun)).map (fun i => s.notForwarded .service i.tel)
      ∧ (s.flushLift x).store.nfWait = s.store.nfWait ∧ (s.flushLift x).work.raises = s.work.raises := by
  have hsent := foldl_sendNotForwarded_of_room (fun i : DownItem => i.tel) .service
    ((s.link x).down.filter (fun i => !i.own && !i.begun))
    (s := s.setLink x { s.link x with down := (s.link x).down.filter (fun i => i.own || i.begun) }) h
  exact ⟨(congrArg (fun u : State => u.store.upstream) hsent :), (congrArg (fun u : State => u.store.nfWait) hsent :),
    (congrArg (fun u : State => u.work.raises) hsent :)⟩

theorem liftServiceOn_of_busy (h : ¬ s.Entryless (.lift x) ∨ (s.lift x).visit ≠ none) : s.liftServiceOn x = (s, some .busy) := by
  refine if_pos (Bool.or_eq_true_iff.mpr (h.imp (fun he => ?_) Option.isSome_iff_ne_none.mpr))
  exact Option.isSome_iff_ne_none.mpr fun hn => he ((entryOf_eq_none_iff s _).mp hn)

theorem liftServiceOn_of_free (he : s.Entryless (.lift x)) (hv : (s.lift x).visit = none) : s.liftServiceOn x
    = (((s.setLift x { s.lift x with presence := .service, askTimer := none }).flushLift x).touch, none) := by
  refine if_neg ?_
  unfold liftBusy
  rw [(entryOf_eq_none_iff s _).mpr he, hv]
  exact Bool.false_ne_true

theorem liftServiceOff_of_service (h : (s.lift x).presence = .service) : s.liftServiceOff x
    = ((s.setLift x { s.lift x with presence := .returning, askTimer := some 500 }).sendStateAsk x).touch := by
  unfold liftServiceOff
  rw [h]
  rfl

theorem liftServiceOff_of_other (h : (s.lift x).presence ≠ .service) : s.liftServiceOff x = s := by
  unfold liftServiceOff
  split
  · exact absurd ‹_› h
  all_goals rfl

end

/-! ### LEVEL-SERVICE (R151, R152) -/

section
variable {level : Byte}

theorem levelService_of_no_level (h : levelOf level = none) (on : Bool) : s.levelService level on = (s, some .unmapped, [level, 0]) := by
  unfold levelService
  rw [h]

variable (hl : level.toNat = n.val + 1)
include hl

theorem levelService_of_unmapped (h : s.levelMapped n = false) (on : Bool) :
    s.levelService level on = (s, some .unmapped, [level, (s.shuttle n).presence.byte]) := by
  unfold levelService
  rw [(levelOf_eq_some_iff level n).mpr hl]
  exact if_neg (Bool.eq_false_iff.mp h)

variable (hm : s.levelMapped n = true)
include hm

theorem levelService_on {t : State} {r : Option Reason} (h : s.levelServiceOn n = (t, r)) :
    s.levelService level true = (t, r, [level, (t.shuttle n).presence.byte]) := by
  unfold levelService
  rw [(levelOf_eq_some_iff level n).mpr hl]
  dsimp only
  rw [if_pos hm, if_pos rfl, h]

theorem levelService_off : s.levelService level false = (s.levelServiceOff n, none, [level, ((s.levelServiceOff n).shuttle n).presence.byte]) := by
  unfold levelService
  rw [(levelOf_eq_some_iff level n).mpr hl]
  dsimp only
  rw [if_pos hm, if_neg Bool.false_ne_true]

end

theorem shuttleGranted_iff : s.shuttleGranted n = true ↔ ∃ k e, s.entryOf (.shuttle n) = some (k, e) ∧ e.phase.isGranted = true := by
  unfold shuttleGranted
  cases he : s.entryOf (.shuttle n) with
  | none => simp
  | some x =>
    obtain ⟨k, e⟩ := x
    simp

theorem levelServiceOn_of_granted (h : s.shuttleGranted n = true) : s.levelServiceOn n = (s, some .busy) := if_pos h

theorem levelServiceOn_of_service (h : ¬ s.shuttleGranted n = true) (hp : (s.shuttle n).presence = .service) :
    s.levelServiceOn n = (s, none) := by
  unfold levelServiceOn
  rw [if_neg h, hp]

theorem levelServiceOn_of_polled (h : ¬ s.shuttleGranted n = true)
    (hp : (s.shuttle n).presence = .returning ∨ (s.shuttle n).presence = .online ∨ (s.shuttle n).presence = .absent) :
    s.levelServiceOn n = (s.intoService n 0, none) := by
  unfold levelServiceOn
  rw [if_neg h]
  rcases hp with hp | hp | hp <;> rw [hp]

theorem levelServiceOff_of_service (hp : (s.shuttle n).presence = .service) : s.levelServiceOff n
    = (s.setShuttle n { s.shuttle n with presence := .returning, miss := 0, mark := true }).wantLook := by
  unfold levelServiceOff
  dsimp only
  rw [hp]

theorem levelServiceOff_of_other (hp : (s.shuttle n).presence ≠ .service) : s.levelServiceOff n = s := by
  unfold levelServiceOff
  dsimp only
  split
  · exact absurd ‹_› hp
  all_goals rfl

end Sys2Proof.Machine.State

/-! ## Service of levels and lifts (O57) -/

namespace Sys2Proof.Machine

section
variable {s : State} {h : StoreHdr} {answer : Bool} {level : Byte} {o : Bool} (ht : Takes s h answer)
include ht

theorem levelService_answered {t : State} {r : Option Reason} {p : Byte}
    (hs : (s.storeHunt.executing h.tag answer (.levelService level o)).levelService level o = (t, r, [level, p])) :
    requested h (.levelService level o) s = .next (t.finish.executed h.tag answer 0x31 r [level, p]) :=
  requested_of_exec ht hs fun _ _ => rfl

theorem levelService_unchanged {r : Option Reason} {p : Byte}
    (hs : (s.storeHunt.executing h.tag answer (.levelService level o)).levelService level o
      = (s.storeHunt.executing h.tag answer (.levelService level o), r, [level, p])) :
    requested h (.levelService level o) s
      = .next ((s.storeHunt.executing h.tag answer (.levelService level o)).executed h.tag answer 0x31 r [level, p]) :=
  requested_of_calm ht hs rfl fun _ _ => rfl

end

/-- Settles O57: LEVEL-SERVICE and LIFT-SERVICE, refused and carried out, and an entry into SERVICE (R56, R61, R138, R149, R151, R152). -/
theorem services : Obligations.Services := by
  unfold Obligations.Services
  refine ⟨?levels, ?lifts, ?enters, rfl⟩
  case enters =>
    intro s n m u answered
    refine ⟨fun h e he hg => ?_, fun hg => ?_, rfl⟩
    · exact (s.intoService_eq n m).trans (congrArg State.wantLook (u.levelLeft_of_waiting n .service he hg))
    · exact (s.intoService_eq n m).trans (congrArg State.wantLook (u.levelLeft_of_all_granted n .service hg))
  case lifts =>
    intro s h answer y ht x on off answered k
    have hoff {u : State} (hu : (x false).liftServiceOff y = u) : off = answered u.finish none :=
      requested_of_exec (q := .liftService y false) ht (congrArg (fun v : State => (v, none, [])) hu) fun _ _ => rfl
    refine ⟨fun hb => ?busy, fun he hv => ?on, fun hp => ?off, fun hp => ?stays⟩
    case busy =>
      exact requested_of_calm (q := .liftService y true) ht
        (congrArg (Machine.answered · []) (State.liftServiceOn_of_busy (s := x true) hb)) rfl fun _ _ => rfl
    case on =>
      intro gone
      let u := (x true).setLift y { s.lift y with presence := .service, askTimer := none }
      have hkeeps := u.flushLift_keeps y
      refine ⟨(u.flushLift y).touch, ?_, ?_, ?_, ?_, ?_, fun hroom => ?_, ?_, ?_, ?_⟩
      · exact requested_of_exec (q := .liftService y true) ht
          (congrArg (Machine.answered · []) (State.liftServiceOn_of_free (s := x true) he hv)) fun _ _ => rfl
      · exact (congrArg (fun v : State => v.lift y) hkeeps :).trans ((x true).lift_setLift_self y _)
      · exact (congrArg (fun v : State => v.lift y.other) hkeeps :).trans ((x true).lift_setLift_ne y _ _ (Lift.other_ne y).symm)
      · exact (congrArg (fun v : State => v.link y) hkeeps :).trans (u.link_setLink_self y _)
      · exact (congrArg (fun v : State => v.link y.other) hkeeps :).trans (u.link_setLink_ne y _ _ (Lift.other_ne y).symm)
      · have hused : u.upstreamUsed = s.store.upstream.length + (if answer then 1 else 0) := rfl
        have hplace : (if answer then 1 else 0) ≤ 1 := by split <;> omega
        have hfits : u.upstreamUsed + gone.length ≤ 64 := by omega
        obtain ⟨hupstream, hwait, hraises⟩ := State.flushLift_of_room (s := u) (x := y) hfits
        exact ⟨hupstream, hwait, hraises.trans (congrArg Work.raises ht.rests)⟩
      all_goals
        generalize u.flushLift y = v at hkeeps ⊢
        rw [hkeeps]
        rfl
    case off =>
      intro u ask
      refine ⟨fun hroom => hoff ?_, fun hfull => hoff ?_⟩
      · exact (State.liftServiceOff_of_service (s := x false) hp).trans (congrArg State.touch (State.sendStateAsk_of_room (s := u) hroom))
      · exact (State.liftServiceOff_of_service (s := x false) hp).trans (congrArg State.touch (State.sendStateAsk_of_full (s := u) hfull))
    case stays =>
      exact requested_of_calm (q := .liftService y false) ht
        (congrArg (fun v : State => (v, none, [])) (State.liftServiceOff_of_other (s := x false) hp)) rfl fun _ _ => rfl
  case levels =>
    intro s h answer level ht x on off answered
    refine ⟨fun hb => ⟨?_, ?_⟩, fun n hl => ?level⟩
    · exact levelService_unchanged ht (State.levelService_of_no_level (levelOf_of_beyond hb) true)
    · exact levelService_unchanged ht (State.levelService_of_no_level (levelOf_of_beyond hb) false)
    intro r granted
    have hgranted (o : Bool) : (x o).shuttleGranted n = true ↔ granted := State.shuttleGranted_iff
    refine ⟨fun hm => ⟨levelService_unchanged ht (State.levelService_of_unmapped (s := x true) hl hm true),
      levelService_unchanged ht (State.levelService_of_unmapped (s := x false) hl hm false)⟩, fun hm => ?mapped⟩
    refine ⟨fun hg => ?busy, fun hg hp => ?already, fun hg hp => ?enters, fun hp => ?leaves, fun hp => ?stays⟩
    case busy =>
      exact levelService_unchanged ht (State.levelService_on (s := x true) hl hm (State.levelServiceOn_of_granted ((hgranted true).mpr hg)))
    case already =>
      have hbyte : r.presence.byte = 4 := by rw [hp]; rfl
      rw [← hbyte]
      exact levelService_unchanged ht (State.levelService_on (s := x true) hl hm
        (State.levelServiceOn_of_service (mt (hgranted true).mp hg) hp))
    case stays =>
      have hservice := State.levelService_off (s := x false) hl hm
      rw [State.levelServiceOff_of_other (s := x false) hp] at hservice
      exact levelService_unchanged ht hservice
    case enters =>
      let w := (x true).setShuttle n { s.shuttle n with presence := .service, miss := 0, mark := false, box := [] }
      let t := (w.levelLeft n .service).wantLook
      have hinto : (x true).intoService n 0 = t := (x true).intoService_eq n 0
      have hkeeps := w.levelLeft_keeps n .service
      have hshuttle (k : Level) : t.shuttle k = w.shuttle k := (congrArg (fun v : State => v.shuttle k) hkeeps :)
      have hself : t.shuttle n = ⟨.service, 0, false, r.firmware, []⟩ := (hshuttle n).trans ((x true).shuttle_setShuttle_self n _)
      have hother {k : Level} (hk : k ≠ n) : t.shuttle k = s.shuttle k :=
        (hshuttle k).trans ((x true).shuttle_setShuttle_ne n k _ (Ne.symm hk))
      have hbus : t.bus = { s.bus with queue := s.bus.queue.filter (fun i => i.level ≠ n) } := (congrArg State.bus hkeeps :)
      have hfinish : t.finish.bus = t.schedule.bus := (State.finish_bus t).trans (congrArg State.bus (State.lookDone_of_set rfl))
      have hturn : t.bus.turn = s.bus.turn := by rw [hbus]
      have hnext : t.bus.next = s.bus.next := by rw [hbus]
      have hprobe : t.bus.probeCycle = s.bus.probeCycle := by rw [hbus]
      have hpolled : (s.shuttle n).presence.included true = true :=
        (included_iff _ _).mpr (hp.elim (fun h => .inl (.inr h)) (Or.imp .inl fun h => ⟨rfl, h⟩))
      refine ⟨t, ?_, hinto.symm, hself, fun k hk => hother hk, fun k e he => ?_, fun he => ?_, hbus, (congrArg State.coord hkeeps :),
        fun hcalm => ?_, fun hi hn => ?_, fun hroom => ?_⟩
      · have hservice := State.levelService_on (s := x true) hl hm (State.levelServiceOn_of_polled (mt (hgranted true).mp hg) hp)
        rw [hinto, hself] at hservice
        exact levelService_answered ht hservice
      · exact w.entry_levelLeft n .service he (Bool.eq_false_iff.mpr fun hgr => hg ⟨k, e, he, hgr⟩)
      · exact w.table_levelLeft n .service fun h' e' he' => absurd (he.symm.trans he') (Option.some_ne_none _).symm
      · rw [hfinish]
        by_cases hi : s.bus.turn = .idle
        · obtain ⟨hs, hne⟩ := hcalm.resolve_left (not_not.mpr hi)
          obtain ⟨k, hk, hincluded⟩ := State.exists_next_of_polled hs hi hpolled
          have hstands : t.nextStands = true := by
            rw [State.nextStands_of_some (hnext.trans hk), hprobe, hother fun h => hne (h ▸ hk)]
            exact hincluded
          rw [State.schedule_of_stands hstands]
        · rw [State.schedule_of_turn (by rw [hturn]; exact hi)]
      · have hstands : t.nextStands = false := by
          rw [State.nextStands_of_some (hnext.trans hn), hself]
          rfl
        rw [hfinish, State.schedule_of_idle (hturn.trans hi) hstands]
      · have hused : w.upstreamUsed = s.store.upstream.length + (if answer then 1 else 0) := rfl
        have hplace : (if answer then 1 else 0) ≤ 1 := by split <;> omega
        have hfits : w.upstreamUsed + (w.waitingFor n).length ≤ 63 := by
          have hwaiting : (w.waitingFor n).length = (s.waitingFor n).length := rfl
          omega
        exact (State.notForwardeds_levelLeft hfits .service).1
    case leaves =>
      intro y polled
      have hself : (y.shuttle n).presence = .returning := congrArg ShuttleRec.presence ((x false).shuttle_setShuttle_self n _)
      have hother {k : Level} (hk : k ≠ n) : y.shuttle k = s.shuttle k := (x false).shuttle_setShuttle_ne n k _ (Ne.symm hk)
      have hpolls (k : Level) : (s.shuttle k).presence.included true = true ↔
          (s.shuttle k).presence = .online ∨ (s.shuttle k).presence = .returning ∨ (s.shuttle k).presence = .absent := by
        rw [included_iff]
        simp only [true_and, or_assoc]
      have hoff : off = answered y.wantLook.finish none 1 := by
        have hservice := State.levelService_off (s := x false) hl hm
        have hleft : (x false).levelServiceOff n = y.wantLook := State.levelServiceOff_of_service (s := x false) hp
        have hbyte : (y.wantLook.shuttle n).presence.byte = 1 := congrArg LevelPresence.byte hself
        rw [hleft, hbyte] at hservice
        exact levelService_answered ht hservice
      have hfinish : y.wantLook.finish = { y with bus := y.wantLook.schedule.bus } := by
        refine State.finish_wantLook ?_
        show { s.work with reserved := answer } = { Work.done with reserved := answer }
        rw [ht.rests]
      have hcalm (hstill : y.wantLook.schedule = y.wantLook) : off = answered y none 1 := by
        rw [hoff, hfinish, hstill]
        rfl
      refine ⟨hoff, fun hturn => hcalm (State.schedule_of_turn hturn), fun hs hpoll => hcalm ?_, fun hs hno hi => ?_⟩
      · by_cases hi : s.bus.turn = .idle
        · obtain ⟨k, hk⟩ := hpoll
          obtain ⟨m, hm', hincluded⟩ := State.exists_next_of_polled hs hi ((hpolls k).mpr hk)
          have hne : m ≠ n := fun heq => by
            rw [heq, show (s.shuttle n).presence = .service from hp] at hincluded
            exact Bool.false_ne_true hincluded
          refine State.schedule_of_stands ((State.nextStands_of_some (s := y.wantLook) hm').trans ?_)
          show (y.shuttle m).presence.included s.bus.probeCycle = true
          rw [hother hne]
          exact hincluded
        · exact State.schedule_of_turn hi
      · have hunpolled (k : Level) : ¬ (s.shuttle k).presence.included true = true := fun hk => hno ⟨k, (hpolls k).mp hk⟩
        obtain ⟨hn, hc, hpos⟩ := State.no_cycle_of_unpolled hs hi hunpolled
        have hfirst := State.schedule_of_first (s := y.wantLook) (n := n) hi hn hc
          (fun probe => by rw [show (y.wantLook.shuttle n).presence = .returning from hself]; rfl) fun k hk probe hincluded => by
            rw [show y.wantLook.shuttle k = s.shuttle k from hother hk.ne] at hincluded
            exact hunpolled k ((included_iff _ _).mpr (((included_iff _ _).mp hincluded).imp_right fun h => ⟨rfl, h.2⟩))
        rw [hoff, hfinish, hfirst]
        rfl

end Sys2Proof.Machine

/-! ## Reads of slots, streams and lifts (O58) -/

namespace Sys2Proof.Machine

/-- A read that is taken is answered with what it finds, and changes nothing (R184). -/
theorem read_answered {s : State} {h : StoreHdr} {answer : Bool} {q : Req} {r : Option Reason} {d : List Byte} (ht : Takes s h answer)
    (hread : (s.storeHunt.executing h.tag answer q).execReq q = (s.storeHunt.executing h.tag answer q, r, d))
    (hdata : ∀ (t : State) d, t.answerData q d = d) :
    requested h q s = .next ((s.storeHunt.executing h.tag answer q).executed h.tag answer q.code r d) :=
  requested_of_unchanged (a := (r, d)) ht hread hdata

/-! ### Ranges of levels (R21, R154) -/

theorem rangeOf_of_bad {first last : Byte} (h : first = 0 ∨ 40 < first.toNat ∨ last = 0 ∨ 40 < last.toNat) (most : Nat) :
    rangeOf most first last = .inl .badSlot := by
  have hnone : levelOf first = none ∨ levelOf last = none := by
    rcases h with h | h | h | h
    · exact .inl (levelOf_of_beyond (.inl h))
    · exact .inl (levelOf_of_beyond (.inr h))
    · exact .inr (levelOf_of_beyond (.inl h))
    · exact .inr (levelOf_of_beyond (.inr h))
  unfold rangeOf
  rcases hnone with h | h
  · rw [h]
  · rw [h]
    cases levelOf first <;> rfl

section
variable {first last : Byte} {n m : Level} (hn : first.toNat = n.val + 1) (hm : last.toNat = m.val + 1)
include hn hm

theorem rangeOf_of_levels (most : Nat) :
    rangeOf most first last = if m.val < n.val ∨ n.val + most ≤ m.val then .inl .badCount else .inr (levelsIn n m) := by
  unfold rangeOf
  rw [(levelOf_eq_some_iff first n).mpr hn, (levelOf_eq_some_iff last m).mpr hm]

theorem rangeOf_of_turned {most : Nat} (h : m < n ∨ n.val + most ≤ m.val) : rangeOf most first last = .inl .badCount :=
  (rangeOf_of_levels hn hm most).trans (if_pos h)

theorem rangeOf_of_good {most : Nat} (hle : n ≤ m) (hlt : m.val < n.val + most) :
    rangeOf most first last = .inr ((List.finRange 40).filter (fun l => n ≤ l && l ≤ m)) :=
  (rangeOf_of_levels hn hm most).trans (if_neg fun h => h.elim (not_lt.mpr hle) (not_le.mpr hlt))

end

theorem RelEntry.bytes_eq (e : RelEntry) :
    e.bytes = be32 e.id ++ [(if e.barred then 1 else 0) + (if e.pledged then 2 else 0)] := by
  unfold RelEntry.bytes byte
  simp only [BitVec.ofNat_add, apply_ite (BitVec.ofNat 8)]
  rfl

namespace State
variable {s : State}

theorem readSlot_of_bad {a b : Byte} (h : a = 0 ∨ 40 < a.toNat ∨ b = 0 ∨ 6 < b.toNat) : s.readSlot a b = (some .badSlot, []) := by
  have hnone : levelOf a = none ∨ slotCodeOf b = none := by
    rcases h with h | h | h | h
    · exact .inl (levelOf_of_beyond (.inl h))
    · exact .inl (levelOf_of_beyond (.inr h))
    · exact .inr (slotCodeOf_of_beyond (.inl h))
    · exact .inr (slotCodeOf_of_beyond (.inr h))
  unfold readSlot
  rcases hnone with h | h
  · rw [h]
  · rw [h]
    cases levelOf a <;> rfl

theorem readSlot_of_slot {a b : Byte} {n : Level} {c : SlotCode} (ha : a.toNat = n.val + 1) (hb : b = c.byte) :
    s.readSlot a b = (none, [a, b] ++ (s.slot n c).bytes) := by
  unfold readSlot
  rw [(levelOf_eq_some_iff a n).mpr ha, hb, slotCodeOf_byte]

theorem readRange_of_bad {a b : Byte} {r : Reason} (h : rangeOf 7 a b = .inl r) : s.readRange a b = (some r, []) := by
  unfold readRange
  rw [h]

theorem readRange_of_levels {a b : Byte} {ns : List Level} (h : rangeOf 7 a b = .inr ns) :
    s.readRange a b = (none, [a, b] ++ ns.flatMap (fun n => SlotCode.all.map (fun c => (s.slot n c).summary))) := by
  unfold readRange
  rw [h]

/-! ### Streams and lifts (R77, R103) -/

theorem streamMarks_eq (i : StreamNo) : s.streamMarks i = (if (s.stream i).row.routed then 1 else 0)
    + (if (s.stream i).active = .b then 2 else 0) + (if (s.stream i).switchPending then 4 else 0)
    + (if s.custody i .a then 8 else 0) + (if s.custody i .b then 16 else 0) + (if (s.stream i).lowMarker then 32 else 0) := by
  unfold streamMarks byte
  simp only [BitVec.ofNat_add, apply_ite (BitVec.ofNat 8)]
  rfl

theorem readStream_of_no_stream {b : Byte} (h : 16 < b.toNat) (pos : Byte) : s.readStream b pos = (some .noRoute, []) := by
  have hnone : streamOf b = none := by
    rw [Option.eq_none_iff_forall_ne_some]
    intro i hi
    have := (streamOf_eq_some_iff b i).mp hi
    omega
  unfold readStream
  rw [hnone]

theorem readStream_of_stream {b : Byte} {i : StreamNo} (h : b.toNat = i.val) (pos : Byte) : s.readStream b pos
    = (none, [b, s.streamMarks i] ++ be32 (s.stream i).delivered ++ if i = 0 then [] else
      [byte (s.stream i).list.length] ++ be16 (BitVec.ofNat 16 s.poolFree) ++ be32 (s.stream i).released
        ++ (((s.stream i).list.drop pos.toNat).take 6).flatMap RelEntry.bytes) := by
  unfold readStream
  rw [(streamOf_eq_some_iff b i).mpr h]
  dsimp only
  split
  · rw [List.append_nil]
  · simp only [List.append_assoc]

end State

theorem carriageBytes_eq {c : List ToteRec} (h : c.length ≤ 2) :
    carriageBytes c = c.flatMap toteBytes ++ List.replicate (12 - 6 * c.length) 0 := by
  match c, h with
  | [], _ => rfl
  | [a], _ => rfl
  | [a, b], _ => rfl

/-- Settles O58: the slot read, the level range read, and the reads of a stream and of a lift (R2, R21, R77, R103). -/
theorem slotStreamAndLiftReads : Obligations.SlotStreamAndLiftReads := by
  unfold Obligations.SlotStreamAndLiftReads
  refine ⟨?slots, ?others⟩
  case slots =>
    intro s h answer a b ht read x range y none record asked fields short
    have hrecord (c : Option Content) : optionBytes 10 (fun c => toteBytes c.tote ++ be32 c.stamp) c = record c := by
      cases c <;> rfl
    have hasked (k : Kind) : k.ask = asked k := by cases k <;> rfl
    have hfields (v : Slot) : v.bytes = fields v := by
      unfold Slot.bytes
      rw [hrecord]
      cases v with
      | off => rfl
      | fenced c => rfl
      | opened c k =>
        cases k with
        | none => rfl
        | some k =>
          simp only [Slot.claim, optionBytes, hasked]
          rfl
      | doubt c w k r => cases w <;> cases k <;> cases r <;> rfl
    have hshort (v : Slot) : v.summary = short v := by
      cases v with
      | off => rfl
      | fenced c => cases c <;> rfl
      | doubt c w k r => cases c <;> rfl
      | opened c k =>
        cases k with
        | none => cases c <;> rfl
        | some k =>
          obtain ⟨kind, handle, id⟩ := k
          cases c <;> cases kind <;> rfl
    refine ⟨fun hb => ?badSlot, fun n c ha hb => ?slot, fun hb => ?badRange, fun n m hn hm => ⟨fun h => ?turned, fun hle hlt => ?range⟩⟩
    case badSlot => exact read_answered (q := .slotRead a b) ht (congrArg (Prod.mk _) (State.readSlot_of_bad (s := x) hb)) fun _ _ => rfl
    case slot =>
      have hread := State.readSlot_of_slot (s := x) ha hb
      rw [hfields] at hread
      exact read_answered (q := .slotRead a b) ht (congrArg (Prod.mk _) hread) fun _ _ => rfl
    case badRange =>
      exact read_answered (q := .levelRange a b) ht (congrArg (Prod.mk _) (State.readRange_of_bad (s := y) (rangeOf_of_bad hb 7))) fun _ _ => rfl
    case turned =>
      exact read_answered (q := .levelRange a b) ht (congrArg (Prod.mk _) (State.readRange_of_bad (s := y) (rangeOf_of_turned hn hm h))) fun _ _ => rfl
    case range =>
      have hread := State.readRange_of_levels (s := y) (rangeOf_of_good hn hm hle hlt)
      simp only [hshort] at hread
      exact read_answered (q := .levelRange a b) ht (congrArg (Prod.mk _) hread) fun _ _ => rfl
  case others =>
    intro s h answer ht x
    refine ⟨fun stream pos hs => ?noStream, fun stream pos i hi => ?stream, fun y => ?lift⟩
    case noStream =>
      exact read_answered (q := .streamRead stream pos) ht (congrArg (Prod.mk _) (State.readStream_of_no_stream hs pos)) fun _ _ => rfl
    case stream =>
      intro t marks free
      have hread := State.readStream_of_stream (s := x (.streamRead stream pos)) hi pos
      have hentries : RelEntry.bytes = fun e => be32 e.id ++ [(if e.barred then 1 else 0) + (if e.pledged then 2 else 0)] :=
        funext RelEntry.bytes_eq
      rw [State.streamMarks_eq, hentries] at hread
      exact read_answered (q := .streamRead stream pos) ht (congrArg (Prod.mk _) hread) fun _ _ => rfl
    case lift =>
      intro l state
      refine ⟨fun hlen => ?_, fun pos => read_answered (q := .callRead y pos) ht rfl fun _ _ => rfl⟩
      have hstate : l.presence.byte = state := by
        simp only [state]
        cases l.presence <;> rfl
      refine (read_answered (q := .carriageRead y) ht rfl fun _ _ => rfl).trans ?_
      refine congrArg (fun d => Host.Outcome.next (State.executed _ h.tag answer 0x53 none d)) ?_
      show [y.station, l.presence.byte, l.firmware.getD 0, byte l.carriage.length] ++ carriageBytes l.carriage
        ++ optionBytes 7 (fun v => [levelByte v.level, byte v.p, byte v.f] ++ be32 v.timer) l.visit = _
      rw [hstate, carriageBytes_eq hlen, ← List.append_assoc]
      refine congrArg₂ (· ++ ·) rfl ?_
      cases l.visit <;> rfl

end Sys2Proof.Machine

/-! ## Reads of presence, statistics, time and status (O60) -/

namespace Sys2Proof.Machine

theorem partyOf_eq_none {b : Byte} (h : b = 0 ∨ 42 < b.toNat) : partyOf b = none := by
  rcases h with rfl | h
  · rfl
  · exact partyOf_eq_none_of_beyond h

namespace State
variable {s : State}

theorem readPresence_of_bad {a b : Byte} {r : Reason} (h : rangeOf 10 a b = .inl r) : s.readPresence a b = (some r, []) := by
  unfold readPresence
  rw [h]

theorem readPresence_of_levels {a b : Byte} {ns : List Level} (h : rangeOf 10 a b = .inr ns) :
    s.readPresence a b = (none, [s.bus.probeCount, markByte s.bus.probeCycle] ++ ns.flatMap s.presenceBytes) := by
  unfold readPresence
  rw [h]

/-! ### Statistics (R53, R188) -/

theorem readStats_of_no_party {b : Byte} (h : b = 0 ∨ 42 < b.toNat) : s.readStats b = (some .badCount, []) := by
  unfold readStats
  rw [partyOf_eq_none h]

theorem readStats_of_party {b : Byte} (h1 : 1 ≤ b.toNat) (h42 : b.toNat ≤ 42) :
    s.readStats b = (none, b :: (statParties b).flatMap (fun i => (s.stats[i]).bytes)) := by
  obtain ⟨p, hp⟩ := partyOf_of_station h1 h42
  unfold readStats
  rw [hp]

theorem readClearStats_of_no_party {b : Byte} (h : b = 0 ∨ 42 < b.toNat) : s.readClearStats b = (s, some .badCount, []) := by
  unfold readClearStats
  rw [partyOf_eq_none h]

theorem readClearStats_of_party {b : Byte} (h1 : 1 ≤ b.toNat) (h42 : b.toNat ≤ 42) :
    s.readClearStats b = (s.clearLargest b, s.readStats b) := by
  obtain ⟨p, hp⟩ := partyOf_of_station h1 h42
  unfold readClearStats
  rw [hp]

theorem stats_clearLargest (s : State) (b : Byte) (i : PartyNo) :
    (s.clearLargest b).stats[i] = if i ∈ statParties b then { s.stats[i] with largest := 0 } else s.stats[i] := by
  unfold clearLargest
  simp only [Fin.getElem_fin, getElem_vmap, List.contains_iff_mem]

/-! ### The status summary (R189) -/

theorem outputByte_eq (s : State) : s.outputByte = (if s.modeCtl.motion then 1 else 0) + (if s.notices.attention then 2 else 0)
    + (if s.modeCtl.stop then 4 else 0) := by
  unfold outputByte byte
  simp only [BitVec.ofNat_add, apply_ite (BitVec.ofNat 8)]
  rfl

theorem length_entries (s : State) : s.entries.length = ((List.finRange 32).filter (fun k : Handle => (s.entry k).isSome)).length := by
  have hmap := map_filterMap_of_passes (f := fun h : Handle => (s.entry h).map (fun e => (h, e))) (g := fun _ => ()) (g' := fun _ => ())
    (p := fun k => (s.entry k).isSome) (fun k => by rw [Option.isSome_map]) (fun _ _ _ => rfl) (List.finRange 32)
  have hlength := congrArg List.length hmap
  rw [List.length_map, List.length_map] at hlength
  exact hlength

end State

/-- Settles O60: the presence read, the statistics reads, the aisle time and the status summary (R53, R154, R188, R189). -/
theorem presenceAndStatusReads : Obligations.PresenceAndStatusReads := by
  unfold Obligations.PresenceAndStatusReads
  intro s h answer ht x
  refine ⟨fun a b => ?presence, fun b => ⟨fun hb => ⟨?noRead, ?noClear⟩, fun h0 h42 => ?stats⟩, ?time, ?summary⟩
  case presence =>
    intro read y
    refine ⟨fun hb => ?_, fun n m hn hm => ⟨fun hturned => ?_, fun hle hlt => ?_⟩⟩
    · exact read_answered (q := .presenceRead a b) ht (congrArg (Prod.mk _) (State.readPresence_of_bad (s := y) (rangeOf_of_bad hb 10))) fun _ _ => rfl
    · exact read_answered (q := .presenceRead a b) ht (congrArg (Prod.mk _) (State.readPresence_of_bad (s := y) (rangeOf_of_turned hn hm hturned)))
        fun _ _ => rfl
    · refine (read_answered (q := .presenceRead a b) ht (congrArg (Prod.mk _) (State.readPresence_of_levels (s := y) (rangeOf_of_good hn hm hle hlt)))
        fun _ _ => rfl).trans ?_
      refine congrArg (fun d => Host.Outcome.next (State.executed _ h.tag answer 0x57 none d)) (congrArg₂ (· ++ ·) rfl ?_)
      refine congrArg (fun f => List.flatMap f _) (funext fun l => ?_)
      show s.presenceBytes l = _
      unfold State.presenceBytes
      dsimp only
      cases (s.shuttle l).presence <;> rfl
  case noRead => exact read_answered (q := .statsRead b) ht (congrArg (Prod.mk _) (State.readStats_of_no_party hb)) fun _ _ => rfl
  case noClear => exact read_answered (q := .statsClear b) ht (State.readClearStats_of_no_party hb) fun _ _ => rfl
  case stats =>
    intro given data
    have h1 : 1 ≤ b.toNat := Nat.one_le_iff_ne_zero.mpr fun hz => h0 (BitVec.eq_of_toNat_eq hz)
    have hgiven : statParties b = given := List.filter_congr fun i _ => by
      congr 1
      rw [decide_eq_decide]
      omega
    have hread (u : State) (hu : u.stats = s.stats) : u.readStats b = (none, data) := by
      rw [State.readStats_of_party h1 h42, hgiven, hu]
      rfl
    refine ⟨read_answered (q := .statsRead b) ht (congrArg (Prod.mk _) (hread _ rfl)) fun _ _ => rfl,
      (x (.statsClear b)).clearLargest b, ?_, fun i => ?_, rfl⟩
    · exact requested_of_calm (q := .statsClear b) ht
        ((State.readClearStats_of_party h1 h42).trans (congrArg (Prod.mk _) (hread _ rfl))) rfl fun _ _ => rfl
    · rw [← hgiven]
      exact (x (.statsClear b)).stats_clearLargest b i
  case time => exact read_answered (q := .timeRead) ht rfl fun _ _ => rfl
  case summary =>
    refine (read_answered (q := .summary) ht rfl fun _ _ => rfl).trans ?_
    refine congrArg (fun d => Host.Outcome.next (State.executed _ h.tag answer 0x5B none d)) ?_
    show [s.mode.byte, s.outputByte, leadByte s.leadFault, s.notices.pending.byte, s.notices.enabled.byte] ++ be16 s.lowSet
      ++ [s.modeCtl.resumeDefault.byte, Config.firmwareMajor, Config.firmwareMinor, s.store.unique, byte s.entries.length,
        byte s.openVisits, byte s.store.upstream.length, 1] ++ be32 s.time = _
    have hdefault : s.modeCtl.resumeDefault.byte = if s.modeCtl.resumeDefault = .reissue then 1 else 2 := by
      cases s.modeCtl.resumeDefault <;> rfl
    rw [State.outputByte_eq, State.length_entries, hdefault]
    cases s.leadFault <;> rfl

end Sys2Proof.Machine

/-! ## Entries refused and removed one after another (R52, R161, R166 to R168) -/

namespace Sys2Proof.Machine

/-- A level's record after an answer for its shuttle: in SERVICE and UNMAPPED the answer is discarded (R39, R143). -/
def handed (v : ShuttleRec) (t : Tel) (about : Option Handle) : ShuttleRec :=
  if v.presence = .service ∨ v.presence = .unmapped then v else { v with box := putBox v.box t about }

/-- A claim that has sent its slot into DOUBT is no claim any more, so its release changes nothing. -/
theorem Slot.unclaim_ended_doubted (h : Handle) (p : Party) (cause : DoubtCause) (v : Slot) :
    (v.ended h (Slot.doubted p h cause)).ended h Slot.unclaim = v.ended h (Slot.doubted p h cause) := by
  cases v with
  | opened content k =>
    cases k with
    | none => rfl
    | some k => by_cases hk : k.handle = h <;> simp [ended, doubted, hk]
  | _ => rfl

/-- A slot of which an entry is no owner is left as it is. -/
theorem Slot.ended_of_no_claim {h : Handle} {v : Slot} (hv : ∀ k ∈ v.claim, k.handle ≠ h) (g : Option Content → Claim → Slot) :
    v.ended h g = v := by
  cases v with
  | opened content k =>
    cases k with
    | none => rfl
    | some k => exact if_neg (hv k rfl)
  | _ => rfl

namespace State

theorem polled_of_not {p : LevelPresence} (h : ¬ (p = .service ∨ p = .unmapped)) : p = .returning ∨ p = .online ∨ p = .absent := by
  cases p <;> simp_all

theorem shuttle_sendShuttle (s : State) (m n : Level) (t : Tel) (about : Option Handle) :
    (s.sendShuttle m t about).shuttle n = if n = m then handed (s.shuttle m) t about else s.shuttle n := by
  unfold handed
  by_cases hp : (s.shuttle m).presence = .service ∨ (s.shuttle m).presence = .unmapped
  · rw [sendShuttle_of_unpolled hp, if_pos hp]
    split
    next h => rw [h]
    · rfl
  · rw [sendShuttle_of_polled (polled_of_not hp), if_neg hp]
    split
    next h => rw [h, shuttle_setShuttle_self]
    next h => exact shuttle_setShuttle_ne _ _ _ _ (Ne.symm h)

/-- An answer is what the ports make it (R39, R128). -/
theorem sendParty_of_ports {s u : State} (hl : u.links = s.links) (hs : u.shuttles = s.shuttles)
    (hr : u.work.raises = s.work.raises) (p : Party) (t : Tel) (about : Option Handle) : u.sendParty p t about = { u with
      links := (s.sendParty p t about).links, shuttles := (s.sendParty p t about).shuttles
      work := { u.work with raises := (s.sendParty p t about).work.raises } } := by
  cases p with
  | shuttle n =>
    have hn : u.shuttle n = s.shuttle n := by rw [shuttle, hs, shuttle]
    unfold sendParty
    dsimp only
    by_cases hp : (s.shuttle n).presence = .service ∨ (s.shuttle n).presence = .unmapped
    · rw [sendShuttle_of_unpolled hp, sendShuttle_of_unpolled (s := u) (by rw [hn]; exact hp), ← hl, ← hs, ← hr]
    · rw [sendShuttle_of_polled (polled_of_not hp), sendShuttle_of_polled (s := u) (by rw [hn]; exact polled_of_not hp), hn]
      unfold setShuttle
      rw [← hl, ← hs, ← hr]
  | lift y =>
    have hy : u.link y = s.link y := by rw [link, hl, link]
    unfold sendParty
    dsimp only
    by_cases hroom : (s.link y).down.length < 8
    · rw [sendLift_of_room hroom, sendLift_of_room (s := u) (by rw [hy]; exact hroom), hy]
      unfold setLink
      rw [← hl, ← hs, ← hr]
    · rw [sendLift_of_full (not_lt.mp hroom), sendLift_of_full (s := u) (by rw [hy]; exact not_lt.mp hroom)]
      unfold raise
      rw [← hl, ← hs, ← hr]

/-! ### One entry -/

/-- The REFUSE to the party of an entry, with its handle and its tag (R52). -/
def refusal (s : State) (r : Reason) (x : Handle × Entry) : Tel :=
  s.toParty x.2.party kRefuse x.2.tag (.refuse x.2.kind.ask r (handleByte x.1))

/-- The state after an entry has been refused and removed, the slots of a GRANTED one sent into DOUBT before it, and before
the return to CONFIG is looked for. -/
def dismissed (s : State) (cause : DoubtCause) (r : Reason) (x : Handle × Entry) : State :=
  ((if x.2.phase.isGranted then s.doubtEntry x.1 x.2 cause else s).sendParty x.2.party (s.refusal r x) (some x.1)).removed x.1 x.2

section
variable (s : State) (cause : DoubtCause) (r : Reason) (x : Handle × Entry)

theorem doubtEntry_keeps : s.doubtEntry x.1 x.2 cause = { s with
    slots := (s.doubtClaims x.1 x.2.party cause x.2.items).slots, work := { s.work with touched := true } } := by
  unfold doubtEntry
  rw [doubtClaims_keeps]
  rfl

theorem revokeEntry_eq : s.revokeEntry cause x.1 x.2 = (s.dismissed cause .revoked x).checkDrain := by
  have htel : (s.doubtEntry x.1 x.2 cause).refusal .revoked x = s.refusal .revoked x := by
    rw [doubtEntry_keeps]
    rfl
  unfold revokeEntry dismissed
  split
  · rw [← htel]
    rfl
  · rfl

variable {x} in
theorem refuseEntry_eq (h : x.2.phase.isGranted = false) : s.refuseEntry x.1 x.2 r = (s.dismissed cause r x).checkDrain := by
  unfold dismissed
  rw [h]
  rfl

/-- The claims of an entry, doubted where it is GRANTED. -/
def doubtedFor : State := if x.2.phase.isGranted then s.doubtEntry x.1 x.2 cause else s

theorem dismissed_eq : s.dismissed cause r x
    = ((s.doubtedFor cause x).sendParty x.2.party (s.refusal r x) (some x.1)).removed x.1 x.2 := rfl

theorem doubtedFor_keeps : s.doubtedFor cause x = { s with
    slots := (s.doubtedFor cause x).slots, work := { s.work with touched := (s.doubtedFor cause x).work.touched } } := by
  unfold doubtedFor
  split
  · rw [doubtEntry_keeps]
  · rfl

theorem dismissed_keeps : s.dismissed cause r x = { s with
    table := (s.setEntry x.1 none).table, slots := (s.dismissed cause r x).slots, streams := (s.dismissed cause r x).streams
    links := (s.sendParty x.2.party (s.refusal r x) (some x.1)).links
    shuttles := (s.sendParty x.2.party (s.refusal r x) (some x.1)).shuttles
    unsentAsks := s.unsentAsks.filter (fun m => !m.asksAbout x.1)
    work := { s.work with
      raises := (s.sendParty x.2.party (s.refusal r x) (some x.1)).work.raises, touched := true, reeval := true } } := by
  have hports := sendParty_of_ports (s := s) (u := s.doubtedFor cause x) (by rw [doubtedFor_keeps]) (by rw [doubtedFor_keeps])
    (by rw [doubtedFor_keeps]) x.2.party (s.refusal r x) (some x.1)
  rw [dismissed_eq, removed_keeps, hports, doubtedFor_keeps]
  rfl

section
variable {s : State} {cause : DoubtCause} {r : Reason} {x : Handle × Entry}

theorem entry_dismissed (k : Handle) : (s.dismissed cause r x).entry k = if k = x.1 then none else s.entry k := by
  rw [entry_of_table (t := s.dismissed cause r x) (s := s.setEntry x.1 none) (by rw [dismissed_keeps])]
  split
  next h => rw [h, entry_setEntry_self]
  next h => exact entry_setEntry_ne _ _ _ _ (Ne.symm h)

/-- A slot that no claim of the entry stands on stays as it is. -/
theorem slot_dismissed_of_no_claim {n : Level} {c : SlotCode} (h : ∀ k ∈ (s.slot n c).claim, k.handle ≠ x.1) :
    (s.dismissed cause r x).slot n c = s.slot n c := by
  have hdoubt : (s.doubtedFor cause x).slot n c = s.slot n c := by
    unfold doubtedFor
    split
    · refine (slot_doubtClaims s x.1 x.2.party cause x.2.items n c).trans ?_
      rw [Slot.ended_of_no_claim h, ite_self]
    · rfl
  have hports : ((s.doubtedFor cause x).sendParty x.2.party (s.refusal r x) (some x.1)).slot n c = s.slot n c := by
    rw [sendParty_keeps]
    exact hdoubt
  rw [dismissed_eq, slot_removed, hports, Slot.ended_of_no_claim h, ite_self]

/-- A slot that the GRANTED entry claims for one of its items enters DOUBT with its content (R10). -/
theorem slot_dismissed_of_claim {n : Level} {c : SlotCode} {content : Option Content} {k : Claim}
    (hs : s.slot n c = .opened content (some k)) (hk : k.handle = x.1) (hg : x.2.phase.isGranted = true)
    (hi : ∃ i ∈ x.2.items, i.slot = some (n, c)) (hc : cause ≠ .actTimeout) :
    (s.dismissed cause r x).slot n c = .doubt content cause none none := by
  have hdoubt : (s.doubtedFor cause x).slot n c = .doubt content cause none none := by
    unfold doubtedFor
    rw [if_pos hg]
    refine (slot_doubtClaims s x.1 x.2.party cause x.2.items n c).trans ?_
    rw [if_pos hi, hs]
    exact (if_pos hk).trans (by rw [Slot.doubted, if_neg hc])
  have hports : ((s.doubtedFor cause x).sendParty x.2.party (s.refusal r x) (some x.1)).slot n c = .doubt content cause none none := by
    rw [sendParty_keeps]
    exact hdoubt
  rw [dismissed_eq, slot_removed, hports, if_pos hi]
  rfl

theorem stream_dismissed (i : StreamNo) : (s.dismissed cause r x).stream i =
    if x.2.isLiftFetch && x.2.phase.isGranted then (s.setPledges false x.2.items).stream i else s.stream i := by
  have hports : ((s.doubtedFor cause x).sendParty x.2.party (s.refusal r x) (some x.1)).stream i = s.stream i := by
    rw [sendParty_keeps, doubtedFor_keeps]
    rfl
  rw [dismissed_eq, stream_removed, stream_setPledges, stream_setPledges, hports]

theorem link_dismissed_of_other {y : Lift} (h : x.2.party ≠ .lift y) : (s.dismissed cause r x).link y = s.link y := by
  have hsent : (s.sendParty x.2.party (s.refusal r x) (some x.1)).link y = s.link y := by
    cases hp : x.2.party with
    | shuttle n =>
      rw [sendParty, sendShuttle_keeps]
      rfl
    | lift z => exact link_sendLift_ne s (fun hy => h (by rw [hp, hy])) _
  rw [dismissed_keeps]
  exact hsent

theorem link_dismissed_of_room {y : Lift} (h : x.2.party = .lift y) (hroom : (s.link y).down.length < 8) :
    (s.dismissed cause r x).link y = { s.link y with down := (s.link y).down ++ [⟨s.refusal r x, true, false⟩] } := by
  have hsent : (s.sendParty x.2.party (s.refusal r x) (some x.1)).link y
      = { s.link y with down := (s.link y).down ++ [⟨s.refusal r x, true, false⟩] } := by
    rw [h, sendParty, sendLift_of_room hroom, link_setLink_self]
  rw [dismissed_keeps]
  exact hsent

theorem raises_dismissed_of_room (h : ∀ y, x.2.party = .lift y → (s.link y).down.length < 8) :
    (s.dismissed cause r x).work.raises = s.work.raises := by
  have hsent : (s.sendParty x.2.party (s.refusal r x) (some x.1)).work.raises = s.work.raises := by
    cases hp : x.2.party with
    | shuttle n =>
      rw [sendParty, sendShuttle_keeps]
    | lift y => exact congrArg Work.raises (work_sendLift_of_room (h y hp) _)
  rw [dismissed_keeps]
  exact hsent

theorem shuttle_dismissed (n : Level) : (s.dismissed cause r x).shuttle n
    = if x.2.party = .shuttle n then handed (s.shuttle n) (s.refusal r x) (some x.1) else s.shuttle n := by
  have hsent : (s.sendParty x.2.party (s.refusal r x) (some x.1)).shuttle n
      = if x.2.party = .shuttle n then handed (s.shuttle n) (s.refusal r x) (some x.1) else s.shuttle n := by
    cases hp : x.2.party with
    | shuttle m =>
      rw [sendParty, shuttle_sendShuttle]
      by_cases h : n = m
      · rw [h, if_pos rfl, if_pos rfl]
      · rw [if_neg h, if_neg fun heq => h (Party.shuttle.inj heq).symm]
    | lift y =>
      rw [sendParty, sendLift_keeps]
      exact (if_neg Party.noConfusion).symm
  rw [dismissed_keeps]
  exact hsent

end

end

end State

end Sys2Proof.Machine

/-! ## What a row of dismissals leaves -/

namespace Sys2Proof.Machine.State

/-- Entries dismissed one after another; in DRAIN the return to CONFIG is looked for after each (R52, R162). -/
def dismissEach (s : State) (cause : DoubtCause) (r : Reason) (l : List (Handle × Entry)) : State :=
  l.foldl (fun u x => (u.dismissed cause r x).checkDrain) s

/-- The raisings left to the end of the event are all against lifts. -/
def RaisesAtLifts (s : State) : Prop := ∀ q ∈ s.work.raises, ∃ y, q.party = some (.lift y)

section
variable (s : State) (cause : DoubtCause) (r : Reason) (x : Handle × Entry) (l : List (Handle × Entry))

theorem unique_checkDrain : s.checkDrain.store.unique = s.store.unique :=
  congrArg (fun f => f.store.unique) s.fixed_checkDrain

/-- One dismissal with the look for the return to CONFIG. -/
theorem dismissal_keeps : ∃ t, (s.dismissed cause r x).checkDrain = t ∧ t = { s with
    table := t.table, slots := t.slots, streams := t.streams, links := t.links, shuttles := t.shuttles, store := t.store
    unsentAsks := t.unsentAsks, modeCtl := t.modeCtl, notices := t.notices, work := t.work } :=
  ⟨_, rfl, by rw [checkDrain_keeps, dismissed_keeps]⟩

theorem dismissEach_keeps : s.dismissEach cause r l = { s with
    table := (s.dismissEach cause r l).table, slots := (s.dismissEach cause r l).slots, streams := (s.dismissEach cause r l).streams
    links := (s.dismissEach cause r l).links, shuttles := (s.dismissEach cause r l).shuttles
    store := (s.dismissEach cause r l).store, unsentAsks := (s.dismissEach cause r l).unsentAsks
    modeCtl := (s.dismissEach cause r l).modeCtl, notices := (s.dismissEach cause r l).notices
    work := (s.dismissEach cause r l).work } := by
  induction l generalizing s with
  | nil => rfl
  | cons x l ih =>
    obtain ⟨t, ht, hkeeps⟩ := s.dismissal_keeps cause r x
    have hstep : s.dismissEach cause r (x :: l) = t.dismissEach cause r l := by rw [← ht]; rfl
    rw [hstep, ih t]
    rw [hkeeps]

theorem dismissEach_cons : s.dismissEach cause r (x :: l) = ((s.dismissed cause r x).checkDrain).dismissEach cause r l := rfl

theorem refusal_dismissal (x' : Handle × Entry) : (s.dismissed cause r x).checkDrain.refusal r x' = s.refusal r x' := by
  have hunique : (s.dismissed cause r x).checkDrain.store.unique = s.store.unique := by
    rw [unique_checkDrain, dismissed_keeps]
  unfold refusal toParty
  rw [hunique]

theorem unique_dismissEach : (s.dismissEach cause r l).store.unique = s.store.unique := by
  induction l generalizing s with
  | nil => rfl
  | cons x l ih => rw [dismissEach_cons, ih, unique_checkDrain, dismissed_keeps]

theorem entry_dismissEach (k : Handle) :
    (s.dismissEach cause r l).entry k = if k ∈ l.map (fun x => x.1) then none else s.entry k := by
  induction l generalizing s with
  | nil => rfl
  | cons x l ih =>
    have hstep : (s.dismissed cause r x).checkDrain.entry k = if k = x.1 then none else s.entry k := by
      rw [checkDrain_keeps]
      exact entry_dismissed k
    rw [dismissEach_cons, ih, hstep, List.map_cons]
    by_cases h : k = x.1
    · rw [if_pos h, if_pos (List.mem_cons.mpr (.inl h)), ite_self]
    · rw [if_neg h]
      exact if_congr (by rw [List.mem_cons, or_iff_right h]) rfl rfl

theorem slot_checkDrain (n : Level) (c : SlotCode) : s.checkDrain.slot n c = s.slot n c := by
  rw [checkDrain_keeps]
  rfl

variable {s cause r l}

theorem slot_dismissEach_of_no_claim {n : Level} {c : SlotCode} (h : ∀ k ∈ (s.slot n c).claim, ∀ x ∈ l, k.handle ≠ x.1) :
    (s.dismissEach cause r l).slot n c = s.slot n c := by
  induction l generalizing s with
  | nil => rfl
  | cons x l ih =>
    have hstep : (s.dismissed cause r x).checkDrain.slot n c = s.slot n c := by
      rw [slot_checkDrain]
      exact slot_dismissed_of_no_claim fun k hk => h k hk x List.mem_cons_self
    rw [dismissEach_cons, ih fun k hk y hy => h k (by rw [← hstep]; exact hk) y (List.mem_cons_of_mem _ hy), hstep]

theorem slot_dismissEach_of_claim {n : Level} {c : SlotCode} {content : Option Content} {k : Claim} {x : Handle × Entry}
    (hs : s.slot n c = .opened content (some k)) (hk : k.handle = x.1) (hx : x ∈ l) (hl : (l.map (fun x => x.1)).Nodup)
    (hg : x.2.phase.isGranted = true) (hi : ∃ i ∈ x.2.items, i.slot = some (n, c)) (hc : cause ≠ .actTimeout) :
    (s.dismissEach cause r l).slot n c = .doubt content cause none none := by
  induction l generalizing s with
  | nil => exact absurd hx List.not_mem_nil
  | cons y l ih =>
    rw [List.map_cons, List.nodup_cons] at hl
    rw [dismissEach_cons]
    rcases List.mem_cons.mp hx with rfl | hx
    · have hstep : (s.dismissed cause r x).checkDrain.slot n c = .doubt content cause none none := by
        rw [slot_checkDrain]
        exact slot_dismissed_of_claim hs hk hg hi hc
      rw [slot_dismissEach_of_no_claim, hstep]
      rw [hstep]
      exact fun _ h => nomatch h
    · have hne : x.1 ≠ y.1 := fun h => hl.1 (h ▸ List.mem_map_of_mem hx)
      have hstep : (s.dismissed cause r y).checkDrain.slot n c = s.slot n c := by
        rw [slot_checkDrain]
        refine slot_dismissed_of_no_claim fun q hq => ?_
        rw [hs] at hq
        rw [← Option.some.inj hq, hk]
        exact hne
      exact ih (hstep.trans hs) hx hl.2

/-- An entry pledges the release entry with this ID in this stream: it is a lift FETCH in GRANTED with such a tote (R37). -/
def pledges (e : Entry) (i : StreamNo) (id : ToteId) : Bool :=
  e.isLiftFetch && e.phase.isGranted && e.items.any (fun j => j.tote.id = id && j.tote.stream.toNat = i.val)

theorem list_dismissed (x : Handle × Entry) (i : StreamNo) : ((s.dismissed cause r x).stream i).list = (s.stream i).list.map (fun q =>
    if i ≠ 0 ∧ pledges x.2 i q.id = true then { q with pledged := false } else q) := by
  unfold pledges
  rw [stream_dismissed]
  cases x.2.isLiftFetch && x.2.phase.isGranted with
  | false =>
    simp
  | true =>
    rw [if_pos rfl, stream_setPledges]
    refine List.map_congr_left fun q _ => if_congr ?_ rfl rfl
    simp

theorem list_dismissEach (i : StreamNo) : ((s.dismissEach cause r l).stream i).list = (s.stream i).list.map (fun q =>
    if i ≠ 0 ∧ l.any (fun x => pledges x.2 i q.id) = true then { q with pledged := false } else q) := by
  induction l generalizing s with
  | nil => simp [dismissEach]
  | cons x l ih =>
    have hstep : ((s.dismissed cause r x).checkDrain.stream i).list = (s.stream i).list.map (fun q =>
        if i ≠ 0 ∧ pledges x.2 i q.id = true then { q with pledged := false } else q) := by
      rw [checkDrain_keeps]
      exact list_dismissed x i
    rw [dismissEach_cons, ih, hstep, List.map_map]
    refine List.map_congr_left fun q _ => ?_
    rw [Function.comp_apply, List.any_cons]
    by_cases hx : i ≠ 0 ∧ pledges x.2 i q.id = true
    · have hany : i ≠ 0 ∧ (pledges x.2 i q.id || l.any (fun x => pledges x.2 i q.id)) = true := ⟨hx.1, by rw [hx.2, Bool.true_or]⟩
      rw [if_pos hx, if_pos hany]
      split <;> rfl
    · rw [if_neg hx]
      refine if_congr (and_congr_right fun h0 => ?_) rfl rfl
      rw [Bool.eq_false_iff.mpr fun h => hx ⟨h0, h⟩, Bool.false_or]

theorem unsentAsks_dismissEach : (s.dismissEach cause r l).unsentAsks
    = s.unsentAsks.filter (fun m => l.all (fun x => !m.asksAbout x.1)) := by
  induction l generalizing s with
  | nil => exact (List.filter_eq_self.mpr fun _ _ => rfl).symm
  | cons x l ih =>
    have hstep : (s.dismissed cause r x).checkDrain.unsentAsks = s.unsentAsks.filter (fun m => !m.asksAbout x.1) := by
      rw [checkDrain_keeps, dismissed_keeps]
    rw [dismissEach_cons, ih, hstep, List.filter_filter]
    refine List.filter_congr fun m _ => ?_
    rw [List.all_cons, Bool.and_comm]

/-- The answers for one shuttle, one after the other. -/
theorem shuttle_dismissEach (n : Level) : (s.dismissEach cause r l).shuttle n
    = (l.filter (fun x => x.2.party = .shuttle n)).foldl (fun v x => handed v (s.refusal r x) (some x.1)) (s.shuttle n) := by
  induction l generalizing s with
  | nil => rfl
  | cons x l ih =>
    have hstep : (s.dismissed cause r x).checkDrain.shuttle n
        = if x.2.party = .shuttle n then handed (s.shuttle n) (s.refusal r x) (some x.1) else s.shuttle n := by
      rw [checkDrain_keeps]
      exact shuttle_dismissed n
    rw [dismissEach_cons, ih, hstep]
    simp only [refusal_dismissal]
    by_cases h : x.2.party = .shuttle n
    · rw [List.filter_cons_of_pos (by simpa using h), List.foldl_cons, if_pos h]
    · rw [List.filter_cons_of_neg (by simpa using h), if_neg h]

/-- The REFUSEs for one lift, as they join its queue. -/
def refusals (s : State) (r : Reason) (y : Lift) (l : List (Handle × Entry)) : List DownItem :=
  (l.filter (fun x => x.2.party = .lift y)).map (fun x => ⟨s.refusal r x, true, false⟩)

theorem refusals_dismissal (x : Handle × Entry) (y : Lift) : (s.dismissed cause r x).checkDrain.refusals r y l = s.refusals r y l := by
  unfold refusals
  simp only [refusal_dismissal]

theorem refusals_cons (x : Handle × Entry) (y : Lift) : s.refusals r y (x :: l)
    = if x.2.party = .lift y then ⟨s.refusal r x, true, false⟩ :: s.refusals r y l else s.refusals r y l := by
  unfold refusals
  by_cases h : x.2.party = .lift y
  · rw [List.filter_cons_of_pos (by simpa using h), List.map_cons, if_pos h]
  · rw [List.filter_cons_of_neg (by simpa using h), if_neg h]

theorem link_dismissEach {y : Lift} (hroom : (s.link y).down.length + (s.refusals r y l).length ≤ 8) :
    (s.dismissEach cause r l).link y = { s.link y with down := (s.link y).down ++ s.refusals r y l } := by
  induction l generalizing s with
  | nil => simp [dismissEach, refusals]
  | cons x l ih =>
    have hlink : (s.dismissed cause r x).checkDrain.link y = (s.dismissed cause r x).link y := by
      rw [checkDrain_keeps]
      rfl
    rw [refusals_cons] at hroom ⊢
    rw [dismissEach_cons]
    by_cases h : x.2.party = .lift y
    · rw [if_pos h, List.length_cons] at hroom
      rw [if_pos h]
      have hstep := hlink.trans (link_dismissed_of_room (cause := cause) (r := r) h (by omega))
      rw [ih ?room, hstep, refusals_dismissal]
      case room =>
        rw [hstep, refusals_dismissal, List.length_append, List.length_singleton]
        omega
      dsimp only
      rw [List.append_assoc]
      rfl
    · rw [if_neg h] at hroom ⊢
      have hstep := hlink.trans (link_dismissed_of_other (cause := cause) (r := r) h)
      rw [ih ?room, hstep, refusals_dismissal]
      case room =>
        rw [hstep, refusals_dismissal]
        exact hroom

theorem raises_dismissEach (hroom : ∀ y, (s.link y).down.length + (s.refusals r y l).length ≤ 8) :
    (s.dismissEach cause r l).work.raises = s.work.raises := by
  induction l generalizing s with
  | nil => rfl
  | cons x l ih =>
    have hlink (y : Lift) : (s.dismissed cause r x).checkDrain.link y = (s.dismissed cause r x).link y := by
      rw [checkDrain_keeps]
      rfl
    have hwork : (s.dismissed cause r x).checkDrain.work = (s.dismissed cause r x).work := by rw [checkDrain_keeps]
    have hhere (y : Lift) (h : x.2.party = .lift y) : (s.link y).down.length + ((s.refusals r y l).length + 1) ≤ 8 := by
      have := hroom y
      rwa [refusals_cons, if_pos h, List.length_cons] at this
    rw [dismissEach_cons, ih fun y => ?_, hwork, raises_dismissed_of_room fun y h => ?_]
    · have := hhere y h
      omega
    · rw [hlink, refusals_dismissal]
      by_cases h : x.2.party = .lift y
      · rw [link_dismissed_of_room h (by have := hhere y h; omega), List.length_append, List.length_singleton]
        have := hhere y h
        omega
      · have := hroom y
        rw [refusals_cons, if_neg h] at this
        rwa [link_dismissed_of_other h]

theorem RaisesAtLifts.sendParty (h : s.RaisesAtLifts) (p : Party) (t : Tel) (about : Option Handle) :
    (s.sendParty p t about).RaisesAtLifts := by
  cases p with
  | shuttle n =>
    unfold RaisesAtLifts State.sendParty
    dsimp only
    rw [sendShuttle_keeps]
    exact h
  | lift y =>
    by_cases hroom : (s.link y).down.length < 8
    · unfold RaisesAtLifts State.sendParty
      dsimp only
      rw [work_sendLift_of_room hroom]
      exact h
    · unfold RaisesAtLifts State.sendParty
      dsimp only
      rw [sendLift_of_full (not_lt.mp hroom)]
      intro q hq
      rcases List.mem_append.mp hq with hq | hq
      · exact h q hq
      · exact ⟨y, by rw [List.mem_singleton.mp hq]⟩

theorem RaisesAtLifts.checkDrain (h : s.RaisesAtLifts) : s.checkDrain.RaisesAtLifts := by
  rw [checkDrain_keeps]
  exact h

theorem RaisesAtLifts.dismissEach (h : s.RaisesAtLifts) : (s.dismissEach cause r l).RaisesAtLifts := by
  induction l generalizing s with
  | nil => exact h
  | cons x l ih =>
    refine ih (RaisesAtLifts.checkDrain ?_)
    rw [dismissed_keeps]
    exact h.sendParty x.2.party (s.refusal r x) (some x.1)

/-- Outside DRAIN the mode stays. -/
theorem modeCtl_dismissEach (hm : s.mode ≠ .drain) : (s.dismissEach cause r l).modeCtl = s.modeCtl := by
  induction l generalizing s with
  | nil => rfl
  | cons x l ih =>
    have hmode : (s.dismissed cause r x).modeCtl = s.modeCtl := by rw [dismissed_keeps]
    have hsame : (s.dismissed cause r x).checkDrain = s.dismissed cause r x :=
      checkDrain_of_not_last (.inl (by rw [mode, hmode]; exact hm))
    rw [dismissEach_cons, hsame, ih (by rw [mode, hmode]; exact hm), hmode]

end

/-! ### The entry of a party -/

theorem filter_party_entries {s : State} (h : OneEntryEach s) (p : Party) :
    s.entries.filter (fun x => x.2.party = p) = (s.entryOf p).toList := by
  have hnodup : (s.entries.filter (fun x => x.2.party = p)).Nodup := (List.Nodup.of_map _ s.nodup_handles).filter _
  have hsame : ∀ x ∈ s.entries.filter (fun x => x.2.party = p), ∀ y ∈ s.entries.filter (fun x => x.2.party = p), x = y := by
    intro x hx y hy
    obtain ⟨hx, hxp⟩ := List.mem_filter.mp hx
    obtain ⟨hy, hyp⟩ := List.mem_filter.mp hy
    have hex := (s.mem_entries_iff x.1 x.2).mp hx
    have hey := (s.mem_entries_iff y.1 y.2).mp hy
    have hkey : x.1 = y.1 := h x.1 y.1 x.2 hex y.2 hey ((of_decide_eq_true hxp).trans (of_decide_eq_true hyp).symm)
    exact Prod.ext hkey (Option.some.inj (hex.symm.trans ((congrArg s.entry hkey).trans hey)))
  rw [entryOf, ← List.head?_filter]
  generalize s.entries.filter (fun x => x.2.party = p) = l at hnodup hsame ⊢
  match l, hnodup, hsame with
  | [], _, _ => rfl
  | [x], _, _ => rfl
  | x :: y :: _, hnodup, hsame =>
    have hxy := hsame x List.mem_cons_self y (List.mem_cons_of_mem _ List.mem_cons_self)
    exact absurd (hxy ▸ List.mem_cons_self) (List.nodup_cons.mp hnodup).1

end Sys2Proof.Machine.State

/-! ## The end of visits, and the end of a step with an empty table (R70, R95, R167, R168) -/

namespace Sys2Proof.Machine.State

/-! ### The end of a visit -/

/-- The VISIT-END of a lift's open visit, if there is one (R70). -/
def visitEnds (s : State) (y : Lift) : List DownItem :=
  match (s.lift y).visit with
  | none => []
  | some v => [⟨s.toParty (.lift y) kVisitEnd v.tag (.visit (levelByte v.level) (byte v.p) (byte v.f)), true, false⟩]

theorem visitEnds_of_alike {s t : State} {y : Lift} (hl : (t.lift y).visit = (s.lift y).visit) (hu : t.store.unique = s.store.unique) :
    t.visitEnds y = s.visitEnds y := by
  unfold visitEnds toParty
  rw [hl, hu]

theorem length_visitEnds_le (s : State) (y : Lift) : (s.visitEnds y).length ≤ 1 := by
  unfold visitEnds
  split <;> simp

section
variable {s : State} {x y : Lift}

theorem endVisit_keeps (x : Lift) : s.endVisit x none = { s with
    coord := (s.endVisit x none).coord, links := (s.endVisit x none).links, store := (s.endVisit x none).store
    modeCtl := (s.endVisit x none).modeCtl, notices := (s.endVisit x none).notices
    work := { s.work with raises := (s.endVisit x none).work.raises } } := by
  cases hv : (s.lift x).visit with
  | none => rw [endVisit_of_none hv]
  | some v =>
    rw [endVisit_of_some hv, checkDrain_keeps, visitEnded_keeps]

theorem unique_endVisit (x : Lift) : (s.endVisit x none).store.unique = s.store.unique := by
  cases hv : (s.lift x).visit with
  | none => rw [endVisit_of_none hv]
  | some v => rw [endVisit_of_some hv, unique_checkDrain, visitEnded_keeps]

theorem link_endVisit_ne (h : y ≠ x) : (s.endVisit x none).link y = s.link y := by
  cases hv : (s.lift x).visit with
  | none => rw [endVisit_of_none hv]
  | some v =>
    rw [endVisit_of_some hv, checkDrain_keeps]
    exact link_visitEnded_ne _ _ _ _ h

theorem link_endVisit_self (hroom : (s.link x).down.length + (s.visitEnds x).length ≤ 8) :
    (s.endVisit x none).link x = { s.link x with down := (s.link x).down ++ s.visitEnds x } := by
  unfold visitEnds at hroom ⊢
  cases hv : (s.lift x).visit with
  | none =>
    rw [endVisit_of_none hv]
    simp
  | some v =>
    rw [hv] at hroom
    have hlt : (s.link x).down.length < 8 := Nat.lt_of_succ_le hroom
    rw [endVisit_of_some hv, checkDrain_keeps]
    unfold visitEnded
    dsimp only
    rw [sendLift_of_room hlt]
    exact link_setLink_self _ _ _

theorem raises_endVisit_of_room (hroom : (s.link x).down.length + (s.visitEnds x).length ≤ 8) :
    (s.endVisit x none).work.raises = s.work.raises := by
  unfold visitEnds at hroom
  cases hv : (s.lift x).visit with
  | none => rw [endVisit_of_none hv]
  | some v =>
    rw [hv] at hroom
    rw [endVisit_of_some hv, checkDrain_keeps]
    exact congrArg Work.raises (work_visitEnded_of_room _ _ (Nat.lt_of_succ_le hroom))

theorem RaisesAtLifts.endVisit (h : s.RaisesAtLifts) (x : Lift) : (s.endVisit x none).RaisesAtLifts := by
  cases hv : (s.lift x).visit with
  | none => rwa [endVisit_of_none hv]
  | some v =>
    rw [endVisit_of_some hv]
    refine RaisesAtLifts.checkDrain ?_
    unfold visitEnded
    exact h.sendParty (.lift x) _ Option.none

/-- Outside DRAIN the end of a visit changes no mode and no notice. -/
theorem endVisit_of_not_drain (hm : s.mode ≠ .drain) (x : Lift) : (s.endVisit x none).modeCtl = s.modeCtl
    ∧ (s.endVisit x none).notices = s.notices := by
  cases hv : (s.lift x).visit with
  | none =>
    rw [endVisit_of_none hv]
    exact ⟨rfl, rfl⟩
  | some v =>
    have hmode : (s.visitEnded x (Option.none.getD v.tag) v).mode ≠ .drain := by
      rw [visitEnded_keeps]
      exact hm
    rw [endVisit_of_some hv, checkDrain_of_not_last (.inl hmode)]
    exact ⟨by rw [visitEnded_keeps], by rw [visitEnded_keeps]⟩

end

/-! ### The streams evaluated (R95) -/

section
variable (s : State)

theorem evalStream_keeps (i : StreamNo) : s.evalStream i = { s with
    streams := (s.evalStream i).streams
    work := { s.work with touched := (s.evalStream i).work.touched, reeval := (s.evalStream i).work.reeval } } := by
  unfold evalStream
  dsimp only
  repeat' split
  all_goals rfl

theorem list_evalStream (i k : StreamNo) : ((s.evalStream i).stream k).list = (s.stream k).list := by
  have hset (v : Stream) (hv : v.list = (s.stream i).list) : ((s.setStream i v).stream k).list = (s.stream k).list := by
    rw [stream_setStream_if]
    split
    next h => rw [hv, h]
    · rfl
  unfold evalStream
  dsimp only
  repeat' split
  · exact hset _ rfl
  · rfl
  · exact hset _ rfl
  · exact hset _ rfl

theorem foldl_evalStream_keeps (l : List StreamNo) : l.foldl (fun u i => u.evalStream i) s = { s with
    streams := (l.foldl (fun u i => u.evalStream i) s).streams
    work := { s.work with
      touched := (l.foldl (fun u i => u.evalStream i) s).work.touched
      reeval := (l.foldl (fun u i => u.evalStream i) s).work.reeval } } := by
  induction l generalizing s with
  | nil => rfl
  | cons i l ih => rw [List.foldl_cons, ih, evalStream_keeps]

theorem evalStreams_keeps : s.evalStreams = { s with
    streams := s.evalStreams.streams
    work := { s.work with touched := s.evalStreams.work.touched, reeval := s.evalStreams.work.reeval } } := by
  have hfold (l : List StreamNo) (hl : s.evalStreams = l.foldl (fun u i => u.evalStream i) s) : s.evalStreams = { s with
      streams := s.evalStreams.streams
      work := { s.work with touched := s.evalStreams.work.touched, reeval := s.evalStreams.work.reeval } } := by
    rw [hl]
    exact s.foldl_evalStream_keeps l
  exact hfold _ s.evalStreams_eq

theorem list_evalStreams (k : StreamNo) : (s.evalStreams.stream k).list = (s.stream k).list := by
  have hfold (l : List StreamNo) (u : State) : ((l.foldl (fun u i => u.evalStream i) u).stream k).list = (u.stream k).list := by
    induction l generalizing u with
    | nil => rfl
    | cons i l ih => rw [List.foldl_cons, ih, list_evalStream]
  rw [evalStreams_eq]
  exact hfold _ s

end

/-! ### With an empty table, or outside RUN -/

/-- What the end of a step keeps with an empty table, or outside RUN with nothing raised: all but ports and call queues, routing and records of faults. -/
structure Unmoved (s t : State) : Prop where
  table : t.table = s.table
  visit : ∀ y, (t.lift y).visit = (s.lift y).visit
  slots : t.slots = s.slots
  list : ∀ i, (t.stream i).list = (s.stream i).list
  unsentAsks : t.unsentAsks = s.unsentAsks
  shuttles : t.shuttles = s.shuttles
  modeCtl : t.modeCtl = s.modeCtl
  doubt : s.notices.pending.doubt = true → t.notices.pending.doubt = true

theorem Unmoved.refl (s : State) : Unmoved s s := ⟨rfl, fun _ => rfl, rfl, fun _ => rfl, rfl, rfl, rfl, id⟩

theorem Unmoved.trans {s t u : State} (h : Unmoved s t) (k : Unmoved t u) : Unmoved s u :=
  ⟨k.table.trans h.table, fun y => (k.visit y).trans (h.visit y), k.slots.trans h.slots, fun i => (k.list i).trans (h.list i),
    k.unsentAsks.trans h.unsentAsks, k.shuttles.trans h.shuttles, k.modeCtl.trans h.modeCtl, fun hd => k.doubt (h.doubt hd)⟩

section
variable {s : State}

theorem reevaluate_of_quiet (hq : s.entries = [] ∨ s.mode ≠ .run) : s.reevaluate = s := by
  rcases hq with he | hm
  · unfold reevaluate holdQueue
    rw [he]
    split <;> rfl
  · exact if_neg hm

theorem settle_of_quiet (hq : s.entries = [] ∨ s.mode ≠ .run) : s.settle = { s with
    streams := s.settle.streams, coord := s.settle.coord
    work := { s.work with touched := s.settle.work.touched, reeval := s.settle.work.reeval } }
    ∧ (∀ i, (s.settle.stream i).list = (s.stream i).list) ∧ ∀ y, (s.settle.lift y).visit = (s.lift y).visit := by
  cases ht : s.work.touched with
  | false =>
    rw [settle_of_untouched s ht]
    exact ⟨rfl, fun _ => rfl, fun _ => rfl⟩
  | true =>
    have hkeeps := s.evalStreams_keeps
    have hlist := s.list_evalStreams
    rw [settle_of_touched s ht, ← evalStreams_eq]
    generalize s.evalStreams = v at hkeeps hlist ⊢
    have hpass : v.passOn = { v.updateCalls with work := { v.work with touched := false, reeval := false } } := by
      unfold passOn
      rw [reevaluate_of_quiet (by rw [hkeeps]; exact hq), ite_self]
    rw [hpass]
    refine ⟨?_, hlist, fun y => ?_⟩
    · unfold updateCalls
      dsimp only
      rw [hkeeps]
    · show (v.updateCalls.lift y).visit = _
      rw [lift_updateCalls, hkeeps]
      rfl

theorem unmoved_settle (hq : s.entries = [] ∨ s.mode ≠ .run) : Unmoved s s.settle := by
  obtain ⟨hkeeps, hlist, hvisit⟩ := settle_of_quiet hq
  refine ⟨?_, hvisit, ?_, hlist, ?_, ?_, ?_, fun hd => ?_⟩
  all_goals rw [hkeeps]
  exact hd

theorem raises_settle (hq : s.entries = [] ∨ s.mode ≠ .run) : s.settle.work.raises = s.work.raises := by rw [(settle_of_quiet hq).1]

theorem unmoved_handFault (u : State) : Unmoved u (u.handFlag .fault) ∧ (u.handFlag .fault).work = u.work := by
  have hkeeps := u.handFlag_keeps .fault
  refine ⟨⟨?_, fun _ => ?_, ?_, fun _ => ?_, ?_, ?_, ?_, fun hd => ?_⟩, ?_⟩
  case refine_8 =>
    rw [notices_handFlag]
    exact hd
  all_goals rw [hkeeps]
  all_goals rfl

/-- A raising against a lift without an entry, in CONFIG: the record, the FAULT flag, and at a fence the latch and the GOs. -/
theorem unmoved_applyRaise (he : s.entries = []) (hm : s.mode = .config) {q : Raise} (hq : ∃ y, q.party = some (.lift y)) :
    Unmoved s (s.applyRaise q) ∧ (s.applyRaise q).work = s.work := by
  obtain ⟨y, hq⟩ := hq
  have hrec : Unmoved s (s.recordFault q) ∧ (s.recordFault q).work = s.work := by
    unfold recordFault
    split
    · obtain ⟨hmoved, hwork⟩ := unmoved_handFault (s.setFaultRec q.cls (some ⟨1, q.party, s.time, q.party, s.time⟩))
      obtain ⟨h1, h2, h3, h4, h5, h6, h7, h8⟩ := hmoved
      exact ⟨⟨h1, h2, h3, h4, h5, h6, h7, h8⟩, hwork⟩
    · exact ⟨⟨rfl, fun _ => rfl, rfl, fun _ => rfl, rfl, rfl, rfl, id⟩, rfl⟩
  have hempty : (s.recordFault q).entryOf (.lift y) = Option.none := by
    have hentries : (s.recordFault q).entries = [] := by
      unfold entries entry
      rw [hrec.1.table]
      exact he
    rw [entryOf, hentries]
    rfl
  have hmode : (s.recordFault q).mode = .config := (congrArg ModeCtl.mode hrec.1.modeCtl).trans hm
  have hlatch : Unmoved (s.recordFault q) ((s.recordFault q).setLatch (.lift y))
      ∧ ((s.recordFault q).setLatch (.lift y)).work = (s.recordFault q).work := by
    cases hl : (s.recordFault q).latch (.lift y) with
    | true =>
      rw [setLatch_of_set hl]
      exact ⟨.refl _, rfl⟩
    | false =>
      rw [setLatch_of_none hl hempty]
      exact ⟨⟨rfl, fun _ => rfl, rfl, fun _ => rfl, rfl, rfl, rfl, id⟩, rfl⟩
  unfold applyRaise dispose
  split
  · exact hrec
  · rw [hq]
    exact ⟨hrec.1.trans hlatch.1, hlatch.2.trans hrec.2⟩
  · rw [enterHalt_of_stopped (.inl hmode)]
    exact hrec

theorem unmoved_finishWith (k : ℕ) (he : s.entries = []) (hm : s.mode = .config) (hr : s.RaisesAtLifts) : Unmoved s (s.finishWith k) := by
  induction k generalizing s with
  | zero => exact unmoved_settle (.inl he)
  | succ k ih =>
    have hsettle := unmoved_settle (.inl he)
    rw [finishWith_settle]
    cases hq : s.settle.work.raises with
    | nil => rwa [finishWith_of_calm s.touched_settle hq]
    | cons q later =>
      rw [finishWith_of_raise s.touched_settle hq]
      rw [raises_settle (.inl he)] at hq
      let u : State := { s.settle with work := { s.settle.work with raises := later } }
      have hu : Unmoved s u := ⟨hsettle.table, hsettle.visit, hsettle.slots, hsettle.list, hsettle.unsentAsks, hsettle.shuttles,
        hsettle.modeCtl, hsettle.doubt⟩
      have hempty (v : State) (hv : Unmoved s v) : v.entries = [] := by
        unfold entries entry
        rw [hv.table]
        exact he
      have hmode (v : State) (hv : Unmoved s v) : v.mode = .config := (congrArg ModeCtl.mode hv.modeCtl).trans hm
      obtain ⟨hraise, hwork⟩ := unmoved_applyRaise (hempty u hu) (hmode u hu) (hr q (by rw [hq]; exact List.mem_cons_self))
      have hafter := hu.trans hraise
      refine hafter.trans (ih (hempty _ hafter) (hmode _ hafter) fun p hp => ?_)
      rw [hwork] at hp
      exact hr p (by rw [hq]; exact List.mem_cons_of_mem _ hp)

theorem unmoved_finish {u : State} (h : Unmoved u (u.finishWith Config.raiseBound)) (hu : u = s.lookDone) : Unmoved s s.finish := by
  have hlook : Unmoved s s.lookDone := by
    rw [lookDone_eq]
    exact ⟨rfl, fun _ => rfl, rfl, fun _ => rfl, rfl, rfl, rfl, id⟩
  subst hu
  obtain ⟨h1, h2, h3, h4, h5, h6, h7, h8⟩ := hlook.trans h
  exact ⟨h1, h2, h3, h4, h5, h6, h7, h8⟩

theorem entries_lookDone (he : s.entries = []) : s.lookDone.entries = [] := by
  rw [lookDone_eq]
  exact he

/-- In CONFIG the end of a step moves nothing, whatever has been raised against lifts. -/
theorem unmoved_finish_of_config (he : s.entries = []) (hm : s.mode = .config) (hr : s.RaisesAtLifts) : Unmoved s s.finish :=
  unmoved_finish (unmoved_finishWith Config.raiseBound (entries_lookDone he) (by rw [lookDone_eq]; exact hm)
    (by rw [lookDone_eq]; exact hr)) rfl

/-- With nothing raised the end of a step with an empty table or outside RUN moves nothing, sends nothing and records nothing. -/
theorem unmoved_finish_of_calm (hq : s.entries = [] ∨ s.mode ≠ .run) (hr : s.work.raises = []) :
    Unmoved s s.finish ∧ s.finish.links = s.links ∧ s.finish.faults = s.faults := by
  have hquiet : s.lookDone.entries = [] ∨ s.lookDone.mode ≠ .run := by
    rw [lookDone_eq]
    exact hq
  have hwith : s.lookDone.finishWith Config.raiseBound = s.lookDone.settle := by
    rw [finishWith_settle]
    refine finishWith_of_calm (touched_settle _) ?_ _
    rw [raises_settle hquiet, lookDone_work, hr]
  have hkeeps := (settle_of_quiet hquiet).1
  have hlinks : s.finish.links = s.links := by
    show (s.lookDone.finishWith Config.raiseBound).links = _
    rw [hwith, hkeeps]
    exact lookDone_links s
  have hfaults : s.finish.faults = s.faults := by
    show (s.lookDone.finishWith Config.raiseBound).faults = _
    rw [hwith, hkeeps]
    exact lookDone_faults s
  exact ⟨unmoved_finish (by rw [hwith]; exact unmoved_settle hquiet) rfl, hlinks, hfaults⟩

end

end Sys2Proof.Machine.State

/-! ## A REVOKE and a cleanup (O52) -/

namespace Sys2Proof.Machine

namespace State

/-! ### Handles, entries and parties -/

section
variable (s : State)

theorem any_entries (f : Handle × Entry → Bool) :
    s.entries.any f = allHandles.any (fun k => (s.entry k).any (fun e => f (k, e))) := by
  unfold entries
  rw [List.any_filterMap]
  refine congrArg (fun p => (List.finRange 32).any p) (funext fun k => ?_)
  cases s.entry k <;> rfl

theorem all_entries (f : Handle × Entry → Bool) :
    s.entries.all f = allHandles.all (fun k => (s.entry k).all (fun e => f (k, e))) := by
  unfold entries
  rw [List.all_filterMap]
  refine congrArg (fun p => (List.finRange 32).all p) (funext fun k => ?_)
  cases s.entry k <;> rfl

variable {s} in
theorem entries_of_empty (h : ∀ k, s.entry k = none) : s.entries = [] :=
  List.isEmpty_iff.mp ((isEmpty_entries_iff s).mpr h)

end

section
variable {s : State} (ho : OneEntryEach s) (r : Reason)
include ho

/-- What a lift is sent when all entries go: one REFUSE when it has an entry. -/
theorem refusals_entries (y : Lift) : s.refusals r y s.entries = match s.entryOf (.lift y) with
    | none => []
    | some x => [⟨s.refusal r x, true, false⟩] := by
  unfold refusals
  rw [filter_party_entries ho]
  cases s.entryOf (.lift y) <;> rfl

theorem length_refusals_entries_le (y : Lift) : (s.refusals r y s.entries).length ≤ 1 := by
  rw [refusals_entries ho]
  split <;> simp

/-- What a shuttle is answered when all entries go: one REFUSE when it has an entry. -/
theorem handed_entries (n : Level) :
    (s.entries.filter (fun x => x.2.party = .shuttle n)).foldl (fun v x => handed v (s.refusal r x) (some x.1)) (s.shuttle n)
      = match s.entryOf (.shuttle n) with
        | none => s.shuttle n
        | some x => (s.sendParty x.2.party (s.refusal r x) (some x.1)).shuttle n := by
  rw [filter_party_entries ho]
  cases hx : s.entryOf (.shuttle n) with
  | none => rfl
  | some x =>
    have hparty : x.2.party = .shuttle n := ((entryOf_eq_some_iff s _ x.1 x.2).mp hx).2.1
    dsimp only
    rw [hparty, sendParty, shuttle_sendShuttle, if_pos rfl]
    rfl

end

/-! ### Both visits -/

theorem visitEnds_endVisit_ne {u : State} {x y : Lift} (h : y ≠ x) : (u.endVisit x none).visitEnds y = u.visitEnds y :=
  visitEnds_of_alike (by rw [lift_endVisit, if_neg h]) (unique_endVisit x)

section
variable {u : State} (hroom : ∀ y, (u.link y).down.length + (u.visitEnds y).length ≤ 8)
include hroom

/-- Each open visit is told by a VISIT-END at the tail of its lift's queue (R70). -/
theorem link_endVisits (y : Lift) : ((u.endVisit .a none).endVisit .b none).link y
    = { u.link y with down := (u.link y).down ++ u.visitEnds y } := by
  have hother : (u.endVisit .a none).link .b = u.link .b := link_endVisit_ne (by decide)
  have hends : (u.endVisit .a none).visitEnds .b = u.visitEnds .b := visitEnds_endVisit_ne (by decide)
  cases y with
  | a => exact (link_endVisit_ne (by decide)).trans (link_endVisit_self (hroom .a))
  | b => rw [link_endVisit_self (by rw [hother, hends]; exact hroom .b), hother, hends]

theorem raises_endVisits : ((u.endVisit .a none).endVisit .b none).work.raises = u.work.raises := by
  have hother : (u.endVisit .a none).link .b = u.link .b := link_endVisit_ne (by decide)
  have hends : (u.endVisit .a none).visitEnds .b = u.visitEnds .b := visitEnds_endVisit_ne (by decide)
  rw [raises_endVisit_of_room (by rw [hother, hends]; exact hroom .b), raises_endVisit_of_room (hroom .a)]

end

/-! ### States alike but for mode, notices and the request in hand -/

/-- Two states with the same aisle: they may differ in mode, notices, the store line's queue and the request in hand. -/
structure SameAisle (s v : State) : Prop where
  table : v.table = s.table
  slots : v.slots = s.slots
  streams : v.streams = s.streams
  coord : v.coord = s.coord
  links : v.links = s.links
  shuttles : v.shuttles = s.shuttles
  unsentAsks : v.unsentAsks = s.unsentAsks
  faults : v.faults = s.faults
  raises : v.work.raises = s.work.raises
  unique : v.store.unique = s.store.unique
  time : v.time = s.time
  timing : v.timing = s.timing

theorem sameAisle_executing (s : State) (tag : Byte) (answer : Bool) (q : Req) : SameAisle s (s.storeHunt.executing tag answer q) :=
  ⟨rfl, rfl, rfl, rfl, rfl, rfl, rfl, rfl, rfl, rfl, rfl, rfl⟩

section
variable {s v : State} (h : SameAisle s v)
include h

theorem SameAisle.setMode (m : Mode) : SameAisle s (v.setMode m) := by
  have hkeeps := v.setMode_keeps m
  refine ⟨?_, ?_, ?_, ?_, ?_, ?_, ?_, ?_, ?_, ?_, ?_, ?_⟩
  case refine_10 => exact (congrArg (fun f => f.store.unique) (v.fixed_setMode m)).trans h.unique
  all_goals rw [hkeeps]
  exacts [h.table, h.slots, h.streams, h.coord, h.links, h.shuttles, h.unsentAsks, h.faults, h.raises, h.time, h.timing]

theorem SameAisle.entry (k : Handle) : v.entry k = s.entry k := entry_of_table h.table k

theorem SameAisle.entries : v.entries = s.entries := by
  unfold State.entries
  simp only [h.entry]

theorem SameAisle.entryOf (p : Party) : v.entryOf p = s.entryOf p := by rw [State.entryOf, h.entries, State.entryOf]

theorem SameAisle.oneEntryEach (ho : OneEntryEach s) : OneEntryEach v := by
  intro a b e he f hf
  rw [h.entry] at he hf
  exact ho a b e he f hf

theorem SameAisle.slot (n : Level) (c : SlotCode) : v.slot n c = s.slot n c := by rw [State.slot, h.slots, State.slot]

theorem SameAisle.stream (i : StreamNo) : v.stream i = s.stream i := by rw [State.stream, h.streams, State.stream]

theorem SameAisle.link (y : Lift) : v.link y = s.link y := by rw [State.link, h.links, State.link]

theorem SameAisle.lift (y : Lift) : v.lift y = s.lift y := by rw [State.lift, h.coord, State.lift]

theorem SameAisle.shuttle (n : Level) : v.shuttle n = s.shuttle n := by rw [State.shuttle, h.shuttles, State.shuttle]

theorem SameAisle.refusal (r : Reason) (x : Handle × Entry) : v.refusal r x = s.refusal r x := by
  unfold State.refusal toParty
  rw [h.unique]

theorem SameAisle.refusals (r : Reason) (y : Lift) (l : List (Handle × Entry)) : v.refusals r y l = s.refusals r y l := by
  unfold State.refusals
  simp only [h.refusal]

theorem SameAisle.visitEnds (y : Lift) : v.visitEnds y = s.visitEnds y := visitEnds_of_alike (by rw [h.lift]) h.unique

theorem SameAisle.shuttle_sendParty (p : Party) (t : Tel) (about : Option Handle) (n : Level) :
    (v.sendParty p t about).shuttle n = (s.sendParty p t about).shuttle n := by
  rw [sendParty_of_ports h.links h.shuttles h.raises]
  rfl

end

/-! ### All entries revoked (R167, R168) -/

section
variable (v : State) (cause : DoubtCause)

/-- The state after all entries have been dismissed and DOUBT has been handed on, before the visits end. -/
def revoking : State := (v.dismissEach cause .revoked v.entries).flagDoubt v.entries

theorem revokeAll_eq : v.revokeAll cause = ((v.revoking cause).endVisit .a none).endVisit .b none := by
  have hstep : (fun (u : State) (x : Handle × Entry) => u.revokeEntry cause x.1 x.2)
      = fun u x => (u.dismissed cause .revoked x).checkDrain := funext fun u => funext fun x => revokeEntry_eq u cause x
  unfold revokeAll revoking dismissEach
  rw [← hstep]

theorem flagDoubt_keeps (l : List (Handle × Entry)) : v.flagDoubt l = { v with
    store := (v.flagDoubt l).store, notices := (v.flagDoubt l).notices } := by
  unfold flagDoubt
  split
  · exact v.handFlag_keeps .doubt
  · rfl

theorem unique_flagDoubt (l : List (Handle × Entry)) : (v.flagDoubt l).store.unique = v.store.unique := by
  unfold flagDoubt
  split
  · exact congrArg (fun f => f.store.unique) (v.fixed_handFlag .doubt)
  · rfl

/-- What is no concern of the visits after all entries have been revoked. -/
theorem revokeAll_keeps : v.revokeAll cause = { v.dismissEach cause .revoked v.entries with
    coord := (v.revokeAll cause).coord, links := (v.revokeAll cause).links, store := (v.revokeAll cause).store
    modeCtl := (v.revokeAll cause).modeCtl, notices := (v.revokeAll cause).notices, work := (v.revokeAll cause).work } := by
  rw [revokeAll_eq, endVisit_keeps .b, endVisit_keeps .a, revoking, flagDoubt_keeps]

variable {v cause}

theorem revoking_of_not_drain (hm : v.mode ≠ .drain) : (v.revoking cause).modeCtl = v.modeCtl := by
  rw [revoking, flagDoubt_keeps]
  exact modeCtl_dismissEach hm

theorem modeCtl_revokeAll (hm : v.mode ≠ .drain) : (v.revokeAll cause).modeCtl = v.modeCtl := by
  have hrevoking := revoking_of_not_drain (cause := cause) hm
  have hfirst : ((v.revoking cause).endVisit .a none).modeCtl = v.modeCtl :=
    (endVisit_of_not_drain (by rw [mode, hrevoking]; exact hm) .a).1.trans hrevoking
  rw [revokeAll_eq, (endVisit_of_not_drain (by rw [mode, hfirst]; exact hm) .b).1, hfirst]

theorem doubt_revokeAll (hm : v.mode ≠ .drain) (hg : ∃ x ∈ v.entries, x.2.phase.isGranted = true) :
    (v.revokeAll cause).notices.pending.doubt = true := by
  have hrevoking := revoking_of_not_drain (cause := cause) hm
  obtain ⟨hmode, hnotices⟩ := endVisit_of_not_drain (s := v.revoking cause) (by rw [mode, hrevoking]; exact hm) .a
  rw [revokeAll_eq, (endVisit_of_not_drain (by rw [mode, hmode, hrevoking]; exact hm) .b).2, hnotices]
  unfold revoking flagDoubt
  rw [if_pos (List.any_eq_true.mpr hg)]
  exact doubt_handFlag _

theorem RaisesAtLifts.revokeAll (h : v.RaisesAtLifts) : (v.revokeAll cause).RaisesAtLifts := by
  rw [revokeAll_eq]
  refine RaisesAtLifts.endVisit (RaisesAtLifts.endVisit ?_ .a) .b
  rw [revoking, flagDoubt_keeps]
  exact h.dismissEach

/-- With room for the REFUSE and the VISIT-END of each lift, both are sent and nothing is raised (R128). -/
theorem told_revokeAll (ho : OneEntryEach v) (hroom : ∀ y, (v.link y).down.length ≤ 6) :
    (∀ y, (v.revokeAll cause).link y = { v.link y with
      down := (v.link y).down ++ v.refusals .revoked y v.entries ++ v.visitEnds y })
    ∧ (v.revokeAll cause).work.raises = v.work.raises := by
  have hrefusals (y : Lift) : (v.link y).down.length + (v.refusals .revoked y v.entries).length ≤ 8 :=
    Nat.le_trans (Nat.add_le_add (hroom y) (length_refusals_entries_le ho .revoked y)) (by decide)
  have hlink (y : Lift) : (v.revoking cause).link y = { v.link y with down := (v.link y).down ++ v.refusals .revoked y v.entries } := by
    rw [revoking, flagDoubt_keeps]
    exact link_dismissEach (hrefusals y)
  have hends (y : Lift) : (v.revoking cause).visitEnds y = v.visitEnds y := by
    refine visitEnds_of_alike ?_ ?_
    · rw [revoking, flagDoubt_keeps, dismissEach_keeps]
      rfl
    · rw [revoking, unique_flagDoubt, unique_dismissEach]
  have hplaces (y : Lift) : ((v.revoking cause).link y).down.length + ((v.revoking cause).visitEnds y).length ≤ 8 := by
    have h6 := hroom y
    have h1 := length_refusals_entries_le ho .revoked y
    have h2 := v.length_visitEnds_le y
    rw [hlink, hends, List.length_append]
    omega
  rw [revokeAll_eq]
  refine ⟨fun y => by rw [link_endVisits hplaces, hlink, hends], ?_⟩
  rw [raises_endVisits hplaces, revoking, flagDoubt_keeps]
  exact raises_dismissEach hrefusals

end

/-- What all entries' revocation leaves, whatever is sent to lifts. -/
structure Revoked (s : State) (cause : DoubtCause) (t : State) : Prop where
  entry : ∀ k, t.entry k = none
  visit : ∀ y, (t.lift y).visit = none
  doubt : (∃ x ∈ s.entries, x.2.phase.isGranted = true) → t.notices.pending.doubt = true
  claimed : ∀ x ∈ s.entries, x.2.phase.isGranted = true → ∀ i ∈ x.2.items, ∀ n c content kind id, i.slot = some (n, c) →
    s.slot n c = .opened content (some ⟨kind, x.1, id⟩) → t.slot n c = .doubt content cause none none
  unclaimed : ∀ n c, (s.slot n c).claim = none → t.slot n c = s.slot n c
  list : ∀ i, (t.stream i).list = (s.stream i).list.map (fun r =>
    if i ≠ 0 ∧ s.entries.any (fun x => pledges x.2 i r.id) = true then { r with pledged := false } else r)
  unsentAsks : t.unsentAsks = s.unsentAsks.filter (fun m => s.entries.all (fun x => !m.asksAbout x.1))
  shuttle : ∀ n, t.shuttle n = match s.entryOf (.shuttle n) with
    | none => s.shuttle n
    | some x => (s.sendParty x.2.party (s.refusal .revoked x) (some x.1)).shuttle n

section
variable {s t u : State} {cause : DoubtCause} (h : Revoked s cause t)
include h

theorem Revoked.of_kept (htable : u.table = t.table) (hvisit : ∀ y, (u.lift y).visit = (t.lift y).visit) (hslots : u.slots = t.slots)
    (hlist : ∀ i, (u.stream i).list = (t.stream i).list) (hasks : u.unsentAsks = t.unsentAsks) (hshuttles : u.shuttles = t.shuttles)
    (hdoubt : t.notices.pending.doubt = true → u.notices.pending.doubt = true) : Revoked s cause u where
  entry := fun i => (entry_of_table htable i).trans (h.entry i)
  visit := fun y => (hvisit y).trans (h.visit y)
  doubt := fun hg => hdoubt (h.doubt hg)
  claimed := fun x hx hg i hi n c content kind id hs hc => by
    rw [slot, hslots]
    exact h.claimed x hx hg i hi n c content kind id hs hc
  unclaimed := fun n c hc => by
    rw [slot, hslots]
    exact h.unclaimed n c hc
  list := fun i => (hlist i).trans (h.list i)
  unsentAsks := hasks.trans h.unsentAsks
  shuttle := fun n => by
    rw [State.shuttle, hshuttles]
    exact h.shuttle n

theorem Revoked.of_unmoved (k : Unmoved t u) : Revoked s cause u :=
  h.of_kept k.table k.visit k.slots k.list k.unsentAsks k.shuttles k.doubt

theorem Revoked.setMode (m : Mode) : Revoked s cause (t.setMode m) := by
  have hkeeps := t.setMode_keeps m
  refine h.of_kept ?_ (fun y => ?_) ?_ (fun i => ?_) ?_ ?_ fun hd => ?_
  case refine_7 =>
    unfold State.setMode
    rw [notices_handFlag]
    exact hd
  all_goals rw [hkeeps]
  all_goals rfl

theorem Revoked.executed (tag : Byte) (answer : Bool) (code : Byte) (r : Option Reason) (data : List Byte) :
    Revoked s cause (t.executed tag answer code r data) :=
  h.of_kept rfl (fun _ => rfl) rfl (fun _ => rfl) rfl rfl id

theorem Revoked.wantReeval : Revoked s cause t.wantReeval :=
  h.of_kept rfl (fun _ => rfl) rfl (fun _ => rfl) rfl rfl id

end

theorem revoked_revokeAll {v : State} (ho : OneEntryEach v) (hm : v.mode ≠ .drain) {cause : DoubtCause} (hc : cause ≠ .actTimeout) :
    Revoked v cause (v.revokeAll cause) where
  entry := (runs_revokeAll v cause).2
  visit := v.visit_revokeAll cause
  doubt := doubt_revokeAll hm
  claimed := fun x hx hg i hi n c content kind id hs hclaim => by
    rw [revokeAll_keeps]
    exact slot_dismissEach_of_claim hclaim rfl hx v.nodup_handles hg ⟨i, hi, hs⟩ hc
  unclaimed := fun n c hclaim => by
    rw [revokeAll_keeps]
    refine slot_dismissEach_of_no_claim fun k hk => ?_
    rw [hclaim] at hk
    exact absurd hk (Option.not_mem_none k)
  list := fun i => by
    rw [revokeAll_keeps]
    exact list_dismissEach i
  unsentAsks := by
    rw [revokeAll_keeps]
    exact unsentAsks_dismissEach
  shuttle := fun n => by
    rw [revokeAll_keeps]
    exact (shuttle_dismissEach n).trans (handed_entries ho .revoked n)

theorem Revoked.of_sameAisle {s v t : State} {cause : DoubtCause} (h : Revoked v cause t) (k : SameAisle s v) : Revoked s cause t := by
  obtain ⟨hentry, hvisit, hdoubt, hclaimed, hunclaimed, hlist, hasks, hshuttle⟩ := h
  simp only [k.entries, k.slot, k.stream, k.unsentAsks, k.entryOf, k.refusal, k.shuttle_sendParty, k.shuttle]
    at hdoubt hclaimed hunclaimed hlist hasks hshuttle
  exact ⟨hentry, hvisit, hdoubt, hclaimed, hunclaimed, hlist, hasks, hshuttle⟩

/-! ### A resume with REVOKE, and a cleanup -/

section
variable {s x : State} (hx : SameAisle s x) (hr : s.work.raises = []) (ho : OneEntryEach s) {cause : DoubtCause}

include hx hr in
theorem raisesAtLifts_revokeAll : (x.revokeAll cause).RaisesAtLifts := by
  refine RaisesAtLifts.revokeAll fun q hq => ?_
  rw [hx.raises, hr] at hq
  exact absurd hq List.not_mem_nil

include hx ho

theorem revoked_of_sameAisle (hm : x.mode ≠ .drain) (hc : cause ≠ .actTimeout) : Revoked s cause (x.revokeAll cause) :=
  (revoked_revokeAll (hx.oneEntryEach ho) hm hc).of_sameAisle hx

include hr

/-- What lifts are told when their queues have room, and no fault is recorded (R39, R70). -/
theorem told_of_sameAisle (hroom : ∀ y, (s.link y).down.length ≤ 6) :
    (∀ y, (x.revokeAll cause).link y = { s.link y with
      down := (s.link y).down ++ s.refusals .revoked y s.entries ++ s.visitEnds y })
    ∧ (x.revokeAll cause).work.raises = [] ∧ (x.revokeAll cause).faults = s.faults := by
  obtain ⟨hlink, hraises⟩ := told_revokeAll (cause := cause) (hx.oneEntryEach ho) fun y => by
    rw [hx.link]
    exact hroom y
  refine ⟨fun y => ?_, hraises.trans (hx.raises.trans hr), ?_⟩
  · rw [hlink, hx.link, hx.refusals, hx.entries, hx.visitEnds]
  · rw [revokeAll_keeps, dismissEach_keeps]
    exact hx.faults

/-- A cleanup, whatever room the lifts' queues have. -/
theorem revoked_cleanup (hm : x.mode = .halt) : Revoked s .haltConfig x.cleanup.finish
    ∧ x.cleanup.finish.modeCtl = { x.modeCtl with mode := .config, motion := false } := by
  have hdrain : x.mode ≠ .drain := by rw [hm]; decide
  have hrevoked : Revoked s .haltConfig x.cleanup := (revoked_of_sameAisle hx ho hdrain (by decide)).setMode .config
  have hctl : x.cleanup.modeCtl = { x.modeCtl with mode := .config, motion := false } := by
    rw [cleanup, modeCtl_setMode, modeCtl_revokeAll hdrain]
    rfl
  have hraises : x.cleanup.RaisesAtLifts := by
    rw [cleanup, setMode_keeps]
    exact raisesAtLifts_revokeAll hx hr
  have hmoved := unmoved_finish_of_config (entries_of_empty hrevoked.entry) (congrArg ModeCtl.mode hctl) hraises
  exact ⟨hrevoked.of_unmoved hmoved, hmoved.modeCtl.trans hctl⟩

theorem told_cleanup (hm : x.mode = .halt) (hroom : ∀ y, (s.link y).down.length ≤ 6) :
    (∀ y, x.cleanup.finish.link y = { s.link y with
      down := (s.link y).down ++ s.refusals .revoked y s.entries ++ s.visitEnds y })
    ∧ x.cleanup.finish.faults = s.faults := by
  obtain ⟨hlink, hraises, hfaults⟩ := told_of_sameAisle (cause := .haltConfig) hx hr ho hroom
  have hrevoked : Revoked s .haltConfig x.cleanup :=
    (revoked_of_sameAisle hx ho (by rw [hm]; decide) (by decide)).setMode .config
  have hkeeps := (x.revokeAll .haltConfig).setMode_keeps .config
  have hafter : x.cleanup.work.raises = [] := by
    rw [cleanup, hkeeps]
    exact hraises
  obtain ⟨-, hlinks, hsame⟩ := unmoved_finish_of_calm (.inl (entries_of_empty hrevoked.entry)) hafter
  refine ⟨fun y => ?_, ?_⟩
  · rw [link, hlinks, cleanup, hkeeps]
    exact hlink y
  · rw [hsame, cleanup, hkeeps]
    exact hfaults

/-- A resume with REVOKE, with room in the lifts' queues. -/
theorem revoked_resumeRevoke (hroom : ∀ y, (s.link y).down.length ≤ 6) : Revoked s .revoked x.resumeRevoke.finish
    ∧ x.resumeRevoke.finish.modeCtl = { x.modeCtl with mode := .run, motion := true }
    ∧ (∀ y, x.resumeRevoke.finish.link y = { s.link y with
      down := (s.link y).down ++ s.refusals .revoked y s.entries ++ s.visitEnds y })
    ∧ x.resumeRevoke.finish.faults = s.faults := by
  have hrun := hx.setMode .run
  have hctl := x.modeCtl_setMode .run
  have hdrain : (x.setMode .run).mode ≠ .drain := by
    rw [mode, hctl]
    exact Mode.noConfusion
  obtain ⟨hlink, hraises, hfaults⟩ := told_of_sameAisle (cause := .revoked) hrun hr ho hroom
  have hrevoked : Revoked s .revoked x.resumeRevoke := (revoked_of_sameAisle hrun ho hdrain (by decide)).wantReeval
  obtain ⟨hmoved, hlinks, hsame⟩ := unmoved_finish_of_calm (.inl (entries_of_empty hrevoked.entry)) (show x.resumeRevoke.work.raises = [] from hraises)
  refine ⟨hrevoked.of_unmoved hmoved, ?_, fun y => ?_, hsame.trans hfaults⟩
  · rw [hmoved.modeCtl]
    exact (modeCtl_revokeAll hdrain).trans hctl
  · rw [link, hlinks]
    exact hlink y

end

end State

/-- Settles O52: a resume with REVOKE and a cleanup refuse all entries and end all visits (R167, R168). -/
theorem revokeAndCleanupEmptyTheTable : Obligations.RevokeAndCleanupEmptyTheTable := by
  unfold Obligations.RevokeAndCleanupEmptyTheTable
  intro s h ht hm ho emptied doubted refused fetches names unpledged discarded told boxed
  have hr : s.work.raises = [] := by rw [ht.rests]; rfl
  have hemptied {t : State} {cause : DoubtCause} (hk : State.Revoked s cause t) : emptied t := ⟨hk.entry, hk.visit⟩
  have hdoubted {t : State} {cause : DoubtCause} (hk : State.Revoked s cause t) : doubted t cause := by
    refine ⟨fun k e he hg => ?_, hk.unclaimed⟩
    have hmem : (k, e) ∈ s.entries := (s.mem_entries_iff k e).mpr he
    exact ⟨hk.doubt ⟨_, hmem, hg⟩, hk.claimed _ hmem hg⟩
  have hfetches (e : Entry) : fetches e = (e.isLiftFetch && e.phase.isGranted) := by
    simp only [fetches, Entry.isLiftFetch]
    cases e.party <;> cases e.kind <;> simp
  have hunpledged {t : State} {cause : DoubtCause} (hk : State.Revoked s cause t) : unpledged t := by
    intro i
    rw [hk.list i]
    refine List.map_congr_left fun r _ => if_congr (and_congr_right fun _ => ?_) rfl rfl
    rw [State.any_entries]
    simp only [State.pledges, names, hfetches]
  have hdiscarded {t : State} {cause : DoubtCause} (hk : State.Revoked s cause t) : discarded t := by
    refine hk.unsentAsks.trans (List.filter_congr fun m _ => ?_)
    rw [State.all_entries]
    refine congrArg (fun f => allHandles.all f) (funext fun k => ?_)
    cases s.entry k <;> simp
  have hboxed {t : State} {cause : DoubtCause} (hk : State.Revoked s cause t) : boxed t := by
    intro n
    rw [hk.shuttle n]
    cases s.entryOf (.shuttle n) <;> rfl
  have htold {t : State} (hlink : ∀ y, t.link y = { s.link y with
      down := (s.link y).down ++ s.refusals .revoked y s.entries ++ s.visitEnds y }) (hfaults : t.faults = s.faults) : told t := by
    refine ⟨fun y => ?_, hfaults⟩
    rw [hlink y, State.refusals_entries ho]
    cases s.entryOf (.lift y) <;> rfl
  refine ⟨fun hstop hpending hroom => ?_, ?_⟩
  case refine_1 =>
    let x := s.storeHunt.executing h.tag true (.modeSet 1 2)
    have hx : State.SameAisle s x := s.sameAisle_executing h.tag true (.modeSet 1 2)
    obtain ⟨hk, hctl, hlink, hfaults⟩ := State.revoked_resumeRevoke hx hr ho hroom
    have hfree : ¬ x.RunBlocked := by
      rintro (hs | ⟨c, ⟨f, hf⟩, hc⟩)
      · exact Bool.false_ne_true (hstop.symm.trans hs)
      · exact Option.some_ne_none f (hf.symm.trans (hpending c hc))
    have hdone := modeSet_done ht (target := .run) (resume := 2) rfl ((State.changeMode_of_halt (s := x) hm).2.1.trans
      ((State.whenRunnable_of_none (State.runRefusal_of_unblocked (fun hf => absurd hf Bool.false_ne_true) hfree) _).trans
        (by rw [State.resume_of_revoke rfl])))
    have hk := hk.executed h.tag true 0x10 none [x.resumeRevoke.finish.mode.byte]
    exact ⟨_, hdone, hemptied hk, hdoubted hk, hunpledged hk, hdiscarded hk, htold hlink hfaults, hboxed hk,
      congrArg ModeCtl.mode hctl, congrArg ModeCtl.motion hctl⟩
  case refine_2 =>
    let x := s.storeHunt.executing h.tag true (.modeSet 0 0)
    have hx : State.SameAisle s x := s.sameAisle_executing h.tag true (.modeSet 0 0)
    obtain ⟨hk, hctl⟩ := State.revoked_cleanup hx hr ho hm
    have hdone := modeSet_done ht (target := .config) (resume := 0) rfl (State.changeMode_of_halt (s := x) hm).1
    have hk := hk.executed h.tag true 0x10 none [x.cleanup.finish.mode.byte]
    refine ⟨_, hdone, hemptied hk, hdoubted hk, hunpledged hk, hdiscarded hk, fun hroom => ?_, hboxed hk,
      congrArg ModeCtl.mode hctl, congrArg ModeCtl.motion hctl⟩
    obtain ⟨hlink, hfaults⟩ := State.told_cleanup hx hr ho hm hroom
    exact htold hlink hfaults

end Sys2Proof.Machine

/-! ## An entry into DRAIN (R161, R162) -/

namespace Sys2Proof.Machine.State

/-! ### Claims that nobody owns -/

theorem releaseClaims_of_unowned {s : State} {h : Handle} (hn : ∀ n c, ∀ k ∈ (s.slot n c).claim, k.handle ≠ h) (items : List Item) :
    s.releaseClaims h items = s := by
  have hrelease (n : Level) (c : SlotCode) : s.releaseClaim n c h = s := by
    unfold releaseClaim
    split
    next content k hk =>
      refine if_neg (hn n c k ?_)
      rw [hk]
      rfl
    all_goals rfl
  unfold releaseClaims
  induction items with
  | nil => rfl
  | cons i items ih =>
    rw [List.foldl_cons]
    refine Eq.trans (congrArg (fun u => List.foldl _ u items) ?_) ih
    split
    · exact hrelease _ _
    · rfl

section
variable {s : State} {cause : DoubtCause} {r : Reason} {x : Handle × Entry} {l : List (Handle × Entry)}

/-- An entry that is not GRANTED and has no claim leaves all slots as they are. -/
theorem slots_dismissed_of_unowned (hg : x.2.phase.isGranted = false) (hn : ∀ n c, ∀ k ∈ (s.slot n c).claim, k.handle ≠ x.1) :
    (s.dismissed cause r x).slots = s.slots := by
  have hdoubt : s.doubtedFor cause x = s := by
    unfold doubtedFor
    rw [hg]
    rfl
  have hkeeps := s.sendParty_keeps x.2.party (s.refusal r x) (some x.1)
  rw [dismissed_eq, hdoubt, removed_keeps]
  generalize s.sendParty x.2.party (s.refusal r x) (some x.1) = u at hkeeps ⊢
  dsimp only
  rw [releaseClaims_of_unowned, hkeeps]
  rw [hkeeps]
  exact hn

theorem slots_dismissEach_of_unowned (hg : ∀ x ∈ l, x.2.phase.isGranted = false)
    (hn : ∀ x ∈ l, ∀ n c, ∀ k ∈ (s.slot n c).claim, k.handle ≠ x.1) : (s.dismissEach cause r l).slots = s.slots := by
  induction l generalizing s with
  | nil => rfl
  | cons x l ih =>
    have hstep : (s.dismissed cause r x).checkDrain.slots = s.slots := by
      rw [checkDrain_keeps]
      exact slots_dismissed_of_unowned (hg x List.mem_cons_self) (hn x List.mem_cons_self)
    rw [dismissEach_cons, ih (fun y hy => hg y (List.mem_cons_of_mem _ hy)) fun y hy n c => ?_, hstep]
    rw [slot, hstep]
    exact hn y (List.mem_cons_of_mem _ hy) n c

theorem list_dismissEach_of_not_granted (hg : ∀ x ∈ l, x.2.phase.isGranted = false) (i : StreamNo) :
    ((s.dismissEach cause r l).stream i).list = (s.stream i).list := by
  have hnone (id : ToteId) : l.any (fun x => pledges x.2 i id) = false := by
    refine List.any_eq_false.mpr fun x hx => ?_
    unfold pledges
    rw [hg x hx, Bool.and_false, Bool.false_and]
    exact Bool.false_ne_true
  rw [list_dismissEach]
  simp only [hnone, Bool.false_eq_true, and_false, if_false, List.map_id']

/-- While an entry stays there is no return to CONFIG (R162). -/
theorem modeCtl_dismissEach_of_kept {k : Handle} (hk : s.entry k ≠ none) (hl : k ∉ l.map (fun x => x.1)) :
    (s.dismissEach cause r l).modeCtl = s.modeCtl := by
  induction l generalizing s with
  | nil => rfl
  | cons x l ih =>
    rw [List.map_cons, List.mem_cons, not_or] at hl
    have hentry : (s.dismissed cause r x).entry k = s.entry k := (entry_dismissed k).trans (if_neg hl.1)
    have hsame : (s.dismissed cause r x).checkDrain = s.dismissed cause r x :=
      checkDrain_of_not_last (.inr (.inl ⟨k, by rw [hentry]; exact hk⟩))
    rw [dismissEach_cons, hsame, ih (by rw [hentry]; exact hk) hl.2, dismissed_keeps]

end

/-! ### DRAIN and the return to CONFIG -/

/-- The mode unit in DRAIN, or after the return to CONFIG, with the rest of it as in another one (R157, R162). -/
def Draining (m : ModeCtl) (s : State) : Prop :=
  s.modeCtl = { m with mode := .drain, motion := true } ∨ s.modeCtl = { m with mode := .config, motion := false }

section
variable {m : ModeCtl} {s : State}

theorem Draining.not_run (h : Draining m s) : s.mode ≠ .run := by
  unfold mode
  rcases h with h | h <;> rw [h] <;> exact Mode.noConfusion

theorem Draining.of_modeCtl {t : State} (h : Draining m s) (ht : t.modeCtl = s.modeCtl) : Draining m t := by
  unfold Draining
  rw [ht]
  exact h

theorem Draining.checkDrain (h : Draining m s) : Draining m s.checkDrain := by
  unfold State.checkDrain
  split
  · refine .inr ?_
    rw [modeCtl_setMode]
    rcases h with h | h <;> rw [h] <;> rfl
  · exact h

theorem Draining.dismissEach (h : Draining m s) (cause : DoubtCause) (r : Reason) (l : List (Handle × Entry)) :
    Draining m (s.dismissEach cause r l) := by
  induction l generalizing s with
  | nil => exact h
  | cons x l ih => exact ih (Draining.checkDrain (h.of_modeCtl (by rw [dismissed_keeps])))

theorem Draining.endVisit (h : Draining m s) (x : Lift) : Draining m (s.endVisit x none) := by
  cases hv : (s.lift x).visit with
  | none => rwa [endVisit_of_none hv]
  | some v =>
    rw [endVisit_of_some hv]
    exact Draining.checkDrain (h.of_modeCtl (by rw [visitEnded_keeps]))

/-- With the table empty and no visit open the aisle is in CONFIG (R162). -/
theorem Draining.config_of_empty (h : Draining m s) (he : ∀ k, s.entry k = none) (hv : ∀ y, (s.lift y).visit = none) :
    s.checkDrain.modeCtl = { m with mode := .config, motion := false } := by
  rcases h with h | h
  · have hmode : s.mode = .drain := congrArg ModeCtl.mode h
    rw [checkDrain_of_last hmode he hv, modeCtl_setMode, h]
    rfl
  · have hmode : s.mode = .config := congrArg ModeCtl.mode h
    rw [checkDrain_of_not_last (.inl (by rw [hmode]; exact Mode.noConfusion)), h]

theorem modeCtl_endVisit_of_kept {k : Handle} (hk : s.entry k ≠ none) (x : Lift) : (s.endVisit x none).modeCtl = s.modeCtl := by
  cases hv : (s.lift x).visit with
  | none => rw [endVisit_of_none hv]
  | some v =>
    have hentry : (s.visitEnded x v.tag v).entry k = s.entry k := by
      rw [visitEnded_keeps]
      rfl
    rw [endVisit_of_some hv, Option.getD_none,
      checkDrain_of_not_last (.inr (.inl ⟨k, by rw [hentry]; exact hk⟩)), visitEnded_keeps]

end

/-! ### Idle visits (R161) -/

/-- The party has a GRANTED entry. -/
def grantedTo (s : State) (p : Party) : Bool := (s.entryOf p).any (fun q => q.2.phase.isGranted)

theorem grantedTo_iff {s : State} (ho : OneEntryEach s) (p : Party) :
    s.grantedTo p = true ↔ ∃ k e, s.entry k = some e ∧ e.party = p ∧ e.phase.isGranted = true := by
  unfold grantedTo
  rw [Option.any_eq_true]
  constructor
  · rintro ⟨⟨k, e⟩, hq, hg⟩
    obtain ⟨he, hp, -⟩ := (entryOf_eq_some_iff s p k e).mp hq
    exact ⟨k, e, he, hp, hg⟩
  · rintro ⟨k, e, he, hp, hg⟩
    have hmem : (k, e) ∈ (s.entryOf p).toList := by
      rw [← filter_party_entries ho]
      exact List.mem_filter.mpr ⟨(s.mem_entries_iff k e).mpr he, decide_eq_true hp⟩
    exact ⟨(k, e), Option.mem_toList.mp hmem, hg⟩

section
variable {u : State} {x y : Lift}

theorem endIdleVisit_eq (x : Lift) : u.endIdleVisit x = if u.grantedTo (.lift x) then u else u.endVisit x none := by
  unfold endIdleVisit grantedTo
  cases u.entryOf (.lift x) <;> rfl

theorem endIdleVisit_keeps (x : Lift) : u.endIdleVisit x = { u with
    coord := (u.endIdleVisit x).coord, links := (u.endIdleVisit x).links, store := (u.endIdleVisit x).store
    modeCtl := (u.endIdleVisit x).modeCtl, notices := (u.endIdleVisit x).notices
    work := { u.work with raises := (u.endIdleVisit x).work.raises } } := by
  rw [endIdleVisit_eq]
  split
  · rfl
  · exact endVisit_keeps x

theorem grantedTo_endIdleVisit (p : Party) : (u.endIdleVisit x).grantedTo p = u.grantedTo p := by
  rw [endIdleVisit_keeps]
  rfl

/-- The VISIT-END of a visit that ends since its lift has no GRANTED entry. -/
def idleEnds (u : State) (y : Lift) : List DownItem := if u.grantedTo (.lift y) then [] else u.visitEnds y

theorem idleEnds_eq (u : State) (y : Lift) : u.idleEnds y = match (u.lift y).visit with
    | none => []
    | some v => if u.grantedTo (.lift y) then []
      else [⟨u.toParty (.lift y) kVisitEnd v.tag (.visit (levelByte v.level) (byte v.p) (byte v.f)), true, false⟩] := by
  unfold idleEnds visitEnds
  cases (u.lift y).visit with
  | none => exact ite_self _
  | some v => rfl

theorem idleEnds_endIdleVisit_ne (h : y ≠ x) : (u.endIdleVisit x).idleEnds y = u.idleEnds y := by
  unfold idleEnds
  rw [grantedTo_endIdleVisit, endIdleVisit_eq]
  split
  · rfl
  · split
    · rfl
    · exact visitEnds_endVisit_ne h

theorem link_endIdleVisit_ne (h : y ≠ x) : (u.endIdleVisit x).link y = u.link y := by
  rw [endIdleVisit_eq]
  split
  · rfl
  · exact link_endVisit_ne h

theorem link_endIdleVisit_self (hroom : (u.link x).down.length + (u.idleEnds x).length ≤ 8) :
    (u.endIdleVisit x).link x = { u.link x with down := (u.link x).down ++ u.idleEnds x } := by
  unfold idleEnds at hroom ⊢
  rw [endIdleVisit_eq]
  split
  · rw [List.append_nil]
  next h =>
    rw [if_neg h] at hroom
    exact link_endVisit_self hroom

theorem raises_endIdleVisit (hroom : (u.link x).down.length + (u.idleEnds x).length ≤ 8) :
    (u.endIdleVisit x).work.raises = u.work.raises := by
  unfold idleEnds at hroom
  rw [endIdleVisit_eq]
  split
  · rfl
  next h =>
    rw [if_neg h] at hroom
    exact raises_endVisit_of_room hroom

theorem visit_endIdleVisit (x y : Lift) : ((u.endIdleVisit x).lift y).visit
    = if y = x ∧ u.grantedTo (.lift x) = false then none else (u.lift y).visit := by
  rw [endIdleVisit_eq]
  cases hg : u.grantedTo (.lift x) with
  | true =>
    rw [if_pos rfl, if_neg fun h => Bool.false_ne_true h.2.symm]
  | false =>
    rw [if_neg Bool.false_ne_true, lift_endVisit]
    by_cases h : y = x
    · rw [if_pos h, if_pos ⟨h, rfl⟩]
    · rw [if_neg h, if_neg fun hy => h hy.1]

theorem Draining.endIdleVisit {m : ModeCtl} (h : Draining m u) (x : Lift) : Draining m (u.endIdleVisit x) := by
  rw [endIdleVisit_eq]
  split
  · exact h
  · exact h.endVisit x

theorem modeCtl_endIdleVisit_of_kept {k : Handle} (hk : u.entry k ≠ none) (x : Lift) : (u.endIdleVisit x).modeCtl = u.modeCtl := by
  rw [endIdleVisit_eq]
  split
  · rfl
  · exact modeCtl_endVisit_of_kept hk x

/-- Both lifts' visits, those of lifts without a GRANTED entry ended. -/
def endIdleVisits (u : State) : State := (u.endIdleVisit .a).endIdleVisit .b

theorem endIdleVisits_keeps : u.endIdleVisits = { u with
    coord := u.endIdleVisits.coord, links := u.endIdleVisits.links, store := u.endIdleVisits.store
    modeCtl := u.endIdleVisits.modeCtl, notices := u.endIdleVisits.notices
    work := { u.work with raises := u.endIdleVisits.work.raises } } := by
  unfold endIdleVisits
  rw [endIdleVisit_keeps .b, endIdleVisit_keeps .a]

theorem visit_endIdleVisits (y : Lift) : (u.endIdleVisits.lift y).visit
    = if u.grantedTo (.lift y) then (u.lift y).visit else none := by
  unfold endIdleVisits
  rw [visit_endIdleVisit, visit_endIdleVisit, grantedTo_endIdleVisit]
  cases y with
  | a => cases u.grantedTo (.lift .a) <;> simp
  | b => cases u.grantedTo (.lift .b) <;> simp

section
variable (hroom : ∀ y, (u.link y).down.length + (u.idleEnds y).length ≤ 8)
include hroom

theorem link_endIdleVisits (y : Lift) : u.endIdleVisits.link y = { u.link y with down := (u.link y).down ++ u.idleEnds y } := by
  have hother : (u.endIdleVisit .a).link .b = u.link .b := link_endIdleVisit_ne (by decide)
  have hends : (u.endIdleVisit .a).idleEnds .b = u.idleEnds .b := idleEnds_endIdleVisit_ne (by decide)
  unfold endIdleVisits
  cases y with
  | a => exact (link_endIdleVisit_ne (by decide)).trans (link_endIdleVisit_self (hroom .a))
  | b => rw [link_endIdleVisit_self (by rw [hother, hends]; exact hroom .b), hother, hends]

theorem raises_endIdleVisits : u.endIdleVisits.work.raises = u.work.raises := by
  have hother : (u.endIdleVisit .a).link .b = u.link .b := link_endIdleVisit_ne (by decide)
  have hends : (u.endIdleVisit .a).idleEnds .b = u.idleEnds .b := idleEnds_endIdleVisit_ne (by decide)
  unfold endIdleVisits
  rw [raises_endIdleVisit (by rw [hother, hends]; exact hroom .b), raises_endIdleVisit (hroom .a)]

end

end

end Sys2Proof.Machine.State

/-! ## What an entry into DRAIN leaves (R39, R52, R161, R162) -/

namespace Sys2Proof.Machine.State

/-- The entries that an entry into DRAIN refuses: those that are not GRANTED (R161). -/
def leavers (s : State) : List (Handle × Entry) := s.entries.filter (fun x => !x.2.phase.isGranted)

section
variable {s : State}

theorem mem_leavers_iff (x : Handle × Entry) : x ∈ s.leavers ↔ s.entry x.1 = some x.2 ∧ x.2.phase.isGranted = false := by
  rw [leavers, List.mem_filter, mem_entries_iff, Bool.not_eq_true']

theorem mem_leavers_map_iff (k : Handle) :
    k ∈ s.leavers.map (fun x => x.1) ↔ ∃ e, s.entry k = some e ∧ e.phase.isGranted = false := by
  rw [List.mem_map]
  constructor
  · rintro ⟨x, hx, rfl⟩
    exact ⟨x.2, (mem_leavers_iff x).mp hx⟩
  · rintro ⟨e, he⟩
    exact ⟨(k, e), (mem_leavers_iff (k, e)).mpr he, rfl⟩

theorem filter_party_leavers (ho : OneEntryEach s) (p : Party) : s.leavers.filter (fun x => x.2.party = p)
    = (s.entryOf p).toList.filter (fun x => !x.2.phase.isGranted) := by
  rw [leavers, List.filter_filter, ← filter_party_entries ho, List.filter_filter]
  exact List.filter_congr fun x _ => Bool.and_comm _ _

theorem refusals_leavers (ho : OneEntryEach s) (r : Reason) (y : Lift) : s.refusals r y s.leavers = match s.entryOf (.lift y) with
    | none => []
    | some x => if x.2.phase.isGranted then [] else [⟨s.refusal r x, true, false⟩] := by
  unfold refusals
  rw [filter_party_leavers ho]
  cases s.entryOf (.lift y) with
  | none => rfl
  | some x => cases hg : x.2.phase.isGranted <;> simp [hg]

theorem length_refusals_leavers_le (ho : OneEntryEach s) (r : Reason) (y : Lift) : (s.refusals r y s.leavers).length ≤ 1 := by
  rw [refusals_leavers ho]
  split
  · simp
  · split <;> simp

theorem handed_leavers (ho : OneEntryEach s) (r : Reason) (n : Level) :
    (s.leavers.filter (fun x => x.2.party = .shuttle n)).foldl (fun v x => handed v (s.refusal r x) (some x.1)) (s.shuttle n)
      = match s.entryOf (.shuttle n) with
        | none => s.shuttle n
        | some x => if x.2.phase.isGranted then s.shuttle n
          else (s.sendParty x.2.party (s.refusal r x) (some x.1)).shuttle n := by
  rw [filter_party_leavers ho]
  cases hx : s.entryOf (.shuttle n) with
  | none => rfl
  | some x =>
    have hparty : x.2.party = .shuttle n := ((entryOf_eq_some_iff s _ x.1 x.2).mp hx).2.1
    cases hg : x.2.phase.isGranted with
    | true => simp [hg]
    | false =>
      have hlist : (some x).toList.filter (fun x => !x.2.phase.isGranted) = [x] := by simp [hg]
      rw [hlist, List.foldl_cons, List.foldl_nil]
      simp only [hg, Bool.false_eq_true, if_false]
      rw [hparty, sendParty, shuttle_sendShuttle, if_pos rfl]

theorem foldl_refuseEntry (r : Reason) {l : List (Handle × Entry)} (hl : ∀ x ∈ l, x.2.phase.isGranted = false) (s : State) :
    l.foldl (fun u x => u.refuseEntry x.1 x.2 r) s = s.dismissEach .revoked r l := by
  induction l generalizing s with
  | nil => rfl
  | cons x l ih =>
    rw [List.foldl_cons, dismissEach_cons, refuseEntry_eq s .revoked r (hl x List.mem_cons_self)]
    exact ih (fun y hy => hl y (List.mem_cons_of_mem _ hy)) _

/-- The state in DRAIN after the entries that are not GRANTED have been refused. -/
def leaving (s : State) : State := s.dismissEach .revoked .draining s.leavers

theorem drain_eq (x : State) : x.drain = (x.setMode .drain).leaving.endIdleVisits.checkDrain := by
  unfold leaving endIdleVisits
  rw [← foldl_refuseEntry .draining (fun x hx => ((mem_leavers_iff x).mp hx).2)]
  rfl

theorem entry_leaving (k : Handle) : s.leaving.entry k = (s.entry k).filter (fun e => e.phase.isGranted) := by
  rw [leaving, entry_dismissEach]
  by_cases hk : k ∈ s.leavers.map (fun x => x.1)
  · obtain ⟨e, he, hg⟩ := (mem_leavers_map_iff k).mp hk
    rw [if_pos hk, he, Option.filter_some, hg]
    rfl
  · rw [if_neg hk]
    cases he : s.entry k with
    | none => rfl
    | some e =>
      have hg : e.phase.isGranted = true := by
        by_contra h
        exact hk ((mem_leavers_map_iff k).mpr ⟨e, he, Bool.eq_false_iff.mpr h⟩)
      rw [Option.filter_some, hg]
      rfl

theorem entry_leaving_eq_some_iff (k : Handle) (e : Entry) :
    s.leaving.entry k = some e ↔ s.entry k = some e ∧ e.phase.isGranted = true := by
  rw [entry_leaving, Option.filter_eq_some_iff]

section
variable (ho : OneEntryEach s)
include ho

theorem grantedTo_leaving (p : Party) : s.leaving.grantedTo p = s.grantedTo p := by
  have hleft : OneEntryEach s.leaving := fun a b e he f hf =>
    ho a b e ((entry_leaving_eq_some_iff a e).mp he).1 f ((entry_leaving_eq_some_iff b f).mp hf).1
  rw [Bool.eq_iff_iff, grantedTo_iff hleft, grantedTo_iff ho]
  refine exists_congr fun k => exists_congr fun e => ?_
  rw [entry_leaving_eq_some_iff]
  exact ⟨fun h => ⟨h.1.1, h.2⟩, fun h => ⟨⟨h.1, h.2.2⟩, h.2⟩⟩

theorem idleEnds_leaving (y : Lift) : s.leaving.idleEnds y = s.idleEnds y := by
  unfold idleEnds
  rw [grantedTo_leaving ho]
  refine if_congr Iff.rfl rfl (visitEnds_of_alike ?_ ?_)
  · rw [leaving, dismissEach_keeps]
    rfl
  · rw [leaving, unique_dismissEach]

omit ho in
theorem length_idleEnds_le (s : State) (y : Lift) : (s.idleEnds y).length ≤ 1 := by
  unfold idleEnds
  split
  · exact Nat.zero_le _
  · exact s.length_visitEnds_le y

variable (hroom : ∀ y, (s.link y).down.length ≤ 6)
include hroom

/-- Both telegrams of a lift find a place (R128). -/
theorem told_leaving : (∀ y, s.leaving.endIdleVisits.link y = { s.link y with
      down := (s.link y).down ++ s.refusals .draining y s.leavers ++ s.idleEnds y })
    ∧ s.leaving.endIdleVisits.work.raises = s.work.raises := by
  have hrefusals (y : Lift) : (s.link y).down.length + (s.refusals .draining y s.leavers).length ≤ 8 :=
    Nat.le_trans (Nat.add_le_add (hroom y) (length_refusals_leavers_le ho .draining y)) (by decide)
  have hlink (y : Lift) : s.leaving.link y = { s.link y with down := (s.link y).down ++ s.refusals .draining y s.leavers } :=
    link_dismissEach (hrefusals y)
  have hplaces (y : Lift) : (s.leaving.link y).down.length + (s.leaving.idleEnds y).length ≤ 8 := by
    have h6 := hroom y
    have h1 := length_refusals_leavers_le ho .draining y
    have h2 := s.length_idleEnds_le y
    rw [hlink, idleEnds_leaving ho, List.length_append]
    omega
  refine ⟨fun y => by rw [link_endIdleVisits hplaces, hlink, idleEnds_leaving ho], ?_⟩
  rw [raises_endIdleVisits hplaces]
  exact raises_dismissEach hrefusals

end

/-- What an entry into DRAIN leaves (R161, R162). -/
structure DrainLeaves (s t : State) : Prop where
  link : ∀ y, t.link y = { s.link y with down := (s.link y).down ++ s.refusals .draining y s.leavers ++ s.idleEnds y }
  shuttle : ∀ n, t.shuttle n = match s.entryOf (.shuttle n) with
    | none => s.shuttle n
    | some x => if x.2.phase.isGranted then s.shuttle n
      else (s.sendParty x.2.party (s.refusal .draining x) (some x.1)).shuttle n
  unsentAsks : t.unsentAsks = s.unsentAsks.filter (fun m => s.leavers.all (fun x => !m.asksAbout x.1))
  slots : t.slots = s.slots
  list : ∀ i, (t.stream i).list = (s.stream i).list
  faults : t.faults = s.faults
  entry : ∀ k, t.entry k = (s.entry k).filter (fun e => e.phase.isGranted)
  visit : ∀ y, (t.lift y).visit = if s.grantedTo (.lift y) then (s.lift y).visit else none

theorem DrainLeaves.of_unmoved {s t u : State} (h : DrainLeaves s t) (k : Unmoved t u) (hlinks : u.links = t.links)
    (hfaults : u.faults = t.faults) : DrainLeaves s u where
  link := fun y => by
    rw [State.link, hlinks]
    exact h.link y
  shuttle := fun n => by
    rw [State.shuttle, k.shuttles]
    exact h.shuttle n
  unsentAsks := k.unsentAsks.trans h.unsentAsks
  slots := k.slots.trans h.slots
  list := fun i => (k.list i).trans (h.list i)
  faults := hfaults.trans h.faults
  entry := fun i => (entry_of_table k.table i).trans (h.entry i)
  visit := fun y => (k.visit y).trans (h.visit y)

theorem DrainLeaves.executed {s t : State} (h : DrainLeaves s t) (tag : Byte) (answer : Bool) (code : Byte) (r : Option Reason)
    (data : List Byte) : DrainLeaves s (t.executed tag answer code r data) :=
  h.of_unmoved ⟨rfl, fun _ => rfl, rfl, fun _ => rfl, rfl, rfl, rfl, id⟩ rfl rfl

theorem DrainLeaves.of_sameAisle {s v t : State} (h : DrainLeaves v t) (k : SameAisle s v) : DrainLeaves s t := by
  have hleavers : v.leavers = s.leavers := by rw [leavers, k.entries, leavers]
  have hgranted (p : Party) : v.grantedTo p = s.grantedTo p := by rw [grantedTo, k.entryOf, grantedTo]
  have hends (y : Lift) : v.idleEnds y = s.idleEnds y := by rw [idleEnds, hgranted, k.visitEnds, idleEnds]
  obtain ⟨hlink, hshuttle, hasks, hslots, hlist, hfaults, hentry, hvisit⟩ := h
  simp only [k.link, k.refusals, hleavers, hends, k.shuttle, k.entryOf, k.refusal, k.shuttle_sendParty, k.unsentAsks, k.stream,
    k.entry, k.lift, hgranted] at hlink hshuttle hasks hlist hentry hvisit
  exact ⟨hlink, hshuttle, hasks, hslots.trans k.slots, hlist, hfaults.trans k.faults, hentry, hvisit⟩

section
variable {v : State} (ho : OneEntryEach v) (hown : ClaimsOwned v) (hroom : ∀ y, (v.link y).down.length ≤ 6)
include ho hown hroom

/-- Before the end of the step. -/
theorem drainLeaves_leaving : DrainLeaves v v.leaving.endIdleVisits.checkDrain := by
  have hcheck := v.leaving.endIdleVisits.checkDrain_keeps
  have hends := endIdleVisits_keeps (u := v.leaving)
  have hfaults : v.leaving.faults = v.faults := by rw [leaving, dismissEach_keeps]
  have hlift (y : Lift) : v.leaving.lift y = v.lift y := by
    rw [leaving, dismissEach_keeps]
    rfl
  have hgone : ∀ x ∈ v.leavers, x.2.phase.isGranted = false := fun x hx => ((mem_leavers_iff x).mp hx).2
  have hunowned : ∀ x ∈ v.leavers, ∀ n c, ∀ k ∈ (v.slot n c).claim, k.handle ≠ x.1 := by
    intro x hx n c k hk heq
    obtain ⟨he, hg⟩ := (mem_leavers_iff x).mp hx
    obtain ⟨e, hown, hgranted, -⟩ := hown n c k hk
    rw [heq, Option.mem_def, he] at hown
    rw [← Option.some.inj hown, hg] at hgranted
    exact Bool.false_ne_true hgranted
  have hvisit (y : Lift) : (v.leaving.endIdleVisits.checkDrain.lift y).visit = if v.grantedTo (.lift y) then (v.lift y).visit else none := by
    rw [lift_checkDrain, visit_endIdleVisits, grantedTo_leaving ho, hlift]
  have hentry (k : Handle) : v.leaving.endIdleVisits.checkDrain.entry k = v.leaving.entry k :=
    entry_of_table (t := v.leaving.endIdleVisits.checkDrain) (s := v.leaving) (by rw [hcheck, hends]) k
  refine ⟨fun y => ?_, fun n => ?_, ?_, ?_, fun i => ?_, ?_, fun k => (hentry k).trans (entry_leaving k), hvisit⟩
  all_goals rw [hcheck]
  · exact (told_leaving ho hroom).1 y
  · rw [hends]
    exact (shuttle_dismissEach n).trans (handed_leavers ho .draining n)
  · rw [hends]
    exact unsentAsks_dismissEach
  · rw [hends]
    exact slots_dismissEach_of_unowned hgone hunowned
  · rw [hends]
    exact list_dismissEach_of_not_granted hgone i
  · rw [hends]
    exact hfaults

omit ho hown hroom in
theorem modeCtl_leaving {m : ModeCtl} (hm : v.modeCtl = { m with mode := .drain, motion := true }) :
    Draining m v.leaving.endIdleVisits.checkDrain
    ∧ (∀ k e, v.entry k = some e → e.phase.isGranted = true →
      v.leaving.endIdleVisits.checkDrain.modeCtl = { m with mode := .drain, motion := true })
    ∧ ((∀ k e, v.entry k = some e → e.phase.isGranted = false) →
      v.leaving.endIdleVisits.checkDrain.modeCtl = { m with mode := .config, motion := false }) := by
  have hdraining : Draining m v.leaving.endIdleVisits :=
    ((Draining.dismissEach (.inl hm) .revoked .draining v.leavers).endIdleVisit .a).endIdleVisit .b
  have hentry (k : Handle) : v.leaving.endIdleVisits.entry k = v.leaving.entry k := by
    rw [endIdleVisits_keeps]
    rfl
  refine ⟨hdraining.checkDrain, fun k e he hg => ?_, fun hnone => ?_⟩
  · have hstays : v.leaving.entry k ≠ none := by
      rw [(entry_leaving_eq_some_iff k e).mpr ⟨he, hg⟩]
      exact Option.some_ne_none e
    have hkey : k ∉ v.leavers.map (fun x => x.1) := by
      intro hk
      obtain ⟨f, hf, hng⟩ := (mem_leavers_map_iff k).mp hk
      rw [he] at hf
      rw [← Option.some.inj hf, hg] at hng
      exact Bool.false_ne_true hng.symm
    have hnotlast : v.leaving.endIdleVisits.checkDrain = v.leaving.endIdleVisits :=
      checkDrain_of_not_last (.inr (.inl ⟨k, by rw [hentry]; exact hstays⟩))
    have hfirst : (v.leaving.endIdleVisit .a).entry k ≠ none := by
      rw [endIdleVisit_keeps]
      exact hstays
    rw [hnotlast, endIdleVisits, modeCtl_endIdleVisit_of_kept hfirst, modeCtl_endIdleVisit_of_kept hstays, leaving,
      modeCtl_dismissEach_of_kept (by rw [he]; exact Option.some_ne_none e) hkey, hm]
  · have hempty (k : Handle) : v.leaving.entry k = none := by
      cases he : v.leaving.entry k with
      | none => rfl
      | some e =>
        obtain ⟨hs, hg⟩ := (entry_leaving_eq_some_iff k e).mp he
        exact absurd (hg.symm.trans (hnone k e hs)) Bool.false_ne_true.symm
    refine hdraining.config_of_empty (fun k => (hentry k).trans (hempty k)) fun y => ?_
    have hgranted : v.leaving.grantedTo (.lift y) = false := by
      rw [grantedTo, entryOf, entries_of_empty hempty]
      rfl
    rw [visit_endIdleVisits, hgranted]
    rfl

end

/-- An entry into DRAIN with the step that it ends (R161, R162). -/
theorem drainLeaves_of_sameAisle {s x : State} (hx : SameAisle s x) (hr : s.work.raises = []) (ho : OneEntryEach s)
    (hown : ClaimsOwned s) (hroom : ∀ y, (s.link y).down.length ≤ 6) : DrainLeaves s x.drain.finish
    ∧ (∀ k e, s.entry k = some e → e.phase.isGranted = true →
      x.drain.finish.modeCtl = { x.modeCtl with mode := .drain, motion := true })
    ∧ ((∀ k e, s.entry k = some e → e.phase.isGranted = false) →
      x.drain.finish.modeCtl = { x.modeCtl with mode := .config, motion := false }) := by
  have hv := hx.setMode .drain
  have hroom' : ∀ y, ((x.setMode .drain).link y).down.length ≤ 6 := fun y => by
    rw [hv.link]
    exact hroom y
  have hown' : ClaimsOwned (x.setMode .drain) := fun n c k hk => by
    rw [hv.slot] at hk
    rw [hv.entry]
    exact hown n c k hk
  have ho' := hv.oneEntryEach ho
  obtain ⟨hdraining, hkept, hgone⟩ := modeCtl_leaving (x.modeCtl_setMode .drain)
  have hraises : x.drain.work.raises = [] := by
    rw [drain_eq, checkDrain_keeps]
    exact ((told_leaving ho' hroom').2.trans hv.raises).trans hr
  rw [← drain_eq] at hdraining hkept hgone
  obtain ⟨hmoved, hlinks, hfaults⟩ := unmoved_finish_of_calm (.inr hdraining.not_run) hraises
  have hleaves : DrainLeaves (x.setMode .drain) x.drain := by
    rw [drain_eq]
    exact drainLeaves_leaving ho' hown' hroom'
  refine ⟨(hleaves.of_unmoved hmoved hlinks hfaults).of_sameAisle hv, fun k e he hg => ?_, fun hnone => ?_⟩
  · exact hmoved.modeCtl.trans (hkept k e ((hv.entry k).trans he) hg)
  · exact hmoved.modeCtl.trans (hgone fun k e he => hnone k e ((hv.entry k).symm.trans he))

end

end Sys2Proof.Machine.State

/-! ## Operations on one entry

A resume with REISSUE, the resolutions it makes and the re-evaluation of the hold queue after it go through the table one
entry at a time. `Acts` says what such an operation leaves alone, so that what it does to one entry stands through the
operations on the others. -/

namespace Sys2Proof.Machine.State

/-! ### Ports (R39, R128, R143) -/

/-- Where telegrams to a party go: the link of a lift, the record of a level. -/
def port (s : State) : Party → LinkRec ⊕ ShuttleRec
  | .lift y => .inl (s.link y)
  | .shuttle n => .inr (s.shuttle n)

/-- A port after a telegram to it. -/
def portAfter (t : Tel) (about : Option Handle) : LinkRec ⊕ ShuttleRec → LinkRec ⊕ ShuttleRec
  | .inl k => .inl (if k.down.length < 8 then { k with down := k.down ++ [⟨t, true, false⟩] } else k)
  | .inr v => .inr (handed v t about)

theorem port_sendParty_self (s : State) (p : Party) (t : Tel) (about : Option Handle) :
    (s.sendParty p t about).port p = portAfter t about (s.port p) := by
  cases p with
  | shuttle n =>
    refine congrArg Sum.inr ?_
    rw [sendParty, shuttle_sendShuttle, if_pos rfl]
  | lift y =>
    refine congrArg Sum.inl ?_
    by_cases hroom : (s.link y).down.length < 8
    · rw [sendParty, sendLift_of_room hroom, link_setLink_self, if_pos hroom]
    · rw [sendParty, sendLift_of_full (not_lt.mp hroom), if_neg hroom]
      rfl

theorem port_sendParty_ne (s : State) {p q : Party} (h : q ≠ p) (t : Tel) (about : Option Handle) :
    (s.sendParty p t about).port q = s.port q := by
  cases p with
  | shuttle n =>
    cases q with
    | shuttle m =>
      refine congrArg Sum.inr ?_
      rw [sendParty, shuttle_sendShuttle, if_neg fun hm => h (congrArg Party.shuttle hm)]
    | lift y =>
      refine congrArg Sum.inl ?_
      rw [sendParty, sendShuttle_keeps]
      rfl
  | lift x =>
    cases q with
    | shuttle m =>
      refine congrArg Sum.inr ?_
      rw [sendParty, sendLift_keeps]
      rfl
    | lift y => exact congrArg Sum.inl (link_sendLift_ne s (fun hy => h (congrArg Party.lift hy)) t)

theorem raises_sendParty_of_room {s : State} {p : Party} (h : ∀ y, p = .lift y → (s.link y).down.length < 8) (t : Tel)
    (about : Option Handle) : (s.sendParty p t about).work.raises = s.work.raises := by
  cases p with
  | shuttle n => rw [sendParty, sendShuttle_keeps]
  | lift y => exact congrArg Work.raises (work_sendLift_of_room (h y rfl) t)

theorem down_sendParty (s : State) (p : Party) (t : Tel) (about : Option Handle) (y : Lift) :
    ∃ l, ((s.sendParty p t about).link y).down = (s.link y).down ++ l ∧ l.length ≤ 1 := by
  by_cases h : .lift y = p
  · have hport := s.port_sendParty_self p t about
    rw [← h] at hport ⊢
    have hlink := Sum.inl.inj hport
    rw [hlink]
    split
    · exact ⟨_, rfl, le_rfl⟩
    · exact ⟨[], (List.append_nil _).symm, Nat.zero_le 1⟩
  · have hlink := Sum.inl.inj (s.port_sendParty_ne h t about)
    rw [hlink]
    exact ⟨[], (List.append_nil _).symm, Nat.zero_le 1⟩

/-! ### What an operation on one entry leaves alone -/

/-- Every claim on a slot is that of a GRANTED entry, as long as the entry stands (R8). -/
def ClaimsGranted (s : State) : Prop :=
  ∀ n c, ∀ q ∈ (s.slot n c).claim, ∀ e, s.entry q.handle = some e → e.phase.isGranted = true

/-- A release entry that is pledged is pledged by a GRANTED lift FETCH (R85). -/
def PledgeOwned (s : State) (i : StreamNo) (id : ToteId) : Prop :=
  ∀ r ∈ (s.stream i).list, r.id = id → r.pledged = true → ∃ k e, s.entry k = some e ∧ pledges e i id = true

/-- What an operation on an entry keeps of the aisle: mode, faults, lifts, time, and streams without pledges. -/
structure Constant (s t : State) : Prop where
  modeCtl : t.modeCtl = s.modeCtl
  faults : t.faults = s.faults
  coord : t.coord = s.coord
  time : t.time = s.time
  timing : t.timing = s.timing
  unique : t.store.unique = s.store.unique
  stream : ∀ i, (t.stream i).fixed = (s.stream i).fixed
  doubt : s.notices.pending.doubt = true → t.notices.pending.doubt = true

theorem Constant.refl (s : State) : Constant s s := ⟨rfl, rfl, rfl, rfl, rfl, rfl, fun _ => rfl, id⟩

theorem Constant.trans {s t u : State} (h : Constant s t) (k : Constant t u) : Constant s u :=
  ⟨k.modeCtl.trans h.modeCtl, k.faults.trans h.faults, k.coord.trans h.coord, k.time.trans h.time, k.timing.trans h.timing,
    k.unique.trans h.unique, fun i => (k.stream i).trans (h.stream i), fun hd => k.doubt (h.doubt hd)⟩

/-- An operation on the entry with a handle: other entries, ports of other parties and slots that are claimed otherwise or
in DOUBT stay, and the entry's party is sent one telegram at the most. -/
structure Acts (s : State) (h : Handle) (t : State) : Prop where
  constant : Constant s t
  entry : ∀ k, k ≠ h → t.entry k = s.entry k
  party : ∀ f, t.entry h = some f → ∃ e, s.entry h = some e ∧ f.party = e.party
  port : ∀ p, (∀ e, s.entry h = some e → e.party ≠ p) → t.port p = s.port p
  down : ∀ y, ∃ l, (t.link y).down = (s.link y).down ++ l ∧ l.length ≤ 1
  raises : (∀ e, s.entry h = some e → ∀ y, e.party = .lift y → (s.link y).down.length < 8) → t.work.raises = s.work.raises
  slot : ∀ n c, (∀ content, s.slot n c ≠ .opened content none) → (∀ q ∈ (s.slot n c).claim, q.handle ≠ h) → t.slot n c = s.slot n c
  claims : ClaimsGranted s → ClaimsGranted t
  pledge : ∀ i, i ≠ 0 → ∀ id, PledgeOwned s i id → PledgeOwned t i id

theorem Acts.refl (s : State) (h : Handle) : Acts s h s :=
  ⟨.refl s, fun _ _ => rfl, fun f hf => ⟨f, hf, rfl⟩, fun _ _ => rfl, fun _ => ⟨[], (List.append_nil _).symm, Nat.zero_le 1⟩, fun _ => rfl, fun _ _ _ _ => rfl, id,
    fun _ _ _ => id⟩

theorem Acts.length_le {s t : State} {h : Handle} (a : Acts s h t) (y : Lift) : (t.link y).down.length ≤ (s.link y).down.length + 1 := by
  obtain ⟨l, hl, h1⟩ := a.down y
  rw [hl, List.length_append]
  exact Nat.add_le_add_left h1 _

/-- Two states that differ in what no operation on an entry reads: waiting telegrams and flags of the step. -/
structure Alike (s t : State) : Prop where
  table : t.table = s.table
  slots : t.slots = s.slots
  streams : t.streams = s.streams
  coord : t.coord = s.coord
  links : t.links = s.links
  shuttles : t.shuttles = s.shuttles
  modeCtl : t.modeCtl = s.modeCtl
  faults : t.faults = s.faults
  time : t.time = s.time
  timing : t.timing = s.timing
  unique : t.store.unique = s.store.unique
  doubt : s.notices.pending.doubt = true → t.notices.pending.doubt = true
  raises : t.work.raises = s.work.raises

section
variable {s t u : State} {h : Handle}

theorem Alike.constant (a : Alike s t) : Constant s t :=
  ⟨a.modeCtl, a.faults, a.coord, a.time, a.timing, a.unique, fun i => by rw [stream, a.streams, stream], a.doubt⟩

theorem Alike.entry (a : Alike s t) (k : Handle) : t.entry k = s.entry k := entry_of_table a.table k

theorem Alike.slot (a : Alike s t) (n : Level) (c : SlotCode) : t.slot n c = s.slot n c := by rw [State.slot, a.slots, State.slot]

theorem Alike.stream (a : Alike s t) (i : StreamNo) : t.stream i = s.stream i := by rw [State.stream, a.streams, State.stream]

theorem Alike.link (a : Alike s t) (y : Lift) : t.link y = s.link y := by rw [State.link, a.links, State.link]

theorem Alike.shuttle (a : Alike s t) (n : Level) : t.shuttle n = s.shuttle n := by rw [State.shuttle, a.shuttles, State.shuttle]

theorem Alike.port (a : Alike s t) (p : Party) : t.port p = s.port p := by
  cases p with
  | shuttle n => exact congrArg Sum.inr (a.shuttle n)
  | lift y => exact congrArg Sum.inl (a.link y)

theorem Alike.claimsGranted (a : Alike s t) : ClaimsGranted t ↔ ClaimsGranted s := by
  unfold ClaimsGranted
  simp only [a.slot, a.entry]

theorem Alike.pledgeOwned (a : Alike s t) (i : StreamNo) (id : ToteId) : PledgeOwned t i id ↔ PledgeOwned s i id := by
  unfold PledgeOwned
  simp only [a.stream, a.entry]

theorem Acts.of_alike (k : Acts s h t) (a : Alike t u) : Acts s h u where
  constant := k.constant.trans a.constant
  entry := fun l hl => (a.entry l).trans (k.entry l hl)
  party := fun f hf => k.party f ((a.entry h).symm.trans hf)
  port := fun p hp => (a.port p).trans (k.port p hp)
  down := fun y => by
    rw [a.link]
    exact k.down y
  raises := fun hr => a.raises.trans (k.raises hr)
  slot := fun n c hn hc => (a.slot n c).trans (k.slot n c hn hc)
  claims := fun hc => a.claimsGranted.mpr (k.claims hc)
  pledge := fun i hi id hp => (a.pledgeOwned i id).mpr (k.pledge i hi id hp)

theorem Acts.after_alike (a : Alike s t) (k : Acts t h u) : Acts s h u where
  constant := a.constant.trans k.constant
  entry := fun l hl => (k.entry l hl).trans (a.entry l)
  party := fun f hf => by
    obtain ⟨e, he, hp⟩ := k.party f hf
    exact ⟨e, (a.entry h).symm.trans he, hp⟩
  port := fun p hp => (k.port p fun e he => hp e ((a.entry h).symm.trans he)).trans (a.port p)
  down := fun y => by
    rw [← a.link]
    exact k.down y
  raises := fun hr => (k.raises fun e he y hy => by
    rw [a.link]
    exact hr e ((a.entry h).symm.trans he) y hy).trans a.raises
  slot := fun n c hn hc => by
    rw [← a.slot] at hn hc ⊢
    exact k.slot n c hn hc
  claims := fun hc => k.claims (a.claimsGranted.mpr hc)
  pledge := fun i hi id hp => k.pledge i hi id ((a.pledgeOwned i id).mpr hp)

end

/-! ### The operations -/

theorem pledges_of_not_granted {e : Entry} (h : e.phase.isGranted = false) (i : StreamNo) (id : ToteId) : pledges e i id = false := by
  unfold pledges
  rw [h, Bool.and_false, Bool.false_and]

/-- A claim that stands after a claim of an entry has ended stood before. -/
theorem claim_of_ended {h : Handle} {g : Option Content → Claim → Slot} (hg : ∀ content k, (g content k).claim = none) {v : Slot} {q : Claim}
    (hq : q ∈ (v.ended h g).claim) : q ∈ v.claim := by
  cases v with
  | opened content k =>
    cases k with
    | none => exact hq
    | some k =>
      unfold Slot.ended at hq
      dsimp only at hq
      split at hq
      · rw [hg] at hq
        exact absurd hq (Option.not_mem_none q)
      · exact hq
  | _ => exact hq

theorem claim_dismissed {s : State} {cause : DoubtCause} {r : Reason} {x : Handle × Entry} {n : Level} {c : SlotCode} {q : Claim}
    (hq : q ∈ ((s.dismissed cause r x).slot n c).claim) : q ∈ (s.slot n c).claim := by
  have hports : ((s.doubtedFor cause x).sendParty x.2.party (s.refusal r x) (some x.1)).slot n c = (s.doubtedFor cause x).slot n c := by
    rw [sendParty_keeps]
    rfl
  have hdoubt (hq : q ∈ ((s.doubtedFor cause x).slot n c).claim) : q ∈ (s.slot n c).claim := by
    unfold doubtedFor at hq
    split at hq
    · have hslot := slot_doubtClaims s x.1 x.2.party cause x.2.items n c
      rw [show (s.doubtEntry x.1 x.2 cause).slot n c = _ from hslot] at hq
      split at hq
      · exact claim_of_ended (fun _ _ => rfl) hq
      · exact hq
    · exact hq
  rw [dismissed_eq, slot_removed, hports] at hq
  split at hq
  · exact hdoubt (claim_of_ended (fun _ _ => rfl) hq)
  · exact hdoubt hq

section
variable {s : State} {h : Handle} {e : Entry} (he : s.entry h = some e)
include he

/-- An entry refused and removed. -/
theorem acts_dismissed (cause : DoubtCause) (r : Reason) : Acts s h (s.dismissed cause r (h, e)) := by
  have hkeeps := s.dismissed_keeps cause r (h, e)
  have hentry (k : Handle) : (s.dismissed cause r (h, e)).entry k = if k = h then none else s.entry k := entry_dismissed k
  have hport (p : Party) : (s.dismissed cause r (h, e)).port p = (s.sendParty e.party (s.refusal r (h, e)) (some h)).port p := by
    rw [hkeeps]
    cases p <;> rfl
  have hmodeCtl : (s.dismissed cause r (h, e)).modeCtl = s.modeCtl := by rw [hkeeps]
  have hraises : (s.dismissed cause r (h, e)).work.raises = (s.sendParty e.party (s.refusal r (h, e)) (some h)).work.raises := by
    rw [hkeeps]
  refine ⟨⟨hmodeCtl, by rw [hkeeps], by rw [hkeeps], by rw [hkeeps], by rw [hkeeps], by rw [hkeeps], fun i => ?stream, fun hd => ?doubt⟩,
    fun k hk => (hentry k).trans (if_neg hk), fun f hf => ?party, fun p hp => ?port, fun y => ?down, fun hroom => ?raises,
    fun n c _ hc => slot_dismissed_of_no_claim hc, fun hc n c q hq f hf => ?claims, fun i hi id hp q hq hid hpledged => ?pledge⟩
  case stream =>
    rw [stream_dismissed, ← unpledge_eq]
    split
    · exact congrFun (congrArg Fixed.stream (s.fixed_unpledge e.items)) i
    · rfl
  case doubt =>
    rw [hkeeps]
    exact hd
  case party =>
    rw [hentry, if_pos rfl] at hf
    contradiction
  case port => rw [hport, port_sendParty_ne s (fun heq => hp e he heq.symm)]
  case down =>
    rw [Sum.inl.inj (hport (.lift y))]
    exact s.down_sendParty e.party _ _ y
  case raises => rw [hraises, raises_sendParty_of_room (hroom e he)]
  case claims =>
    rw [hentry] at hf
    split at hf
    · contradiction
    · exact hc n c q (claim_dismissed hq) f hf
  case pledge =>
    rw [list_dismissed, List.mem_map] at hq
    obtain ⟨p, hmem, rfl⟩ := hq
    split at hid
    next hcond =>
      rw [if_pos hcond] at hpledged
      contradiction
    next hcond =>
      rw [if_neg hcond] at hpledged
      obtain ⟨k, f, hf, hpf⟩ := hp p hmem hid hpledged
      have hk : k ≠ h := by
        intro hkh
        subst hkh
        rw [he] at hf
        obtain rfl := Option.some.inj hf
        exact hcond ⟨hi, by rw [hid]; exact hpf⟩
      exact ⟨k, f, (hentry k).trans ((if_neg hk).trans hf), hpf⟩

/-- An entry replaced by one of the same party. -/
theorem acts_setEntry {f : Entry} (hp : f.party = e.party) (hg : e.phase.isGranted = true → f.phase.isGranted = true)
    (hpl : ∀ i id, pledges e i id = true → pledges f i id = true) : Acts s h (s.setEntry h (some f)) := by
  have hentry (k : Handle) : (s.setEntry h (some f)).entry k = if k = h then some f else s.entry k := by
    split
    next hk => rw [hk, entry_setEntry_self]
    next hk => exact entry_setEntry_ne _ _ _ _ (Ne.symm hk)
  refine ⟨⟨rfl, rfl, rfl, rfl, rfl, rfl, fun _ => rfl, id⟩, fun k hk => (hentry k).trans (if_neg hk), fun g hgs => ?party, fun _ _ => rfl, fun _ => ⟨[], (List.append_nil _).symm, Nat.zero_le 1⟩, fun _ => rfl,
    fun _ _ _ _ => rfl, fun hc n c q hq g hgs => ?claims, fun i _ id ho q hq hid hpledged => ?pledge⟩
  case party =>
    rw [hentry, if_pos rfl] at hgs
    exact ⟨e, he, by rw [← Option.some.inj hgs, hp]⟩
  case claims =>
    rw [hentry] at hgs
    split at hgs
    next hk =>
      rw [← Option.some.inj hgs]
      exact hg (hc n c q hq e (by rw [hk, he]))
    next hk => exact hc n c q hq g hgs
  case pledge =>
    obtain ⟨k, g, hgs, hpg⟩ := ho q hq hid hpledged
    by_cases hk : k = h
    · subst hk
      obtain rfl := Option.some.inj (he.symm.trans hgs)
      exact ⟨k, f, (hentry k).trans (if_pos rfl), hpl i id hpg⟩
    · exact ⟨k, g, (hentry k).trans ((if_neg hk).trans hgs), hpg⟩

/-- The entry's party is sent a telegram. -/
theorem Acts.send {u : State} (k : Acts s h u) (hl : u.links = s.links)
    (hr : u.work.raises = s.work.raises) (t : Tel) (about : Option Handle) : Acts s h (u.sendParty e.party t about) := by
  have hkeeps := u.sendParty_keeps e.party t about
  have hlink (y : Lift) : u.link y = s.link y := by rw [link, hl, link]
  have hraises := fun hroom => raises_sendParty_of_room (s := u) (p := e.party) hroom t about
  have hdown := u.down_sendParty e.party t about
  have hport := fun (q : Party) (hq : q ≠ e.party) => u.port_sendParty_ne hq t about
  generalize u.sendParty e.party t about = w at hkeeps hraises hdown hport ⊢
  have hentry (l : Handle) : w.entry l = u.entry l := entry_of_table (by rw [hkeeps]) l
  have hslot (n : Level) (c : SlotCode) : w.slot n c = u.slot n c := by
    rw [hkeeps]
    rfl
  have hstream (i : StreamNo) : w.stream i = u.stream i := by
    rw [hkeeps]
    rfl
  have hsame : Constant u w := ⟨by rw [hkeeps], by rw [hkeeps], by rw [hkeeps], by rw [hkeeps], by rw [hkeeps], by rw [hkeeps],
    fun i => by rw [hstream], fun hd => by rw [hkeeps]; exact hd⟩
  refine ⟨k.constant.trans hsame, fun l hne => (hentry l).trans (k.entry l hne), fun f hf => k.party f ((hentry h).symm.trans hf),
    fun p hp => (hport p fun heq => hp e he heq.symm).trans (k.port p hp), fun y => ?down, fun hroom => ?raises,
    fun n c hn hc => (hslot n c).trans (k.slot n c hn hc), fun hc => ?claims, fun i hi id hp => ?pledge⟩
  case down =>
    rw [← hlink]
    exact hdown y
  case raises =>
    refine (hraises fun y hy => ?_).trans hr
    rw [hlink]
    exact hroom e he y hy
  case claims =>
    have := k.claims hc
    unfold ClaimsGranted at this ⊢
    simpa only [hslot, hentry] using this
  case pledge =>
    have := k.pledge i hi id hp
    unfold PledgeOwned at this ⊢
    simpa only [hstream, hentry] using this

end

/-! ### Grants (R37) -/

theorem slot_takeClaim_of_taken {s : State} {n : Level} {c : SlotCode} (hn : ∀ content, s.slot n c ≠ .opened content none)
    (m : Level) (d : SlotCode) (q : Claim) : (s.takeClaim m d q).slot n c = s.slot n c := by
  by_cases hmd : (m, d) = (n, c)
  · cases hmd
    unfold takeClaim
    split
    next content hs => exact absurd hs (hn content)
    all_goals rfl
  · exact slot_takeClaim_ne s hmd q

/-- A slot that is not OPEN and unclaimed takes no claim (R8). -/
theorem slot_takeClaims_of_taken {s : State} {n : Level} {c : SlotCode} (hn : ∀ content, s.slot n c ≠ .opened content none)
    (h : Handle) (k : Kind) (items : List Item) : (s.takeClaims h k items).slot n c = s.slot n c := by
  induction items generalizing s with
  | nil => rfl
  | cons i items ih =>
    cases hi : i.slot with
    | none =>
      rw [takeClaims_cons_none _ _ _ _ hi]
      exact ih hn
    | some a =>
      obtain ⟨m, d⟩ := a
      have hstep := slot_takeClaim_of_taken hn m d ⟨k, h, i.tote.id⟩
      rw [takeClaims_cons_some _ _ _ _ hi, ih (by rw [hstep]; exact hn), hstep]

section
variable (s : State) (h : Handle) (e : Entry) (items : List Item)

theorem entry_granting (k : Handle) :
    (s.granting h e items).entry k = if k = h then some (e.granted s.time s.timing items) else s.entry k := by
  rw [entry_of_table (t := s.granting h e items) (s := s.setEntry h (some (e.granted s.time s.timing items))) (by rw [granting_keeps])]
  split
  next hk => rw [hk, entry_setEntry_self]
  next hk => exact entry_setEntry_ne _ _ _ _ (Ne.symm hk)

theorem slot_granting (n : Level) (c : SlotCode) :
    (s.granting h e items).slot n c = (s.takeClaims h e.kind items).slot n c := by
  rw [granting_keeps]
  rfl

end

section
variable {s : State} {h : Handle} {e : Entry} (he : s.entry h = some e) (hg : e.phase.isGranted = false)
include he hg

/-- An entry granted, before its GO is sent. -/
theorem acts_granting (items : List Item) : Acts s h (s.granting h e items) := by
  have hkeeps := s.granting_keeps h e items
  have hentry := s.entry_granting h e items
  have hslot := s.slot_granting h e items
  have hstream := s.stream_granting h e items
  have hlinks : (s.granting h e items).links = s.links := by rw [hkeeps]
  have hshuttles : (s.granting h e items).shuttles = s.shuttles := by rw [hkeeps]
  refine ⟨⟨by rw [hkeeps], by rw [hkeeps], by rw [hkeeps], by rw [hkeeps], by rw [hkeeps], by rw [hkeeps], fun i => ?stream, fun hd => ?doubt⟩,
    fun k hk => (hentry k).trans (if_neg hk), fun f hf => ?party, fun p _ => ?port, fun y => ?down, fun _ => by rw [hkeeps],
    fun n c hn _ => (hslot n c).trans (slot_takeClaims_of_taken hn _ _ _), fun hc n c q hq f hf => ?claims,
    fun i hi id hp q hq hid hpledged => ?pledge⟩
  case stream =>
    rw [hstream, ← pledge_eq]
    split
    · exact congrFun (congrArg Fixed.stream (s.fixed_pledge items)) i
    · rfl
  case doubt =>
    rw [hkeeps]
    exact hd
  case party =>
    rw [hentry, if_pos rfl] at hf
    exact ⟨e, he, by rw [← Option.some.inj hf]; rfl⟩
  case port =>
    cases p with
    | shuttle n => exact congrArg Sum.inr (by rw [shuttle, hshuttles, shuttle])
    | lift y => exact congrArg Sum.inl (by rw [link, hlinks, link])
  case down =>
    rw [link, hlinks]
    exact ⟨[], (List.append_nil _).symm, Nat.zero_le 1⟩
  case claims =>
    rw [hentry] at hf
    split at hf
    · rw [← Option.some.inj hf]
      rfl
    next hk =>
      rw [hslot] at hq
      rcases claim_takeClaims hq with hq | ⟨hq, -⟩
      · exact hc n c q hq f hf
      · exact absurd hq hk
  case pledge =>
    have hold (r : RelEntry) (hr : r ∈ (s.stream i).list) (hrid : r.id = id) (hrp : r.pledged = true) :
        ∃ k f, (s.granting h e items).entry k = some f ∧ pledges f i id = true := by
      obtain ⟨k, f, hf, hpf⟩ := hp r hr hrid hrp
      have hk : k ≠ h := by
        intro hkh
        subst hkh
        obtain rfl := Option.some.inj (he.symm.trans hf)
        rw [pledges_of_not_granted hg] at hpf
        contradiction
      exact ⟨k, f, (hentry k).trans ((if_neg hk).trans hf), hpf⟩
    rw [hstream] at hq
    split at hq
    next hfetch =>
      rw [stream_setPledges, List.mem_map] at hq
      obtain ⟨r, hr, rfl⟩ := hq
      split at hid
      next hnamed =>
        obtain ⟨-, j, hj, hjid, hjs⟩ := hnamed
        refine ⟨h, _, (hentry h).trans (if_pos rfl), ?_⟩
        have hitem : items.any (fun j => j.tote.id = id && j.tote.stream.toNat = i.val) = true :=
          List.any_eq_true.mpr ⟨j, hj, Bool.and_eq_true_iff.mpr ⟨decide_eq_true (hjid.trans hid), decide_eq_true hjs⟩⟩
        unfold pledges
        rw [show (e.granted s.time s.timing items).isLiftFetch = true from hfetch]
        exact hitem
      next hnamed =>
        rw [if_neg hnamed] at hpledged
        exact hold r hr hid hpledged
    · exact hold q hq hid hpledged

/-- A grant (R37). -/
theorem acts_grant (items : List Item) : Acts s h (s.grant h e items) := by
  rw [grant_eq]
  refine ((acts_granting he hg items).send he ?_ ?_ _ _).of_alike ⟨rfl, rfl, rfl, rfl, rfl, rfl, rfl, rfl, rfl, rfl, rfl, id, rfl⟩
  · rw [granting_keeps]
  · rw [granting_keeps]

/-- A HOLD, with other items (R38, R110). -/
theorem acts_hold (items : List Item) (r : Reason) : Acts s h (s.hold h { e with items := items } r) :=
  (acts_setEntry (f := ({ e with items := items } : Entry).held s.timing r) he rfl
    (fun h => absurd (hg.symm.trans h) Bool.false_ne_true) (fun i id h => by
      rw [pledges_of_not_granted hg] at h
      contradiction)).send he rfl rfl _ _

/-- An entry into CONFIRMING (R106). -/
theorem acts_enterConfirming (items : List Item) : Acts s h (s.enterConfirming h e items) := by
  have hput := acts_setEntry (f := { e with phase := .confirming, items := items, timer := s.timing.confirmLimit.zeroExtend 32 }) he rfl
    (fun h => absurd (hg.symm.trans h) Bool.false_ne_true) (fun i id h => by
      rw [pledges_of_not_granted hg] at h
      contradiction)
  have hsent := hput.send he rfl rfl (s.toward e.party 0x29 e.tag (.hold (BitVec.ofNat 8 h.val) .confirm)) (some h)
  have hkeeps := sendParty_keeps (s.setEntry h (some { e with phase := .confirming, items := items, timer := s.timing.confirmLimit.zeroExtend 32 }))
    e.party (s.toward e.party 0x29 e.tag (.hold (BitVec.ofNat 8 h.val) .confirm)) (some h)
  rw [enterConfirming_eq]
  refine hsent.of_alike ⟨rfl, rfl, rfl, rfl, rfl, rfl, rfl, rfl, rfl, rfl, ?_, id, rfl⟩
  rw [hkeeps]
  rfl

end

end Sys2Proof.Machine.State

/-! ## Walks through the table -/

namespace Sys2Proof.Machine.State

/-! ### The three operations of a resume with REISSUE -/

section
variable {s : State} {h : Handle} {e : Entry} (hm : s.mode = .run)
include hm

theorem not_drain : s.mode ≠ .drain := by
  rw [hm]
  exact Mode.noConfusion

theorem checkDrain_dismissed (cause : DoubtCause) (r : Reason) (x : Handle × Entry) :
    (s.dismissed cause r x).checkDrain = s.dismissed cause r x := by
  refine checkDrain_of_not_last (.inl ?_)
  rw [dismissed_keeps]
  exact not_drain hm

theorem revokeEntry_of_run (cause : DoubtCause) : s.revokeEntry cause h e = s.dismissed cause .revoked (h, e) :=
  (s.revokeEntry_eq cause (h, e)).trans (checkDrain_dismissed hm _ _ _)

theorem refuseEntry_of_run (hg : e.phase.isGranted = false) (r : Reason) : s.refuseEntry h e r = s.dismissed .revoked r (h, e) :=
  (s.refuseEntry_eq .revoked r (x := (h, e)) hg).trans (checkDrain_dismissed hm _ _ _)

end

section
variable {s : State} {h : Handle} {e : Entry}

theorem reissueHandle_of_none (he : s.entry h = none) : s.reissueHandle h = s := by
  unfold reissueHandle
  rw [he]

section
variable (he : s.entry h = some e)
include he

theorem reissueHandle_of_not_granted (hg : e.phase.isGranted = false) : s.reissueHandle h = s := by
  unfold reissueHandle
  simp only [he, hg, Bool.false_eq_true, if_false]

theorem reissueHandle_of_latched (hm : s.mode = .run) (hg : e.phase.isGranted = true) (hl : s.latch e.party = true) :
    s.reissueHandle h = s.dismissed .revoked .revoked (h, e) := by
  rw [← revokeEntry_of_run hm]
  unfold reissueHandle
  simp only [he, hg, hl, if_true]

/-- The GO of a GRANTED entry made again (R166). -/
def goAgain (s : State) (h : Handle) (e : Entry) : Tel :=
  s.toward e.party 0x28 e.tag (.go (BitVec.ofNat 8 h.val) e.kind.ask (e.items.filterMap (fun i => i.slot.map (fun a => (a.1, a.2, i.tote.id)))))

theorem reissueHandle_of_unlatched (hg : e.phase.isGranted = true) (hl : s.latch e.party = false) :
    s.reissueHandle h
      = (s.setEntry h (some (e.granted s.time s.timing e.items))).sendParty e.party (s.goAgain h e) (some h) := by
  unfold reissueHandle
  simp only [he, hg, hl, if_true, Bool.false_eq_true, if_false]
  rfl

end

theorem resolveIfDecided_of_not_confirming (hn : ∀ e, s.entry h = some e → e.phase ≠ .confirming) : s.resolveIfDecided h = s := by
  unfold resolveIfDecided
  split
  · rfl
  next e he =>
    refine if_neg fun hc => hn e he ?_
    exact of_decide_eq_true (Bool.and_eq_true_iff.mp (Bool.and_eq_true_iff.mp hc).1).1

theorem isGranted_of_confirming (h : e.phase = .confirming) : e.phase.isGranted = false := by
  rw [h]
  rfl

theorem isGranted_of_waiting (h : e.isWaiting = true) : e.phase.isGranted = false := by
  obtain ⟨r, hr⟩ := (isWaiting_iff e).mp h
  rw [hr]
  rfl

end

/-! ### What each leaves alone -/

section
variable {s : State} {h : Handle} (hm : s.mode = .run)
include hm

theorem acts_reissueHandle : Acts s h (s.reissueHandle h) := by
  cases he : s.entry h with
  | none =>
    rw [reissueHandle_of_none he]
    exact .refl s h
  | some e =>
    cases hg : e.phase.isGranted with
    | false =>
      rw [reissueHandle_of_not_granted he hg]
      exact .refl s h
    | true =>
      cases hl : s.latch e.party with
      | true =>
        rw [reissueHandle_of_latched he hm hg hl]
        exact acts_dismissed he .revoked .revoked
      | false =>
        rw [reissueHandle_of_unlatched he hg hl]
        refine (acts_setEntry (f := e.granted s.time s.timing e.items) he rfl (fun _ => rfl) fun i id hp => ?_).send he rfl rfl _ _
        unfold pledges at hp ⊢
        rw [hg] at hp
        exact hp

theorem acts_resolve {e : Entry} (he : s.entry h = some e) (hc : e.phase = .confirming) : Acts s h (s.resolve h e) := by
  have hg := isGranted_of_confirming hc
  have hdrop : Alike s (s.dropConfirmAsks h) := ⟨rfl, rfl, rfl, rfl, rfl, rfl, rfl, rfl, rfl, rfl, rfl, id, rfl⟩
  have hreeval (u : State) : Alike u u.wantReeval := ⟨rfl, rfl, rfl, rfl, rfl, rfl, rfl, rfl, rfl, rfl, rfl, id, rfl⟩
  by_cases hk : s.keptItems e = []
  · cases hw : e.wait with
    | true =>
      rw [resolve_of_none_waiting hk hw]
      exact .after_alike hdrop ((acts_hold (s := s.dropConfirmAsks h) he hg [] .notEligible).of_alike (hreeval _))
    | false =>
      rw [resolve_of_none_refused hk hw, refuseEntry_of_run (s := s.dropConfirmAsks h) hm hg]
      exact .after_alike hdrop (acts_dismissed (s := s.dropConfirmAsks h) he .revoked .denied)
  · rw [resolve_of_kept hk]
    exact .after_alike hdrop ((acts_grant (s := s.dropConfirmAsks h) he hg _).of_alike (hreeval _))

theorem acts_resolveIfDecided : Acts s h (s.resolveIfDecided h) := by
  by_cases hc : ∃ e, s.entry h = some e ∧ e.phase = .confirming
  · obtain ⟨e, he, hc⟩ := hc
    rw [resolveIfDecided_of_confirming he hc]
    split
    · exact acts_resolve hm he hc
    · exact .refl s h
  · rw [resolveIfDecided_of_not_confirming fun e he hp => hc ⟨e, he, hp⟩]
    exact .refl s h

theorem acts_reevalEntry : Acts s h (s.reevalEntry h) := by
  by_cases hw : ∃ e, s.entry h = some e ∧ e.isWaiting = true
  · obtain ⟨e, he, hw⟩ := hw
    have hg := isGranted_of_waiting hw
    cases hq : s.reroute e with
    | some q =>
      rw [reevalEntry_of_reroute he hw hq, refuseEntry_of_run hm hg]
      exact acts_dismissed he .revoked q
    | none =>
      cases hv : s.verdict e with
      | grant items =>
        rw [reevalEntry_of_grant he hw hq hv]
        exact acts_grant he hg items
      | confirm items =>
        rw [reevalEntry_of_confirm he hw hq hv]
        exact acts_enterConfirming he hg items
      | wait r =>
        rw [reevalEntry_of_wait he hw hq hv]
        refine acts_setEntry he rfl (fun h => absurd (hg.symm.trans h) Bool.false_ne_true) fun i id hp => ?_
        rw [pledges_of_not_granted hg] at hp
        contradiction
  · rw [reevalEntry_of_not_waiting fun e r he hp => hw ⟨e, he, (isWaiting_iff e).mpr ⟨r, hp⟩⟩]
    exact .refl s h

end

/-! ### Walks -/

/-- An operation that in RUN acts on the entry of its handle alone. -/
def Walks (f : State → Handle → State) : Prop := ∀ s h, s.mode = .run → Acts s h (f s h)

/-- A state that a walk from another one has reached. -/
structure Within (s t : State) : Prop where
  constant : Constant s t
  party : ∀ h f, t.entry h = some f → ∃ e, s.entry h = some e ∧ f.party = e.party
  claims : ClaimsGranted t

theorem Within.refl {s : State} (h : ClaimsGranted s) : Within s s := ⟨.refl s, fun _ f hf => ⟨f, hf, rfl⟩, h⟩

section
variable {s t u : State} {h : Handle}

theorem Within.step (w : Within s t) (a : Acts t h u) : Within s u where
  constant := w.constant.trans a.constant
  party := fun k f hf => by
    by_cases hk : k = h
    · subst hk
      obtain ⟨e, he, hp⟩ := a.party f hf
      obtain ⟨g, hg, hq⟩ := w.party k e he
      exact ⟨g, hg, hp.trans hq⟩
    · exact w.party k f ((a.entry k hk).symm.trans hf)
  claims := a.claims w.claims

theorem Within.of_alike (w : Within s t) (a : Alike t u) : Within s u where
  constant := w.constant.trans a.constant
  party := fun k f hf => w.party k f ((a.entry k).symm.trans hf)
  claims := a.claimsGranted.mpr w.claims

theorem Within.mode (w : Within s t) (hm : s.mode = .run) : t.mode = .run := (congrArg ModeCtl.mode w.constant.modeCtl).trans hm

theorem Within.port (w : Within s t) (a : Acts t h u) {p : Party} (hp : ∀ e, s.entry h = some e → e.party ≠ p) : u.port p = t.port p := by
  refine a.port p fun f hf => ?_
  obtain ⟨e, he, heq⟩ := w.party h f hf
  rw [heq]
  exact hp e he

end

section
variable {s : State} (hm : s.mode = .run) {f : State → Handle → State} (hf : Walks f)
include hm hf

theorem within_foldl {t : State} (w : Within s t) (l : List Handle) : Within s (l.foldl f t) := by
  induction l generalizing t with
  | nil => exact w
  | cons h l ih => exact ih (w.step (hf t h (w.mode hm)))

/-- What every operation keeps, a walk keeps. -/
theorem foldl_keeps {P : State → Prop} (hstep : ∀ u h, Within s u → P u → P (f u h)) {t : State} (w : Within s t) (ht : P t)
    (l : List Handle) : P (l.foldl f t) := by
  induction l generalizing t with
  | nil => exact ht
  | cons h l ih => exact ih (w.step (hf t h (w.mode hm))) (hstep t h w ht)

/-- What the operations on other handles keep stands when a walk comes to a handle, and what its operation leaves stands at
the end. -/
theorem foldl_at {P Q : State → Prop} {k : Handle} (hP : ∀ u h, h ≠ k → Within s u → P u → P (f u h))
    (hop : ∀ u, Within s u → P u → Q (f u k)) (hQ : ∀ u h, h ≠ k → Within s u → Q u → Q (f u h)) {t : State} (w : Within s t)
    (ht : P t) {l : List Handle} (hl : l.Nodup) (hk : k ∈ l) : Q (l.foldl f t) := by
  have hafter {t : State} (w : Within s t) (ht : Q t) {l : List Handle} (hkl : k ∉ l) : Q (l.foldl f t) := by
    induction l generalizing t with
    | nil => exact ht
    | cons h l ih =>
      rw [List.mem_cons, not_or] at hkl
      exact ih (w.step (hf t h (w.mode hm))) (hQ t h (Ne.symm hkl.1) w ht) hkl.2
  induction l generalizing t with
  | nil => exact absurd hk List.not_mem_nil
  | cons h l ih =>
    have hw := w.step (hf t h (w.mode hm))
    rw [List.nodup_cons] at hl
    rcases List.mem_cons.mp hk with rfl | hmem
    · exact hafter hw (hop t w ht) hl.1
    · exact ih hw (hP t h (fun heq => hl.1 (heq ▸ hmem)) w ht) hl.2 hmem

end

end Sys2Proof.Machine.State

/-! ## What a walk through the table leaves of one entry and of its port -/

namespace Sys2Proof.Machine.State

theorem Within.oneEntryEach {s t : State} (w : Within s t) (ho : OneEntryEach s) : OneEntryEach t := by
  intro h k e he f hf hp
  obtain ⟨e', he', hpe⟩ := w.party h e he
  obtain ⟨f', hf', hpf⟩ := w.party k f hf
  exact ho h k e' he' f' hf' (hpe.symm.trans (hp.trans hpf))

section
variable {s : State} (hm : s.mode = .run) {f : State → Handle → State} (hf : Walks f)
include hm hf

/-- The port of a party without an entry stays. -/
theorem port_foldl_of_no_entry {t : State} (w : Within s t) {p : Party} (hp : ∀ h e, s.entry h = some e → e.party ≠ p) (l : List Handle) :
    (l.foldl f t).port p = t.port p :=
  foldl_keeps hm hf (P := fun u => u.port p = t.port p)
    (fun u h w hu => (w.port (hf u h (w.mode hm)) (hp h)).trans hu) w rfl l

/-- An entry on which the operation does nothing stays, and the port of its party with it. -/
theorem stands_foldl (hc : ClaimsGranted s) {k : Handle} {p : Party} (hp : ∀ h, h ≠ k → ∀ e, s.entry h = some e → e.party ≠ p)
    (hk : ∀ u, Within s u → u.entry k = s.entry k → f u k = u) (l : List Handle) :
    (l.foldl f s).entry k = s.entry k ∧ (l.foldl f s).port p = s.port p := by
  refine foldl_keeps hm hf (P := fun u => u.entry k = s.entry k ∧ u.port p = s.port p) (fun u h w hu => ?_) (.refl hc) ⟨rfl, rfl⟩ l
  by_cases hh : h = k
  · subst hh
    rw [hk u w hu.1]
    exact hu
  · have a := hf u h (w.mode hm)
    exact ⟨(a.entry k (Ne.symm hh)).trans hu.1, (w.port a (hp h hh)).trans hu.2⟩

/-- An entry on which the operation acts once: what it finds there and what it leaves. -/
theorem acted_foldl (hc : ClaimsGranted s) {k : Handle} {p : Party} (hp : ∀ h, h ≠ k → ∀ e, s.entry h = some e → e.party ≠ p)
    {P : State → Prop} (hP : ∀ u h, h ≠ k → Within s u → P u → P (f u h)) (hs : P s) {E : Option Entry} {v : LinkRec ⊕ ShuttleRec}
    (hop : ∀ u, Within s u → u.entry k = s.entry k → u.port p = s.port p → P u → (f u k).entry k = E ∧ (f u k).port p = v)
    {l : List Handle} (hl : l.Nodup) (hk : k ∈ l) : (l.foldl f s).entry k = E ∧ (l.foldl f s).port p = v := by
  have hother {E : Option Entry} {v : LinkRec ⊕ ShuttleRec} (u : State) (h : Handle) (hh : h ≠ k) (w : Within s u)
      (hu : u.entry k = E ∧ u.port p = v) : (f u h).entry k = E ∧ (f u h).port p = v := by
    have a := hf u h (w.mode hm)
    exact ⟨(a.entry k (Ne.symm hh)).trans hu.1, (w.port a (hp h hh)).trans hu.2⟩
  exact foldl_at hm hf (P := fun u => (u.entry k = s.entry k ∧ u.port p = s.port p) ∧ P u)
    (Q := fun u => u.entry k = E ∧ u.port p = v)
    (fun u h hh w hu => ⟨hother u h hh w hu.1, hP u h hh w hu.2⟩) (fun u w hu => hop u w hu.1.1 hu.1.2 hu.2)
    (fun u h hh w hu => hother u h hh w hu) (.refl hc) ⟨⟨rfl, rfl⟩, hs⟩ hl hk

theorem pledgeOwned_foldl {t : State} (w : Within s t) {i : StreamNo} (hi : i ≠ 0) {id : ToteId} (ht : PledgeOwned t i id) (l : List Handle) :
    PledgeOwned (l.foldl f t) i id :=
  foldl_keeps hm hf (P := fun u => PledgeOwned u i id) (fun u h w hu => (hf u h (w.mode hm)).pledge i hi id hu) w ht l

/-- A slot in DOUBT stays as it is. -/
theorem doubt_foldl {t : State} (w : Within s t) {n : Level} {c : SlotCode} {content : Option Content} {cause : DoubtCause}
    (ht : t.slot n c = .doubt content cause none none) (l : List Handle) : (l.foldl f t).slot n c = .doubt content cause none none := by
  refine foldl_keeps hm hf (P := fun u => u.slot n c = .doubt content cause none none) (fun u h w hu => ?_) w ht l
  have hopen (content' : Option Content) : u.slot n c ≠ .opened content' none := by
    rw [hu]
    exact Slot.noConfusion
  have hclaim : ∀ q ∈ (u.slot n c).claim, q.handle ≠ h := by
    rw [hu]
    exact fun q hq => absurd hq (Option.not_mem_none q)
  rw [(hf u h (w.mode hm)).slot n c hopen hclaim, hu]

section
variable (ho : OneEntryEach s)
include ho

/-- With room for the party of each entry, nothing is raised (R128). -/
theorem raises_foldl {t : State} (w : Within s t) {l : List Handle} (hl : l.Nodup)
    (hroom : ∀ h ∈ l, ∀ e, t.entry h = some e → ∀ y, e.party = .lift y → (t.link y).down.length < 8) :
    (l.foldl f t).work.raises = t.work.raises := by
  induction l generalizing t with
  | nil => rfl
  | cons h l ih =>
    have a := hf t h (w.mode hm)
    rw [List.nodup_cons] at hl
    rw [List.foldl_cons, ih (w.step a) hl.2 fun k hk e he y hy => ?_, a.raises (hroom h List.mem_cons_self)]
    have hne : k ≠ h := fun heq => hl.1 (heq ▸ hk)
    have hbefore : t.entry k = some e := (a.entry k hne).symm.trans he
    have hlink : (f t h).link y = t.link y := by
      refine Sum.inl.inj (w.port a (p := .lift y) fun g hg hp => ?_)
      obtain ⟨e', he', hpe⟩ := w.party k e hbefore
      exact hne (ho k h e' he' g hg (hpe.symm.trans (hy.trans hp.symm)))
    rw [hlink]
    exact hroom k (List.mem_cons_of_mem _ hk) e hbefore y hy

omit hm hf in
theorem other_party {k : Handle} {e : Entry} (he : s.entry k = some e) : ∀ h, h ≠ k → ∀ g, s.entry h = some g → g.party ≠ e.party :=
  fun h hh g hg hp => hh (ho h k g hg e he hp)

/-- A walk through the whole table sends a lift one telegram at the most. -/
theorem length_foldl_le (hc : ClaimsGranted s) (y : Lift) :
    ((allHandles.foldl f s).link y).down.length ≤ (s.link y).down.length + 1 := by
  by_cases hy : ∃ k e, s.entry k = some e ∧ e.party = .lift y
  · obtain ⟨k, e, he, hp⟩ := hy
    have hother := hp ▸ other_party ho he
    refine foldl_at hm hf (P := fun u => u.port (.lift y) = s.port (.lift y))
      (Q := fun u => (u.link y).down.length ≤ (s.link y).down.length + 1) (k := k) (fun u h hh w hu => ?_) (fun u w hu => ?_)
      (fun u h hh w hu => ?_) (.refl hc) rfl (List.nodup_finRange 32) (List.mem_finRange k)
    · exact (w.port (hf u h (w.mode hm)) (hother h hh)).trans hu
    · rw [← Sum.inl.inj hu]
      exact (hf u k (w.mode hm)).length_le y
    · have hlink : (f u h).link y = u.link y := Sum.inl.inj (w.port (hf u h (w.mode hm)) (hother h hh))
      rw [hlink]
      exact hu
  · have hport := port_foldl_of_no_entry hm hf (.refl hc) (p := .lift y) (fun h e he hp => hy ⟨h, e, he, hp⟩) allHandles
    have hlink : (allHandles.foldl f s).link y = s.link y := Sum.inl.inj hport
    rw [hlink]
    exact Nat.le_succ _

end

end

end Sys2Proof.Machine.State

/-! ## GOs made again and entries of latched parties revoked (R166) -/

namespace Sys2Proof.Machine.State

theorem walks_reissueHandle : Walks (fun u h => u.reissueHandle h) := fun _ _ hm => acts_reissueHandle hm

/-- Steps 2 and 3 of a resume with REISSUE for the whole table (R166). -/
def reissuing (s : State) : State := allHandles.foldl (fun u h => u.reissueHandle h) s

/-! ### Slots that are ready -/

/-- A slot after a GRANTED entry has been refused and removed (R10, R52). -/
theorem slot_dismissed_of_granted {s : State} {cause : DoubtCause} {r : Reason} {x : Handle × Entry} (hg : x.2.phase.isGranted = true)
    (n : Level) (c : SlotCode) : (s.dismissed cause r x).slot n c
      = if ∃ i ∈ x.2.items, i.slot = some (n, c) then (s.slot n c).ended x.1 (Slot.doubted x.2.party x.1 cause) else s.slot n c := by
  have hdoubt : (s.doubtedFor cause x).slot n c
      = if ∃ i ∈ x.2.items, i.slot = some (n, c) then (s.slot n c).ended x.1 (Slot.doubted x.2.party x.1 cause) else s.slot n c := by
    unfold doubtedFor
    rw [if_pos hg]
    exact slot_doubtClaims s x.1 x.2.party cause x.2.items n c
  have hports : ((s.doubtedFor cause x).sendParty x.2.party (s.refusal r x) (some x.1)).slot n c = (s.doubtedFor cause x).slot n c := by
    rw [sendParty_keeps]
    rfl
  rw [dismissed_eq, slot_removed, hports, hdoubt]
  split
  · exact Slot.unclaim_ended_doubted _ _ _ _
  · rfl

/-- A slot that enters DOUBT was claimed, so it was no more ready than it is then. -/
theorem ready_ended_doubted (h : Handle) (p : Party) (cause : DoubtCause) (v : Slot) :
    (v.ended h (Slot.doubted p h cause)).ready = v.ready := by
  cases v with
  | opened content k =>
    cases k with
    | none => rfl
    | some k =>
      unfold Slot.ended
      dsimp only
      split
      · cases content <;> rfl
      · rfl
  | _ => rfl

theorem ready_reissueHandle {s : State} {h : Handle} (hm : s.mode = .run) (n : Level) (c : SlotCode) :
    ((s.reissueHandle h).slot n c).ready = (s.slot n c).ready := by
  cases he : s.entry h with
  | none => rw [reissueHandle_of_none he]
  | some e =>
    cases hg : e.phase.isGranted with
    | false => rw [reissueHandle_of_not_granted he hg]
    | true =>
      cases hl : s.latch e.party with
      | true =>
        rw [reissueHandle_of_latched he hm hg hl, slot_dismissed_of_granted hg]
        split
        · exact ready_ended_doubted _ _ _ _
        · rfl
      | false =>
        rw [reissueHandle_of_unlatched he hg hl, sendParty_keeps]
        rfl

section
variable {s : State} (hm : s.mode = .run) (hc : ClaimsGranted s)
include hm hc

theorem within_reissuing : Within s s.reissuing := within_foldl hm walks_reissueHandle (.refl hc) allHandles

theorem ready_reissuing (n : Level) (c : SlotCode) : (s.reissuing.slot n c).ready = (s.slot n c).ready :=
  foldl_keeps hm walks_reissueHandle (P := fun u => (u.slot n c).ready = (s.slot n c).ready)
    (fun _ _ w hu => (ready_reissueHandle (w.mode hm) n c).trans hu) (.refl hc) rfl allHandles

section
variable (ho : OneEntryEach s) {k : Handle} {e : Entry} (he : s.entry k = some e)
include ho he

/-- An entry that is not GRANTED stays, and its party is sent nothing. -/
theorem reissuing_of_not_granted (hg : e.phase.isGranted = false) :
    s.reissuing.entry k = some e ∧ s.reissuing.port e.party = s.port e.party := by
  have hstands := stands_foldl hm walks_reissueHandle hc (other_party ho he)
    (fun u _ hu => reissueHandle_of_not_granted (hu.trans he) hg) allHandles
  exact ⟨hstands.1.trans he, hstands.2⟩

/-- A GRANTED entry of a party whose latch is clear: its GO again (R166). -/
theorem reissuing_of_unlatched (hg : e.phase.isGranted = true) (hl : s.latch e.party = false) :
    s.reissuing.entry k = some (e.granted s.time s.timing e.items)
    ∧ s.reissuing.port e.party = portAfter (s.goAgain k e) (some k) (s.port e.party) := by
  refine acted_foldl hm walks_reissueHandle hc (other_party ho he) (P := fun _ => True) (fun _ _ _ _ _ => trivial) trivial
    (fun u w hu hport _ => ?_) (List.nodup_finRange 32) (List.mem_finRange k)
  have hlatch : u.latch e.party = false := by rwa [latch, w.constant.faults]
  have hgo : u.goAgain k e = s.goAgain k e := by
    unfold goAgain toward
    rw [w.constant.unique]
  rw [reissueHandle_of_unlatched (hu.trans he) hg hlatch, hgo, w.constant.time, w.constant.timing]
  refine ⟨?_, ?_⟩
  · have hsent := sendParty_keeps (u.setEntry k (some (e.granted s.time s.timing e.items))) e.party (s.goAgain k e) (some k)
    rw [entry_of_table (t := sendParty _ _ _ _) (s := u.setEntry k (some (e.granted s.time s.timing e.items))) (by rw [hsent]),
      entry_setEntry_self]
  · rw [port_sendParty_self, ← hport]
    cases e.party <;> rfl

section
variable (hg : e.phase.isGranted = true) (hl : s.latch e.party = true)
include hg hl

omit hc ho in
theorem reissueHandle_within {u : State} (w : Within s u) (hu : u.entry k = s.entry k) :
    u.reissueHandle k = u.dismissed .revoked .revoked (k, e) :=
  reissueHandle_of_latched (hu.trans he) (w.mode hm) hg (by rwa [latch, w.constant.faults])

/-- A GRANTED entry of a latched party: refused and removed (R166). -/
theorem reissuing_of_latched : s.reissuing.entry k = none
    ∧ s.reissuing.port e.party = portAfter (s.refusal .revoked (k, e)) (some k) (s.port e.party) := by
  refine acted_foldl hm walks_reissueHandle hc (other_party ho he) (P := fun _ => True) (fun _ _ _ _ _ => trivial) trivial
    (fun u w hu hport _ => ?_) (List.nodup_finRange 32) (List.mem_finRange k)
  have hrefusal : u.refusal .revoked (k, e) = s.refusal .revoked (k, e) := by
    unfold refusal toParty
    rw [w.constant.unique]
  rw [reissueHandle_within hm he hg hl w hu]
  refine ⟨(entry_dismissed k).trans (if_pos rfl), ?_⟩
  rw [← hport, ← hrefusal, ← port_sendParty_self, dismissed_keeps]
  cases e.party <;> rfl

omit ho in
/-- Its claimed slots enter DOUBT (R10). -/
theorem slot_reissuing {n : Level} {c : SlotCode} {content : Option Content} {kind : Kind} {id : ToteId}
    (hs : s.slot n c = .opened content (some ⟨kind, k, id⟩)) (hi : ∃ i ∈ e.items, i.slot = some (n, c)) :
    s.reissuing.slot n c = .doubt content .revoked none none := by
  refine foldl_at hm walks_reissueHandle (k := k) (P := fun u => u.entry k = s.entry k ∧ u.slot n c = s.slot n c)
    (Q := fun u => u.slot n c = .doubt content .revoked none none) (fun u h hh w hu => ?_) (fun u w hu => ?_) (fun u h _ w hu => ?_)
    (.refl hc) ⟨rfl, rfl⟩ (List.nodup_finRange 32) (List.mem_finRange k)
  · have a := acts_reissueHandle (h := h) (w.mode hm)
    refine ⟨(a.entry k (Ne.symm hh)).trans hu.1, (a.slot n c (fun content' => ?_) fun q hq => ?_).trans hu.2⟩
    · rw [hu.2, hs]
      exact fun heq => Option.some_ne_none _ (Slot.opened.inj heq).2
    · rw [hu.2, hs] at hq
      rw [← Option.some.inj hq]
      exact Ne.symm hh
  · rw [reissueHandle_within hm he hg hl w hu.1]
    exact slot_dismissed_of_claim (hu.2.trans hs) rfl hg hi (by decide)
  · exact doubt_foldl (w.mode hm) walks_reissueHandle (.refl w.claims) hu [h]

omit ho in
/-- Its pledges are removed, so that a tote of it that is pledged at the end is pledged by another entry (R85, R166). -/
theorem pledgeOwned_reissuing {i : StreamNo} (hi : i ≠ 0) {id : ToteId} (hp : pledges e i id = true) : PledgeOwned s.reissuing i id := by
  refine foldl_at hm walks_reissueHandle (k := k) (P := fun u => u.entry k = s.entry k) (Q := fun u => PledgeOwned u i id)
    (fun u h hh w hu => ((acts_reissueHandle (w.mode hm)).entry k (Ne.symm hh)).trans hu) (fun u w hu => ?_)
    (fun u h _ w hu => (acts_reissueHandle (w.mode hm)).pledge i hi id hu) (.refl hc) rfl (List.nodup_finRange 32) (List.mem_finRange k)
  intro q hq hid hpledged
  rw [reissueHandle_within hm he hg hl w hu, list_dismissed, List.mem_map] at hq
  obtain ⟨p, -, rfl⟩ := hq
  split at hid
  next hcond =>
    rw [if_pos hcond] at hpledged
    contradiction
  next hcond => exact absurd ⟨hi, hid ▸ hp⟩ hcond

end

end

end

end Sys2Proof.Machine.State

/-! ## Resolutions in a walk through the table (R110, R166) -/

namespace Sys2Proof.Machine

/-! ### Eligibility does not read pledges (R90) -/

theorem relIndex_unpledged (l : List RelEntry) (id : ToteId) :
    relIndex (l.map (fun r => { r with pledged := false })) id = relIndex l id := by
  unfold relIndex
  rw [List.findIdx?_map]
  rfl

theorem relEntry_unpledged (l : List RelEntry) (id : ToteId) :
    relEntry (l.map (fun r => { r with pledged := false })) id = (relEntry l id).map (fun r => { r with pledged := false }) := by
  unfold relEntry
  rw [List.find?_map]
  rfl

namespace State

/-- A tote is eligible by what a stream is without its pledges. -/
theorem eligible_of_fixed {s t : State} (h : ∀ i, (t.stream i).fixed = (s.stream i).fixed) (r : ToteRec) : t.eligible r = s.eligible r := by
  unfold eligible
  cases toteStream r with
  | none => rfl
  | some i =>
    dsimp only
    have hlist : (t.stream i).list.map (fun r => { r with pledged := false }) = (s.stream i).list.map (fun r => { r with pledged := false }) :=
      congrArg Stream.list (h i)
    have hrow : (t.stream i).row = (s.stream i).row := (congrArg Stream.row (h i) :)
    have hindex : relIndex (t.stream i).list r.id = relIndex (s.stream i).list r.id := by
      rw [← relIndex_unpledged, hlist, relIndex_unpledged]
    have hentry : (relEntry (t.stream i).list r.id).map (fun r => { r with pledged := false })
        = (relEntry (s.stream i).list r.id).map (fun r => { r with pledged := false }) := by
      rw [← relEntry_unpledged, hlist, relEntry_unpledged]
    rw [hindex, hrow]
    cases ht : relEntry (t.stream i).list r.id with
    | none =>
      rw [ht] at hentry
      rw [Option.map_eq_none_iff.mp hentry.symm]
    | some a =>
      rw [ht] at hentry
      obtain ⟨b, hb, hab⟩ := Option.map_eq_some_iff.mp hentry.symm
      have hbarred : b.barred = a.barred := (congrArg RelEntry.barred hab :)
      rw [hb]
      cases relIndex (s.stream i).list r.id with
      | none => rfl
      | some j =>
        dsimp only
        rw [hbarred]

theorem keptItems_congr {s t : State} {e : Entry} {x : Lift} (hp : e.party = .lift x) (hvisit : (t.lift x).visit = (s.lift x).visit)
    (hstream : ∀ i, (t.stream i).fixed = (s.stream i).fixed)
    (hready : ∀ n c, c.outLift = some x → (t.slot n c).ready = (s.slot n c).ready) : t.keptItems e = s.keptItems e := by
  have hfound (n : Level) (id : ToteId) : t.stillFetchable x n id = s.stillFetchable x n id := by
    have hslots : ∀ l : List SlotCode, (∀ c ∈ l, c.outLift = some x) →
        l.findSome? (fun c => match (t.slot n c).ready with
          | some q => if q.tote.id = id && t.eligible q.tote then some (c, q.tote) else none
          | none => none)
        = l.findSome? (fun c => match (s.slot n c).ready with
          | some q => if q.tote.id = id && s.eligible q.tote then some (c, q.tote) else none
          | none => none) := by
      intro l hl
      induction l with
      | nil => rfl
      | cons c l ih =>
        rw [List.findSome?_cons, List.findSome?_cons, ih fun d hd => hl d (List.mem_cons_of_mem _ hd),
          hready n c (hl c List.mem_cons_self)]
        simp only [eligible_of_fixed hstream]
    exact hslots (outPair x) fun c hc => (mem_outPair_iff c x).mp hc
  unfold keptItems
  rw [hp]
  dsimp only
  rw [hvisit]
  simp only [hfound]

/-! ### Slots that stay ready -/

theorem lift_of_mem_keptItems {s : State} {e : Entry} {k : Item} (hk : k ∈ s.keptItems e) :
    ∃ y n c, e.party = .lift y ∧ k.slot = some (n, c) ∧ c.outLift = some y := by
  cases hp : e.party with
  | shuttle m =>
    unfold keptItems at hk
    rw [hp] at hk
    exact absurd hk List.not_mem_nil
  | lift y =>
    cases hv : (s.lift y).visit with
    | none =>
      unfold keptItems at hk
      rw [hp] at hk
      dsimp only at hk
      rw [hv] at hk
      exact absurd hk List.not_mem_nil
    | some v =>
      obtain ⟨c, t, hslot, hc, -⟩ := mem_keptItems hp hv hk
      exact ⟨y, v.level, c, rfl, hslot, hc⟩

section
variable {s : State} {h : Handle} (hm : s.mode = .run) (hc : ClaimsGranted s)
include hm hc

/-- The resolution of another party's entry leaves a lift's own slots as they are (R110). -/
theorem slot_resolveIfDecided_of_other {x : Lift} (hp : ∀ e, s.entry h = some e → e.party ≠ .lift x) {n : Level} {c : SlotCode}
    (hx : c.outLift = some x) : (s.resolveIfDecided h).slot n c = s.slot n c := by
  by_cases hconf : ∃ e, s.entry h = some e ∧ e.phase = .confirming
  case neg => rw [resolveIfDecided_of_not_confirming fun e he hph => hconf ⟨e, he, hph⟩]
  obtain ⟨e, he, hconf⟩ := hconf
  have hg := isGranted_of_confirming hconf
  rw [resolveIfDecided_of_confirming he hconf]
  split
  case isFalse => rfl
  by_cases hk : s.keptItems e = []
  · cases hw : e.wait with
    | true =>
      rw [resolve_of_none_waiting hk hw]
      show (((s.dropConfirmAsks h).setEntry h _).sendParty _ _ _).slot n c = _
      rw [sendParty_keeps]
      rfl
    | false =>
      rw [resolve_of_none_refused hk hw, refuseEntry_of_run (s := s.dropConfirmAsks h) hm hg, slot,
        slots_dismissed_of_unowned (s := s.dropConfirmAsks h) hg fun n c q hq heq => ?_]
      · rfl
      · have hgranted := hc n c q hq e (by rw [heq, he])
        exact Bool.false_ne_true (hg.symm.trans hgranted)
  · rw [resolve_of_kept hk]
    have hkeeps := (s.dropConfirmAsks h).grant_keeps h e (s.keptItems e)
    have hslots : ((s.dropConfirmAsks h).grant h e (s.keptItems e)).slot n c
        = ((s.dropConfirmAsks h).takeClaims h e.kind (s.keptItems e)).slot n c := by
      rw [hkeeps]
      rfl
    refine hslots.trans (slot_takeClaims_of_not_named (s.dropConfirmAsks h) fun i hi heq => ?_)
    obtain ⟨y, m, d, hparty, hslot, hd⟩ := lift_of_mem_keptItems hi
    rw [hslot, Option.some.injEq, Prod.mk.injEq] at heq
    obtain ⟨-, rfl⟩ := heq
    rw [hx] at hd
    exact hp e he (hparty.trans (congrArg Party.lift (Option.some.inj hd).symm))

end

/-! ### The walk -/

theorem walks_resolveIfDecided : Walks (fun u h => u.resolveIfDecided h) := fun _ _ hm => acts_resolveIfDecided hm

/-- Step 4 of a resume with REISSUE for the whole table: the resolutions (R110, R166). -/
def resolving (s : State) : State := allHandles.foldl (fun u h => u.resolveIfDecided h) s

section
variable {s : State} (hm : s.mode = .run) (hc : ClaimsGranted s)
include hm hc

theorem within_resolving : Within s s.resolving := within_foldl hm walks_resolveIfDecided (.refl hc) allHandles

variable (ho : OneEntryEach s) {k : Handle} {e : Entry} (he : s.entry k = some e)
include ho he

/-- An entry that is not CONFIRMING, or has a tote asked, stays (R110). -/
theorem resolving_of_undecided (hn : e.phase = .confirming → ∃ j ∈ e.items, j.conf = .asked) :
    s.resolving.entry k = some e ∧ s.resolving.port e.party = s.port e.party := by
  have hstands := stands_foldl hm walks_resolveIfDecided hc (other_party ho he) (fun u _ hu => ?_) allHandles
  · exact ⟨hstands.1.trans he, hstands.2⟩
  · by_cases hconf : e.phase = .confirming
    · obtain ⟨j, hj, hasked⟩ := hn hconf
      exact (resolveIfDecided_of_confirming (hu.trans he) hconf).trans (if_neg fun h => h.2 j hj hasked)
    · refine resolveIfDecided_of_not_confirming fun f hf => ?_
      rw [hu, he] at hf
      rw [← Option.some.inj hf]
      exact hconf

section
variable (hconf : e.phase = .confirming) (hall : ∀ j ∈ e.items, j.conf ≠ .asked) {x : Lift} (hp : e.party = .lift x)
include hconf hall hp

/-- What a resolution finds and leaves: it finds the slots of its lift as they were. -/
theorem resolving_of_decided {E : Option Entry} {v : LinkRec ⊕ ShuttleRec}
    (hop : ∀ u, Within s u → u.entry k = some e → u.keptItems e = s.keptItems e → u.port (.lift x) = s.port (.lift x) →
      (u.resolve k e).entry k = E ∧ (u.resolve k e).port (.lift x) = v) :
    s.resolving.entry k = E ∧ s.resolving.port (.lift x) = v := by
  have hother : ∀ h, h ≠ k → ∀ g, s.entry h = some g → g.party ≠ .lift x := hp ▸ other_party ho he
  refine acted_foldl hm walks_resolveIfDecided hc hother (P := fun u => ∀ n c, c.outLift = some x → (u.slot n c).ready = (s.slot n c).ready)
    (fun u h hh w hu n c hx => ?_) (fun _ _ _ => rfl) (fun u w hu hport hready => ?_) (List.nodup_finRange 32) (List.mem_finRange k)
  · rw [slot_resolveIfDecided_of_other (w.mode hm) w.claims (fun g hg hgp => ?_) hx]
    · exact hu n c hx
    · obtain ⟨f, hf, hfp⟩ := w.party h g hg
      exact hother h hh f hf (hfp.symm.trans hgp)
  · have hkept : u.keptItems e = s.keptItems e :=
      keptItems_congr hp (by rw [lift, w.constant.coord, lift]) w.constant.stream hready
    rw [resolveIfDecided_of_confirming (hu.trans he) hconf, if_pos ⟨w.mode hm, hall⟩]
    exact hop u w (hu.trans he) hkept hport

/-- The items still fetchable are granted (R110). -/
theorem resolving_of_kept (hk : s.keptItems e ≠ []) :
    s.resolving.entry k = some (e.granted s.time s.timing (s.keptItems e))
    ∧ s.resolving.port (.lift x) = portAfter (s.goAgain k { e with items := s.keptItems e }) (some k) (s.port (.lift x)) := by
  refine resolving_of_decided hm hc ho he hconf hall hp fun u w hu hkept hport => ?_
  have hgrant := (u.dropConfirmAsks k).grant_eq k e (s.keptItems e)
  have hgo : (u.dropConfirmAsks k).toward e.party 0x28 e.tag (.go (BitVec.ofNat 8 k.val) e.kind.ask
      ((s.keptItems e).filterMap (fun i => i.slot.map (fun a => (a.1, a.2, i.tote.id))))) = s.goAgain k { e with items := s.keptItems e } := by
    have hunique : (u.dropConfirmAsks k).store.unique = s.store.unique := w.constant.unique
    unfold goAgain toward
    rw [hunique]
  rw [resolve_of_kept (by rw [hkept]; exact hk), hkept]
  refine ⟨?_, ?_⟩
  · have hkeeps := (u.dropConfirmAsks k).grant_keeps k e (s.keptItems e)
    refine (entry_of_table (t := ((u.dropConfirmAsks k).grant k e (s.keptItems e)).wantReeval)
      (s := u.setEntry k (some (e.granted u.time u.timing (s.keptItems e)))) ?_ k).trans ?_
    · rw [wantReeval_table, hkeeps]
      rfl
    · rw [entry_setEntry_self, w.constant.time, w.constant.timing]
  · have hparty := port_sendParty_self ((u.dropConfirmAsks k).granting k e (s.keptItems e)) (.lift x)
      (s.goAgain k { e with items := s.keptItems e }) (some k)
    have hbefore : ((u.dropConfirmAsks k).granting k e (s.keptItems e)).port (.lift x) = s.port (.lift x) := by
      rw [granting_keeps]
      exact hport
    rw [hbefore] at hparty
    rw [← hparty, hgrant, hgo, hp]
    rfl

/-- With nothing left to grant and no wait flag the entry is refused DENIED (R110). -/
theorem resolving_of_refused (hk : s.keptItems e = []) (hw : e.wait = false) :
    s.resolving.entry k = none ∧ s.resolving.port (.lift x) = portAfter (s.refusal .denied (k, e)) (some k) (s.port (.lift x)) := by
  refine resolving_of_decided hm hc ho he hconf hall hp fun u w hu hkept hport => ?_
  have hrefusal : (u.dropConfirmAsks k).refusal .denied (k, e) = s.refusal .denied (k, e) := by
    have hunique : (u.dropConfirmAsks k).store.unique = s.store.unique := w.constant.unique
    unfold refusal toParty
    rw [hunique]
  rw [resolve_of_none_refused (hkept.trans hk) hw,
    refuseEntry_of_run (s := u.dropConfirmAsks k) (w.mode hm) (isGranted_of_confirming hconf)]
  refine ⟨(entry_dismissed k).trans (if_pos rfl), ?_⟩
  have hsent := port_sendParty_self (u.dropConfirmAsks k) (.lift x) (s.refusal .denied (k, e)) (some k)
  have hbefore : (u.dropConfirmAsks k).port (.lift x) = s.port (.lift x) := hport
  rw [hbefore] at hsent
  rw [← hsent, dismissed_keeps, hrefusal, hp]
  rfl

/-- With nothing left to grant and the wait flag set the entry is held NOT-ELIGIBLE (R38, R110). -/
theorem resolving_of_held (hk : s.keptItems e = []) (hw : e.wait = true) :
    s.resolving.entry k = some (({ e with items := [] } : Entry).held s.timing .notEligible)
    ∧ s.resolving.port (.lift x) = portAfter (s.toward e.party 0x29 e.tag (.hold (BitVec.ofNat 8 k.val) .notEligible)) (some k)
      (s.port (.lift x)) := by
  refine resolving_of_decided hm hc ho he hconf hall hp fun u w hu hkept hport => ?_
  have hhold : (u.dropConfirmAsks k).hold k { e with items := [] } .notEligible
      = ((u.dropConfirmAsks k).setEntry k (some (({ e with items := [] } : Entry).held s.timing .notEligible))).sendParty e.party
        (s.toward e.party 0x29 e.tag (.hold (BitVec.ofNat 8 k.val) .notEligible)) (some k) := by
    have hunique : (u.dropConfirmAsks k).store.unique = s.store.unique := w.constant.unique
    have htiming : (u.dropConfirmAsks k).timing = s.timing := w.constant.timing
    unfold hold sendHold toward toParty
    rw [htiming]
    show sendParty _ e.party ⟨(u.dropConfirmAsks k).store.unique, _, (u.dropConfirmAsks k).store.unique, _, _, _, _⟩ _ = _
    rw [hunique]
    rfl
  have hsent := sendParty_keeps
    ((u.dropConfirmAsks k).setEntry k (some (({ e with items := [] } : Entry).held s.timing .notEligible))) e.party
    (s.toward e.party 0x29 e.tag (.hold (BitVec.ofNat 8 k.val) .notEligible)) (some k)
  rw [resolve_of_none_waiting (hkept.trans hk) hw, hhold]
  refine ⟨?_, ?_⟩
  · refine (entry_of_table (t := wantReeval _)
      (s := u.setEntry k (some (({ e with items := [] } : Entry).held s.timing .notEligible))) ?_ k).trans (entry_setEntry_self _ _ _)
    rw [wantReeval_table, hsent]
    rfl
  · have hafter := port_sendParty_self
      ((u.dropConfirmAsks k).setEntry k (some (({ e with items := [] } : Entry).held s.timing .notEligible))) (.lift x)
      (s.toward e.party 0x29 e.tag (.hold (BitVec.ofNat 8 k.val) .notEligible)) (some k)
    have hbefore : ((u.dropConfirmAsks k).setEntry k (some (({ e with items := [] } : Entry).held s.timing .notEligible))).port (.lift x)
        = s.port (.lift x) := hport
    rw [hbefore] at hafter
    rw [← hafter, hp]
    rfl

end

end

end State

end Sys2Proof.Machine

/-! ## The re-evaluation at the end of a step in RUN (R49, R166) -/

namespace Sys2Proof.Machine.State

theorem walks_reevalEntry : Walks (fun u h => u.reevalEntry h) := fun _ _ hm => acts_reevalEntry hm

/-! ### States that show the same entries, ports and slots -/

/-- A state that has the table, slots, release lists, ports, mode and faults of another one; visits, routing and call queues may
differ. -/
structure Shows (s t : State) : Prop where
  table : t.table = s.table
  slots : t.slots = s.slots
  list : ∀ i, (t.stream i).list = (s.stream i).list
  links : t.links = s.links
  shuttles : t.shuttles = s.shuttles
  modeCtl : t.modeCtl = s.modeCtl
  faults : t.faults = s.faults
  notices : t.notices = s.notices

section
variable {s t u : State} (a : Shows s t)
include a

theorem Shows.trans (b : Shows t u) : Shows s u :=
  ⟨b.table.trans a.table, b.slots.trans a.slots, fun i => (b.list i).trans (a.list i), b.links.trans a.links,
    b.shuttles.trans a.shuttles, b.modeCtl.trans a.modeCtl, b.faults.trans a.faults, b.notices.trans a.notices⟩

theorem Shows.entry (k : Handle) : t.entry k = s.entry k := entry_of_table a.table k

theorem Shows.slot (n : Level) (c : SlotCode) : t.slot n c = s.slot n c := by rw [State.slot, a.slots, State.slot]

theorem Shows.link (y : Lift) : t.link y = s.link y := by rw [State.link, a.links, State.link]

theorem Shows.port (p : Party) : t.port p = s.port p := by
  cases p with
  | shuttle n => exact congrArg Sum.inr (by rw [shuttle, a.shuttles, shuttle])
  | lift y => exact congrArg Sum.inl (a.link y)

theorem Shows.claimsGranted : ClaimsGranted t ↔ ClaimsGranted s := by
  unfold ClaimsGranted
  simp only [a.slot, a.entry]

theorem Shows.pledgeOwned (i : StreamNo) (id : ToteId) : PledgeOwned t i id ↔ PledgeOwned s i id := by
  unfold PledgeOwned
  simp only [a.list, a.entry]

end

/-! ### One WAITING entry -/

theorem entry_grant (s : State) (h : Handle) (e : Entry) (items : List Item) :
    (s.grant h e items).entry h = some (e.granted s.time s.timing items) := by
  rw [entry_of_table (t := s.grant h e items) (s := s.setEntry h (some (e.granted s.time s.timing items)))
    (by rw [grant_keeps]), entry_setEntry_self]

theorem entry_enterConfirming (s : State) (h : Handle) (e : Entry) (items : List Item) : (s.enterConfirming h e items).entry h
    = some { e with phase := .confirming, items := items, timer := s.timing.confirmLimit.zeroExtend 32 } := by
  have hsent := sendParty_keeps (s.setEntry h (some { e with phase := .confirming, items := items, timer := s.timing.confirmLimit.zeroExtend 32 }))
    e.party (s.toward e.party 0x29 e.tag (.hold (BitVec.ofNat 8 h.val) .confirm)) (some h)
  rw [enterConfirming_eq]
  refine (entry_of_table (t := State.touch _)
    (s := s.setEntry h (some { e with phase := .confirming, items := items, timer := s.timing.confirmLimit.zeroExtend 32 })) ?_ h).trans
    (entry_setEntry_self _ _ _)
  exact (congrArg State.table hsent :)

/-- What a re-evaluation makes of a WAITING entry that stands after it: it is GRANTED or CONFIRMING, or goes on waiting with
its timer going on. -/
theorem entry_reevalEntry {s : State} {h : Handle} {e f : Entry} (hm : s.mode = .run) (he : s.entry h = some e) (hw : e.isWaiting = true)
    (hf : (s.reevalEntry h).entry h = some f) : f.party = e.party ∧ f.kind = e.kind ∧ f.tag = e.tag ∧ f.askStamp = e.askStamp
      ∧ ∀ q, f.phase = .waiting q → f = { e with phase := .waiting q } := by
  have hg := isGranted_of_waiting hw
  cases hq : s.reroute e with
  | some q =>
    rw [reevalEntry_of_reroute he hw hq, refuseEntry_of_run hm hg, entry_dismissed, if_pos rfl] at hf
    contradiction
  | none =>
    cases hv : s.verdict e with
    | grant items =>
      rw [reevalEntry_of_grant he hw hq hv, entry_grant] at hf
      rw [← Option.some.inj hf]
      exact ⟨rfl, rfl, rfl, rfl, fun q hq => Phase.noConfusion hq⟩
    | confirm items =>
      rw [reevalEntry_of_confirm he hw hq hv, entry_enterConfirming] at hf
      rw [← Option.some.inj hf]
      exact ⟨rfl, rfl, rfl, rfl, fun q hq => Phase.noConfusion hq⟩
    | wait r =>
      rw [reevalEntry_of_wait he hw hq hv, entry_setEntry_self] at hf
      rw [← Option.some.inj hf]
      exact ⟨rfl, rfl, rfl, rfl, fun q hq => by rw [← hq]⟩

/-- A lift's WAITING entry is not refused by a re-evaluation. -/
theorem entry_reevalEntry_of_lift {s : State} {h : Handle} {e : Entry} {x : Lift} (he : s.entry h = some e) (hw : e.isWaiting = true)
    (hp : e.party = .lift x) : ∃ f, (s.reevalEntry h).entry h = some f := by
  have hq := reroute_of_lift (s := s) hp
  cases hv : s.verdict e with
  | grant items => exact ⟨_, by rw [reevalEntry_of_grant he hw hq hv, entry_grant]⟩
  | confirm items => exact ⟨_, by rw [reevalEntry_of_confirm he hw hq hv, entry_enterConfirming]⟩
  | wait r => exact ⟨_, by rw [reevalEntry_of_wait he hw hq hv, entry_setEntry_self]⟩

/-! ### The walk through the hold queue -/

/-- The state after a walk through the hold queue in RUN, when it is wanted (R49). -/
def reevaluated (s : State) : State := if s.work.reeval then s.reevaluate else s

/-- The handles that the walk goes through. -/
def reevaluatedHandles (s : State) : List Handle := if s.work.reeval then s.holdQueue else []

section
variable {s : State} (hm : s.mode = .run)
include hm

theorem reevaluated_eq : s.reevaluated = s.reevaluatedHandles.foldl (fun u h => u.reevalEntry h) s := by
  unfold reevaluated reevaluatedHandles reevaluate
  rw [if_pos hm]
  split <;> rfl

omit hm in
theorem nodup_reevaluatedHandles : s.reevaluatedHandles.Nodup := by
  unfold reevaluatedHandles
  split
  · exact s.nodup_holdQueue
  · exact List.nodup_nil

omit hm in
theorem waiting_of_mem_reevaluatedHandles {h : Handle} (hh : h ∈ s.reevaluatedHandles) : ∃ e, s.entry h = some e ∧ e.isWaiting = true := by
  unfold reevaluatedHandles at hh
  split at hh
  · obtain ⟨e, r, he, hr⟩ := (s.mem_holdQueue_iff h).mp hh
    exact ⟨e, he, (isWaiting_iff e).mpr ⟨r, hr⟩⟩
  · exact absurd hh List.not_mem_nil

variable (hc : ClaimsGranted s)
include hc

theorem within_reevaluated : Within s s.reevaluated := by
  rw [reevaluated_eq hm]
  exact within_foldl hm walks_reevalEntry (.refl hc) _

/-- The port of a party without an entry stays. -/
theorem port_reevaluated {p : Party} (hp : ∀ h e, s.entry h = some e → e.party ≠ p) : s.reevaluated.port p = s.port p := by
  rw [reevaluated_eq hm]
  exact port_foldl_of_no_entry hm walks_reevalEntry (.refl hc) hp _

theorem entry_reevaluated_of_none {k : Handle} (hk : s.entry k = none) : s.reevaluated.entry k = none := by
  cases hf : s.reevaluated.entry k with
  | none => rfl
  | some f =>
    obtain ⟨e, he, -⟩ := (within_reevaluated hm hc).party k f hf
    exact absurd (hk.symm.trans he) (Option.some_ne_none e).symm

/-- A WAITING entry that is still WAITING has its timer going on (R38, R49). -/
theorem entry_reevaluated_of_waiting {k : Handle} {e : Entry} (he : s.entry k = some e) {f : Entry} {q : Reason}
    (hf : s.reevaluated.entry k = some f) (hq : f.phase = .waiting q) : f = { e with phase := .waiting q } := by
  have hwalk : ∀ f q, s.reevaluated.entry k = some f → f.phase = .waiting q → f = { e with phase := .waiting q } := by
    rw [reevaluated_eq hm]
    refine foldl_keeps hm walks_reevalEntry
      (P := fun u => ∀ f q, u.entry k = some f → f.phase = .waiting q → f = { e with phase := .waiting q }) (fun u h w hu f q hf hq => ?_)
      (.refl hc) (fun f q hf hq => ?_) _
    · by_cases hh : h = k
      · subst hh
        cases hg : u.entry h with
        | none =>
          rw [reevalEntry_of_not_waiting fun g r hg' => absurd (hg.symm.trans hg') (Option.some_ne_none g).symm, hg] at hf
          contradiction
        | some g =>
          cases hgw : g.isWaiting with
          | false =>
            rw [reevalEntry_of_not_waiting fun g' r hg' hr => ?_] at hf
            · exact hu f q hf hq
            · rw [← Option.some.inj (hg.symm.trans hg')] at hr
              exact Bool.false_ne_true (hgw.symm.trans ((isWaiting_iff g).mpr ⟨r, hr⟩))
          | true =>
            obtain ⟨r, hr⟩ := (isWaiting_iff g).mp hgw
            have hbefore := hu g r hg hr
            have hafter := (entry_reevalEntry (w.mode hm) hg hgw hf).2.2.2.2 q hq
            rw [hafter, hbefore]
      · exact hu f q (((acts_reevalEntry (w.mode hm)).entry k (Ne.symm hh)).symm.trans hf) hq
    · obtain rfl := Option.some.inj (he.symm.trans hf)
      rw [← hq]
  exact hwalk f q hf hq

variable (ho : OneEntryEach s)
include ho

/-- An entry that is not WAITING stays, and its party is sent nothing. -/
theorem reevaluated_of_not_waiting {k : Handle} {e : Entry} (he : s.entry k = some e) (hw : e.isWaiting = false) :
    s.reevaluated.entry k = some e ∧ s.reevaluated.port e.party = s.port e.party := by
  rw [reevaluated_eq hm]
  have hstands := stands_foldl hm walks_reevalEntry hc (other_party ho he) (fun u _ hu => ?_) s.reevaluatedHandles
  · exact ⟨hstands.1.trans he, hstands.2⟩
  · refine reevalEntry_of_not_waiting fun f r hf hr => ?_
    rw [hu, he] at hf
    rw [← Option.some.inj hf] at hr
    exact Bool.false_ne_true (hw.symm.trans ((isWaiting_iff e).mpr ⟨r, hr⟩))

omit ho in
/-- A lift's WAITING entry stands, with what it was asked for, and what waits in the lift's queue stays there. -/
theorem reevaluated_of_lift {k : Handle} {e : Entry} (he : s.entry k = some e) {x : Lift} (hp : e.party = .lift x) :
    ∃ f, s.reevaluated.entry k = some f ∧ f.party = e.party ∧ f.kind = e.kind ∧ f.tag = e.tag ∧ f.askStamp = e.askStamp
      ∧ ∀ i ∈ (s.link x).down, i ∈ (s.reevaluated.link x).down := by
  rw [reevaluated_eq hm]
  refine foldl_keeps hm walks_reevalEntry (P := fun u => ∃ f, u.entry k = some f ∧ f.party = e.party ∧ f.kind = e.kind ∧ f.tag = e.tag
    ∧ f.askStamp = e.askStamp ∧ ∀ i ∈ (s.link x).down, i ∈ (u.link x).down) (fun u h w hu => ?_) (.refl hc)
    ⟨e, he, rfl, rfl, rfl, rfl, fun _ => id⟩ _
  obtain ⟨f, hf, hparty, hkind, htag, hstamp, hdown⟩ := hu
  have a := acts_reevalEntry (h := h) (w.mode hm)
  obtain ⟨l, hl, -⟩ := a.down x
  have hdown' : ∀ i ∈ (s.link x).down, i ∈ ((u.reevalEntry h).link x).down := fun i hi => by
    rw [hl]
    exact List.mem_append_left _ (hdown i hi)
  by_cases hh : h = k
  · subst hh
    cases hfw : f.isWaiting with
    | false =>
      rw [reevalEntry_of_not_waiting fun g r hg hr => ?_]
      · exact ⟨f, hf, hparty, hkind, htag, hstamp, hdown⟩
      · rw [← Option.some.inj (hf.symm.trans hg)] at hr
        exact Bool.false_ne_true (hfw.symm.trans ((isWaiting_iff f).mpr ⟨r, hr⟩))
    | true =>
      obtain ⟨g, hg⟩ := entry_reevalEntry_of_lift hf hfw (hparty.trans hp)
      obtain ⟨h1, h2, h3, h4, -⟩ := entry_reevalEntry (w.mode hm) hf hfw hg
      exact ⟨g, hg, h1.trans hparty, h2.trans hkind, h3.trans htag, h4.trans hstamp, hdown'⟩
  · exact ⟨f, (a.entry k (Ne.symm hh)).trans hf, hparty, hkind, htag, hstamp, hdown'⟩

/-- With room for the lifts of WAITING entries the re-evaluation raises nothing (R128). -/
theorem raises_reevaluated (hroom : ∀ h e y, s.entry h = some e → e.isWaiting = true → e.party = .lift y → (s.link y).down.length < 8) :
    s.reevaluated.work.raises = s.work.raises := by
  rw [reevaluated_eq hm]
  refine raises_foldl hm walks_reevalEntry ho (.refl hc) nodup_reevaluatedHandles fun h hh e he y hy => ?_
  obtain ⟨f, hf, hw⟩ := waiting_of_mem_reevaluatedHandles hh
  exact hroom h f y hf hw (by rw [Option.some.inj (hf.symm.trans he), hy])

end

/-! ### The end of the step -/

/-- The streams evaluated at the end of a step, after the scheduler's look. -/
@[irreducible] def evaluated (s : State) : State := s.lookDone.evalStreams

theorem shows_evaluated (s : State) : Shows s s.evaluated ∧ s.evaluated.work.raises = s.work.raises
    ∧ s.evaluated.store = s.store ∧ ∀ y, (s.evaluated.lift y).visit = (s.lift y).visit := by
  have hlist := s.lookDone.list_evalStreams
  have hkeeps := s.lookDone.evalStreams_keeps
  unfold evaluated
  generalize s.lookDone.evalStreams = u at hlist hkeeps ⊢
  have hlook (i : StreamNo) : (s.lookDone.stream i).list = (s.stream i).list := by rw [stream, lookDone_streams, stream]
  have hraises : s.lookDone.work.raises = s.work.raises := by rw [lookDone_work]
  have hvisit (y : Lift) : (s.lookDone.lift y).visit = (s.lift y).visit := by rw [lift, lookDone_coord, lift]
  refine ⟨⟨?_, ?_, fun i => (hlist i).trans (hlook i), ?_, ?_, ?_, ?_, ?_⟩, ?_, ?_, fun y => ?_⟩
  all_goals rw [hkeeps]
  exacts [lookDone_table s, lookDone_slots s, lookDone_links s, lookDone_shuttles s, lookDone_modeCtl s, lookDone_faults s,
    lookDone_notices s, hraises, lookDone_store s, hvisit y]

/-- A step with changes to pass on ends, when nothing is raised, with the re-evaluation (R49). -/
theorem shows_finish {s : State} (ht : s.work.touched = true) (hr : s.evaluated.reevaluated.work.raises = []) :
    Shows s.evaluated.reevaluated s.finish ∧ ∀ y, (s.finish.lift y).visit = (s.evaluated.reevaluated.lift y).visit := by
  have hpass (u : State) : u.passOn = { u.reevaluated.updateCalls with work := { u.reevaluated.work with touched := false, reeval := false } } := rfl
  have hevaluated : s.evaluated = s.lookDone.evalStreams := by
    unfold evaluated
    rfl
  have hsettle := settle_of_touched s.lookDone (by rw [lookDone_work, ht])
  rw [← evalStreams_eq, ← hevaluated] at hsettle
  have hcalm := s.lookDone.touched_settle
  rw [hpass] at hsettle
  unfold finish
  dsimp only
  rw [finishWith_settle]
  generalize s.evaluated.reevaluated = u at hr hsettle ⊢
  rw [finishWith_of_calm hcalm (by rw [hsettle]; exact hr), hsettle]
  refine ⟨⟨rfl, rfl, fun _ => rfl, rfl, rfl, rfl, rfl, rfl⟩, fun y => ?_⟩
  show (u.updateCalls.lift y).visit = _
  rw [lift_updateCalls]

end Sys2Proof.Machine.State

/-! ## What follows the resolutions of a resume with REISSUE (R49, R166) -/

namespace Sys2Proof.Machine.State

/-- Every open visit's timer at its full limit (R166). -/
def restarted (s : State) : State := (s.setLift .a (s.lift .a).restartVisit).setLift .b (s.lift .b).restartVisit

theorem lift_restarted (s : State) (y : Lift) : s.restarted.lift y = (s.lift y).restartVisit := by
  cases y <;> rfl

/-- The visits restarted, and the streams evaluated at the end of the step. -/
def routed (s : State) : State := s.restarted.wantReeval.evaluated

section
variable {s : State}

theorem shows_routed : Shows s s.routed := by
  have h : Shows s s.restarted.wantReeval := ⟨rfl, rfl, fun _ => rfl, rfl, rfl, rfl, rfl, rfl⟩
  exact h.trans s.restarted.wantReeval.shows_evaluated.1

theorem raises_routed : s.routed.work.raises = s.work.raises := s.restarted.wantReeval.shows_evaluated.2.1

theorem visit_routed (y : Lift) : (s.routed.lift y).visit = (s.lift y).visit.map (fun v => { v with timer := v.limit }) := by
  refine (s.restarted.wantReeval.shows_evaluated.2.2.2 y).trans ?_
  show (s.restarted.lift y).visit = _
  rw [lift_restarted]
  rfl

variable (hm : s.mode = .run) (hc : ClaimsGranted s) (ho : OneEntryEach s)

theorem claimsGranted_routed : ClaimsGranted s.routed ↔ ClaimsGranted s := shows_routed.claimsGranted

include hm in
theorem mode_routed : s.routed.mode = .run := (congrArg ModeCtl.mode shows_routed.modeCtl).trans hm

include ho in
theorem oneEntryEach_routed : OneEntryEach s.routed := by
  intro h k e he f hf
  rw [shows_routed.entry] at he hf
  exact ho h k e he f hf

/-- The state with which the step ends, but for the call queues. -/
def passedOn (s : State) : State := s.routed.reevaluated

include hm hc

theorem within_passedOn : Within s.routed s.passedOn := within_reevaluated (mode_routed hm) (claimsGranted_routed.mpr hc)

theorem constants_passedOn : s.passedOn.modeCtl = s.modeCtl ∧ s.passedOn.faults = s.faults
    ∧ (s.notices.pending.doubt = true → s.passedOn.notices.pending.doubt = true)
    ∧ ∀ y, (s.passedOn.lift y).visit = (s.lift y).visit.map (fun v => { v with timer := v.limit }) := by
  have w := (within_passedOn hm hc).constant
  refine ⟨w.modeCtl.trans shows_routed.modeCtl, w.faults.trans shows_routed.faults, fun hd => w.doubt ?_, fun y => ?_⟩
  · rw [shows_routed.notices]
    exact hd
  · rw [lift, w.coord]
    exact visit_routed y

/-- The port of a party without an entry stays. -/
theorem port_passedOn {p : Party} (hp : ∀ h e, s.entry h = some e → e.party ≠ p) : s.passedOn.port p = s.port p :=
  (port_reevaluated (mode_routed hm) (claimsGranted_routed.mpr hc) fun h e he => hp h e ((shows_routed.entry h).symm.trans he)).trans
    (shows_routed.port p)

theorem entry_passedOn_of_none {k : Handle} (hk : s.entry k = none) : s.passedOn.entry k = none :=
  entry_reevaluated_of_none (mode_routed hm) (claimsGranted_routed.mpr hc) ((shows_routed.entry k).trans hk)

theorem entry_passedOn_of_waiting {k : Handle} {e : Entry} (he : s.entry k = some e) {f : Entry} {q : Reason}
    (hf : s.passedOn.entry k = some f) (hq : f.phase = .waiting q) : f = { e with phase := .waiting q } :=
  entry_reevaluated_of_waiting (mode_routed hm) (claimsGranted_routed.mpr hc) ((shows_routed.entry k).trans he) hf hq

theorem passedOn_of_lift {k : Handle} {e : Entry} (he : s.entry k = some e) {x : Lift} (hp : e.party = .lift x) :
    ∃ f, s.passedOn.entry k = some f ∧ f.party = e.party ∧ f.kind = e.kind ∧ f.tag = e.tag ∧ f.askStamp = e.askStamp
      ∧ ∀ i ∈ (s.link x).down, i ∈ (s.passedOn.link x).down := by
  have h := reevaluated_of_lift (mode_routed hm) (claimsGranted_routed.mpr hc) ((shows_routed.entry k).trans he) hp
  rwa [shows_routed.link] at h

theorem doubt_passedOn {n : Level} {c : SlotCode} {content : Option Content} {cause : DoubtCause}
    (hs : s.slot n c = .doubt content cause none none) : s.passedOn.slot n c = .doubt content cause none none := by
  unfold passedOn
  rw [reevaluated_eq (mode_routed hm)]
  exact doubt_foldl (mode_routed hm) walks_reevalEntry (.refl (claimsGranted_routed.mpr hc)) ((shows_routed.slot n c).trans hs) _

theorem pledgeOwned_passedOn {i : StreamNo} (hi : i ≠ 0) {id : ToteId} (hp : PledgeOwned s i id) : PledgeOwned s.passedOn i id := by
  unfold passedOn
  rw [reevaluated_eq (mode_routed hm)]
  exact pledgeOwned_foldl (mode_routed hm) walks_reevalEntry (.refl (claimsGranted_routed.mpr hc)) hi
    ((shows_routed.pledgeOwned i id).mpr hp) _

include ho

/-- An entry that is not WAITING stays, and its party is sent nothing. -/
theorem passedOn_of_not_waiting {k : Handle} {e : Entry} (he : s.entry k = some e) (hw : e.isWaiting = false) :
    s.passedOn.entry k = some e ∧ s.passedOn.port e.party = s.port e.party := by
  have h := reevaluated_of_not_waiting (mode_routed hm) (claimsGranted_routed.mpr hc) (oneEntryEach_routed ho)
    ((shows_routed.entry k).trans he) hw
  rwa [shows_routed.port] at h

theorem raises_passedOn (hroom : ∀ h e y, s.entry h = some e → e.isWaiting = true → e.party = .lift y → (s.link y).down.length < 8) :
    s.passedOn.work.raises = s.work.raises := by
  refine (raises_reevaluated (mode_routed hm) (claimsGranted_routed.mpr hc) (oneEntryEach_routed ho) fun h e y he hw hy => ?_).trans
    raises_routed
  rw [shows_routed.link]
  exact hroom h e y ((shows_routed.entry h).symm.trans he) hw hy

end

/-! ### A resume with REISSUE as a whole -/

/-- The state in which the resolutions of a resume with REISSUE begin: GOs made again, entries revoked, DOUBT handed on. -/
def flagged (s : State) (gone : List (Handle × Entry)) : State := s.reissuing.flagDoubt gone

theorem alike_flagged (s : State) (gone : List (Handle × Entry)) : Alike s.reissuing (s.flagged gone) := by
  have hkeeps := s.reissuing.flagDoubt_keeps gone
  have hunique := s.reissuing.unique_flagDoubt gone
  have hdoubt : s.reissuing.notices.pending.doubt = true → (s.flagged gone).notices.pending.doubt = true := fun hd => by
    unfold flagged flagDoubt
    split
    · exact doubt_handFlag _
    · exact hd
  unfold flagged at hdoubt ⊢
  generalize s.reissuing.flagDoubt gone = u at hkeeps hunique hdoubt ⊢
  refine ⟨?_, ?_, ?_, ?_, ?_, ?_, ?_, ?_, ?_, ?_, hunique, hdoubt, ?_⟩
  all_goals rw [hkeeps]

theorem doubt_flagged (s : State) {gone : List (Handle × Entry)} (hg : ∃ x ∈ gone, x.2.phase.isGranted = true) :
    (s.flagged gone).notices.pending.doubt = true := by
  unfold flagged flagDoubt
  rw [if_pos (List.any_eq_true.mpr hg)]
  exact doubt_handFlag _

/-- The state in which a resume with REISSUE is passed on. -/
def reissued (s : State) (gone : List (Handle × Entry)) : State := (s.flagged gone).resolving.restarted.wantReeval

theorem reissue_eq (s : State) : s.reissue
    = (s.setMode .run).reissued (s.entries.filter (fun x => x.2.phase.isGranted && s.latch x.2.party)) := rfl

end Sys2Proof.Machine.State

/-! ## What a resume with REISSUE leaves (R10, R39, R110, R166) -/

namespace Sys2Proof.Machine.State

/-- The state with which a step with a resume with REISSUE ends, but for the call queues. -/
def reissueEnds (s : State) (gone : List (Handle × Entry)) : State := (s.flagged gone).resolving.passedOn

section
variable {s : State} (gone : List (Handle × Entry)) (hm : s.mode = .run) (hc : ClaimsGranted s)
include hm hc

theorem within_flagged : Within s (s.flagged gone) := (within_reissuing hm hc).of_alike (s.alike_flagged gone)

theorem mode_flagged : (s.flagged gone).mode = .run := (within_flagged gone hm hc).mode hm

theorem within_resolved : Within (s.flagged gone) (s.flagged gone).resolving :=
  within_resolving (mode_flagged gone hm hc) (within_flagged gone hm hc).claims

theorem mode_resolved : (s.flagged gone).resolving.mode = .run := (within_resolved gone hm hc).mode (mode_flagged gone hm hc)

/-- Mode and faults stay, DOUBT stays handed on, and each open visit's timer is at its full limit. -/
theorem constants_reissueEnds : (s.reissueEnds gone).modeCtl = s.modeCtl ∧ (s.reissueEnds gone).faults = s.faults
    ∧ ((s.flagged gone).notices.pending.doubt = true → (s.reissueEnds gone).notices.pending.doubt = true)
    ∧ ∀ y, ((s.reissueEnds gone).lift y).visit = (s.lift y).visit.map (fun v => { v with timer := v.limit }) := by
  have hb := (within_flagged gone hm hc).constant
  have hw := within_resolved gone hm hc
  obtain ⟨hctl, hfaults, hdoubt, hvisit⟩ := constants_passedOn (mode_resolved gone hm hc) hw.claims
  refine ⟨hctl.trans (hw.constant.modeCtl.trans hb.modeCtl), hfaults.trans (hw.constant.faults.trans hb.faults),
    fun hd => hdoubt (hw.constant.doubt hd), fun y => ?_⟩
  have hlift : (s.flagged gone).resolving.lift y = s.lift y := by rw [lift, hw.constant.coord, hb.coord, lift]
  exact (hvisit y).trans (by rw [hlift])

/-- A party without an entry is sent nothing. -/
theorem port_reissueEnds_of_no_entry {p : Party} (hp : ∀ h e, s.entry h = some e → e.party ≠ p) :
    (s.reissueEnds gone).port p = s.port p := by
  have hb := within_flagged gone hm hc
  have hw := within_resolved gone hm hc
  have hpb (h : Handle) (f : Entry) (hf : (s.flagged gone).entry h = some f) : f.party ≠ p := by
    obtain ⟨e, he, heq⟩ := hb.party h f hf
    rw [heq]
    exact hp h e he
  have hpc (h : Handle) (f : Entry) (hf : (s.flagged gone).resolving.entry h = some f) : f.party ≠ p := by
    obtain ⟨e, he, heq⟩ := hw.party h f hf
    rw [heq]
    exact hpb h e he
  calc (s.reissueEnds gone).port p
      = (s.flagged gone).resolving.port p := port_passedOn (mode_resolved gone hm hc) hw.claims hpc
    _ = (s.flagged gone).port p := port_foldl_of_no_entry (mode_flagged gone hm hc) walks_resolveIfDecided (.refl hb.claims) hpb _
    _ = s.reissuing.port p := (s.alike_flagged gone).port p
    _ = s.port p := port_foldl_of_no_entry hm walks_reissueHandle (.refl hc) hp _

/-- A slot in DOUBT after the revocations is in DOUBT at the end. -/
theorem slot_reissueEnds {n : Level} {c : SlotCode} {content : Option Content} {cause : DoubtCause}
    (h : s.reissuing.slot n c = .doubt content cause none none) : (s.reissueEnds gone).slot n c = .doubt content cause none none := by
  have hflagged : (s.flagged gone).slot n c = .doubt content cause none none := ((s.alike_flagged gone).slot n c).trans h
  exact doubt_passedOn (mode_resolved gone hm hc) (within_resolved gone hm hc).claims
    (doubt_foldl (mode_flagged gone hm hc) walks_resolveIfDecided (.refl (within_flagged gone hm hc).claims) hflagged allHandles)

theorem pledgeOwned_reissueEnds {i : StreamNo} (hi : i ≠ 0) {id : ToteId} (h : PledgeOwned s.reissuing i id) :
    PledgeOwned (s.reissueEnds gone) i id := by
  have hflagged : PledgeOwned (s.flagged gone) i id := ((s.alike_flagged gone).pledgeOwned i id).mpr h
  exact pledgeOwned_passedOn (mode_resolved gone hm hc) (within_resolved gone hm hc).claims hi
    (pledgeOwned_foldl (mode_flagged gone hm hc) walks_resolveIfDecided (.refl (within_flagged gone hm hc).claims) hi hflagged allHandles)

variable (ho : OneEntryEach s) {k : Handle} {e : Entry}
include ho

/-- An entry that stands after the revocations, is not WAITING, and has nothing to resolve, stands at the end as it does there. -/
theorem reissueEnds_of_standing (he : s.reissuing.entry k = some e) (hw : e.isWaiting = false)
    (hn : e.phase = .confirming → ∃ j ∈ e.items, j.conf = .asked) :
    (s.reissueEnds gone).entry k = some e ∧ (s.reissueEnds gone).port e.party = s.reissuing.port e.party := by
  have hb := within_flagged gone hm hc
  have hwr := within_resolved gone hm hc
  have hflagged : (s.flagged gone).entry k = some e := ((s.alike_flagged gone).entry k).trans he
  obtain ⟨hentry, hport⟩ := resolving_of_undecided (mode_flagged gone hm hc) hb.claims (hb.oneEntryEach ho) hflagged hn
  obtain ⟨hend, hpend⟩ := passedOn_of_not_waiting (mode_resolved gone hm hc) hwr.claims (hwr.oneEntryEach (hb.oneEntryEach ho)) hentry hw
  exact ⟨hend, hpend.trans (hport.trans ((s.alike_flagged gone).port e.party))⟩

variable (he : s.entry k = some e)
include he

/-- With its entry removed in the revocations, a party is sent nothing more. -/
theorem reissueEnds_of_removed (hk : s.reissuing.entry k = none) :
    (s.reissueEnds gone).entry k = none ∧ (s.reissueEnds gone).port e.party = s.reissuing.port e.party := by
  have hb := within_flagged gone hm hc
  have hwr := within_resolved gone hm hc
  have hflagged : (s.flagged gone).entry k = none := ((s.alike_flagged gone).entry k).trans hk
  have hpb (h : Handle) (f : Entry) (hf : (s.flagged gone).entry h = some f) : f.party ≠ e.party := by
    have hne : h ≠ k := by
      intro heq
      rw [heq, hflagged] at hf
      exact absurd hf (Option.some_ne_none f).symm
    obtain ⟨g, hg, heq⟩ := hb.party h f hf
    rw [heq]
    exact other_party ho he h hne g hg
  have hpc (h : Handle) (f : Entry) (hf : (s.flagged gone).resolving.entry h = some f) : f.party ≠ e.party := by
    obtain ⟨g, hg, heq⟩ := hwr.party h f hf
    rw [heq]
    exact hpb h g hg
  have hresolved : (s.flagged gone).resolving.entry k = none := by
    cases hf : (s.flagged gone).resolving.entry k with
    | none => rfl
    | some f =>
      obtain ⟨g, hg, -⟩ := hwr.party k f hf
      exact absurd (hflagged.symm.trans hg) (Option.some_ne_none g).symm
  refine ⟨entry_passedOn_of_none (mode_resolved gone hm hc) hwr.claims hresolved, ?_⟩
  calc (s.reissueEnds gone).port e.party
      = (s.flagged gone).resolving.port e.party := port_passedOn (mode_resolved gone hm hc) hwr.claims hpc
    _ = (s.flagged gone).port e.party := port_foldl_of_no_entry (mode_flagged gone hm hc) walks_resolveIfDecided (.refl hb.claims) hpb _
    _ = s.reissuing.port e.party := (s.alike_flagged gone).port e.party

/-- An entry that is not GRANTED stands when the resolutions begin. -/
theorem flagged_of_not_granted (hg : e.phase.isGranted = false) :
    (s.flagged gone).entry k = some e ∧ (s.flagged gone).port e.party = s.port e.party := by
  obtain ⟨hentry, hport⟩ := reissuing_of_not_granted hm hc ho he hg
  exact ⟨((s.alike_flagged gone).entry k).trans hentry, ((s.alike_flagged gone).port e.party).trans hport⟩

/-- A WAITING entry that is still WAITING has its timer going on. -/
theorem reissueEnds_of_waiting (hw : e.isWaiting = true) {f : Entry} {q : Reason} (hf : (s.reissueEnds gone).entry k = some f)
    (hq : f.phase = .waiting q) : f = { e with phase := .waiting q } := by
  have hb := within_flagged gone hm hc
  have hconf : e.phase ≠ .confirming := by
    obtain ⟨r, hr⟩ := (isWaiting_iff e).mp hw
    rw [hr]
    exact Phase.noConfusion
  have hflagged := (flagged_of_not_granted gone hm hc ho he (isGranted_of_waiting hw)).1
  have hresolved := (resolving_of_undecided (mode_flagged gone hm hc) hb.claims (hb.oneEntryEach ho) hflagged
    fun h => absurd h hconf).1
  exact entry_passedOn_of_waiting (mode_resolved gone hm hc) (within_resolved gone hm hc).claims hresolved hf hq

section
variable (hconf : e.phase = .confirming) (hall : ∀ j ∈ e.items, j.conf ≠ .asked) {x : Lift} (hp : e.party = .lift x)
include hconf

omit ho he hconf in
/-- The resolution of a lift's entry finds what the resume has found. -/
theorem keptItems_flagged (hp : e.party = .lift x) : (s.flagged gone).keptItems e = s.keptItems e := by
  have hb := (within_flagged gone hm hc).constant
  refine keptItems_congr hp (by rw [lift, hb.coord, lift]) hb.stream fun n c _ => ?_
  rw [(s.alike_flagged gone).slot]
  exact ready_reissuing hm hc n c

include hall hp

/-- The items of a decided CONFIRMING entry that are still fetchable are granted (R110). -/
theorem reissueEnds_of_kept (hk : s.keptItems e ≠ []) :
    (s.reissueEnds gone).entry k = some (e.granted s.time s.timing (s.keptItems e))
    ∧ (s.reissueEnds gone).port (.lift x) = portAfter (s.goAgain k { e with items := s.keptItems e }) (some k) (s.port (.lift x)) := by
  have hb := within_flagged gone hm hc
  have hwr := within_resolved gone hm hc
  have hkept := keptItems_flagged gone hm hc hp
  obtain ⟨hflagged, hport⟩ := flagged_of_not_granted gone hm hc ho he (isGranted_of_confirming hconf)
  obtain ⟨hentry, hafter⟩ := resolving_of_kept (mode_flagged gone hm hc) hb.claims (hb.oneEntryEach ho) hflagged hconf hall hp
    (by rw [hkept]; exact hk)
  obtain ⟨hend, hpend⟩ := passedOn_of_not_waiting (mode_resolved gone hm hc) hwr.claims (hwr.oneEntryEach (hb.oneEntryEach ho)) hentry rfl
  have hgo : (s.flagged gone).goAgain k { e with items := s.keptItems e } = s.goAgain k { e with items := s.keptItems e } := by
    unfold goAgain toward
    rw [hb.constant.unique]
  rw [hkept, hb.constant.time, hb.constant.timing] at hend
  refine ⟨hend, ?_⟩
  have hsame : (e.granted (s.flagged gone).time (s.flagged gone).timing ((s.flagged gone).keptItems e)).party = .lift x := hp
  rw [hsame] at hpend
  rw [hp] at hport
  exact hpend.trans (by rw [hafter, hkept, hgo, hport])

/-- With none of them and no wait flag the entry is refused DENIED (R110). -/
theorem reissueEnds_of_refused (hk : s.keptItems e = []) (hw : e.wait = false) :
    (s.reissueEnds gone).entry k = none
    ∧ (s.reissueEnds gone).port (.lift x) = portAfter (s.refusal .denied (k, e)) (some k) (s.port (.lift x)) := by
  have hb := within_flagged gone hm hc
  have hwr := within_resolved gone hm hc
  obtain ⟨hflagged, hport⟩ := flagged_of_not_granted gone hm hc ho he (isGranted_of_confirming hconf)
  obtain ⟨hentry, hafter⟩ := resolving_of_refused (mode_flagged gone hm hc) hb.claims (hb.oneEntryEach ho) hflagged hconf hall hp
    ((keptItems_flagged gone hm hc hp).trans hk) hw
  have hrefusal : (s.flagged gone).refusal .denied (k, e) = s.refusal .denied (k, e) := by
    unfold refusal toParty
    rw [hb.constant.unique]
  have hpc (h : Handle) (f : Entry) (hf : (s.flagged gone).resolving.entry h = some f) : f.party ≠ .lift x := by
    have hne : h ≠ k := by
      intro heq
      rw [heq, hentry] at hf
      exact absurd hf (Option.some_ne_none f).symm
    obtain ⟨g, hg, heq⟩ := hwr.party h f hf
    rw [heq, ← hp]
    exact other_party (hb.oneEntryEach ho) hflagged h hne g hg
  refine ⟨entry_passedOn_of_none (mode_resolved gone hm hc) hwr.claims hentry,
    (port_passedOn (mode_resolved gone hm hc) hwr.claims hpc).trans ?_⟩
  rw [hp] at hport
  rw [hafter, hrefusal, hport]

/-- With none of them and the wait flag set the entry is held NOT-ELIGIBLE and takes part in the re-evaluation (R110). -/
theorem reissueEnds_of_held (hk : s.keptItems e = []) (hw : e.wait = true) (hroom : (s.link x).down.length < 8) :
    (∃ f, (s.reissueEnds gone).entry k = some f ∧ f.party = e.party ∧ f.kind = e.kind ∧ f.tag = e.tag ∧ f.askStamp = e.askStamp
      ∧ ∀ q, f.phase = .waiting q → f.timer = s.timing.holdLift.zeroExtend 32)
    ∧ (⟨s.toward e.party 0x29 e.tag (.hold (BitVec.ofNat 8 k.val) .notEligible), true, false⟩ : DownItem)
      ∈ ((s.reissueEnds gone).link x).down := by
  have hb := within_flagged gone hm hc
  have hwr := within_resolved gone hm hc
  obtain ⟨hflagged, hport⟩ := flagged_of_not_granted gone hm hc ho he (isGranted_of_confirming hconf)
  obtain ⟨hentry, hafter⟩ := resolving_of_held (mode_flagged gone hm hc) hb.claims (hb.oneEntryEach ho) hflagged hconf hall hp
    ((keptItems_flagged gone hm hc hp).trans hk) hw
  obtain ⟨f, hf, hparty, hkind, htag, hstamp, hdown⟩ := passedOn_of_lift (mode_resolved gone hm hc) hwr.claims hentry (x := x) hp
  refine ⟨⟨f, hf, hparty, hkind, htag, hstamp, fun q hq => ?_⟩, hdown _ ?_⟩
  · rw [entry_passedOn_of_waiting (mode_resolved gone hm hc) hwr.claims hentry hf hq]
    show holdLimit (s.flagged gone).timing e.party = _
    rw [hb.constant.timing, hp]
    rfl
  · rw [hp] at hport
    have hlink := hafter.trans (congrArg _ hport)
    have hroom' : (s.flagged gone).toward e.party 0x29 e.tag (.hold (BitVec.ofNat 8 k.val) .notEligible)
        = s.toward e.party 0x29 e.tag (.hold (BitVec.ofNat 8 k.val) .notEligible) := by
      unfold toward
      rw [hb.constant.unique]
    have hsent := Sum.inl.inj hlink
    rw [hsent, if_pos hroom, hroom']
    exact List.mem_append_right _ (List.mem_singleton.mpr rfl)

end

end

end Sys2Proof.Machine.State

/-! ## A resume with REISSUE raises nothing, and its end (R128, R166) -/

namespace Sys2Proof.Machine.State

theorem nodup_allHandles : allHandles.Nodup := List.nodup_finRange 32

section
variable {s : State} (gone : List (Handle × Entry)) (hm : s.mode = .run) (hc : ClaimsGranted s) (ho : OneEntryEach s)
  (hroom : ∀ y, (s.link y).down.length ≤ 6)
include hm hc ho

theorem length_flagged_le (y : Lift) : ((s.flagged gone).link y).down.length ≤ (s.link y).down.length + 1 := by
  rw [(s.alike_flagged gone).link]
  exact length_foldl_le hm walks_reissueHandle ho hc y

theorem length_resolved_le (y : Lift) : ((s.flagged gone).resolving.link y).down.length ≤ ((s.flagged gone).link y).down.length + 1 := by
  have hb := within_flagged gone hm hc
  exact length_foldl_le (mode_flagged gone hm hc) walks_resolveIfDecided (hb.oneEntryEach ho) hb.claims y

/-- An entry that is WAITING after the resolutions was not GRANTED before, so its party has been sent one telegram at the most. -/
theorem length_resolved_of_waiting {k : Handle} {f : Entry} {y : Lift} (hf : (s.flagged gone).resolving.entry k = some f)
    (hw : f.isWaiting = true) (hy : f.party = .lift y) : ((s.flagged gone).resolving.link y).down.length ≤ (s.link y).down.length + 1 := by
  have hb := within_flagged gone hm hc
  have hwr := within_resolved gone hm hc
  obtain ⟨g, hg, hpg⟩ := hwr.party k f hf
  obtain ⟨e, he, hpe⟩ := hb.party k g hg
  have hgranted : e.phase.isGranted = false := by
    cases hge : e.phase.isGranted with
    | false => rfl
    | true =>
      cases hl : s.latch e.party with
      | true =>
        have hgone := (reissuing_of_latched hm hc ho he hge hl).1
        exact absurd (hgone.symm.trans (((s.alike_flagged gone).entry k).symm.trans hg)) (Option.some_ne_none g).symm
      | false =>
        have hstays := ((s.alike_flagged gone).entry k).trans (reissuing_of_unlatched hm hc ho he hge hl).1
        have hafter := (resolving_of_undecided (mode_flagged gone hm hc) hb.claims (hb.oneEntryEach ho) hstays
          fun h => absurd h Phase.noConfusion).1
        have hfe := Option.some.inj (hf.symm.trans hafter)
        rw [hfe] at hw
        exact absurd hw Bool.false_ne_true
  have hport := (flagged_of_not_granted gone hm hc ho he hgranted).2
  rw [← hpe, ← hpg, hy] at hport
  have hlink : (s.flagged gone).link y = s.link y := Sum.inl.inj hport
  rw [← hlink]
  exact length_resolved_le gone hm hc ho y

include hroom

theorem raises_reissueEnds : (s.reissueEnds gone).work.raises = s.work.raises := by
  have hb := within_flagged gone hm hc
  have hwr := within_resolved gone hm hc
  have hplace (y : Lift) : (s.link y).down.length + 1 < 8 := Nat.lt_of_le_of_lt (Nat.add_le_add_right (hroom y) 1) (by decide)
  have hfirst : s.reissuing.work.raises = s.work.raises := by
    unfold reissuing
    exact raises_foldl hm walks_reissueHandle ho (.refl hc) nodup_allHandles fun h _ e _ y _ => Nat.lt_of_succ_lt (hplace y)
  have hsecond : (s.flagged gone).resolving.work.raises = (s.flagged gone).work.raises := by
    unfold resolving
    exact raises_foldl (mode_flagged gone hm hc) walks_resolveIfDecided (hb.oneEntryEach ho) (.refl hb.claims) nodup_allHandles
      fun h _ e _ y _ => Nat.lt_of_le_of_lt (length_flagged_le gone hm hc ho y) (hplace y)
  have hlast := raises_passedOn (mode_resolved gone hm hc) hwr.claims (hwr.oneEntryEach (hb.oneEntryEach ho)) fun h e y he hw hy =>
    Nat.lt_of_le_of_lt (length_resolved_of_waiting gone hm hc ho he hw hy) (hplace y)
  exact hlast.trans (hsecond.trans ((s.alike_flagged gone).raises.trans hfirst))

/-- The end of the step with a resume with REISSUE. -/
theorem shows_reissued (hr : s.work.raises = []) : Shows (s.reissueEnds gone) (s.reissued gone).finish
    ∧ ∀ y, ((s.reissued gone).finish.lift y).visit = ((s.reissueEnds gone).lift y).visit :=
  shows_finish rfl ((raises_reissueEnds gone hm hc ho hroom).trans hr)

end

end Sys2Proof.Machine.State

/-! ## A resume with REISSUE, case by case (R166) -/

namespace Sys2Proof.Machine.State

/-- A slot that a GRANTED entry claims for one of its items. -/
def claimedBy (s : State) (k : Handle) (e : Entry) (n : Level) (c : SlotCode) (content : Option Content) : Prop :=
  (∃ i ∈ e.items, i.slot = some (n, c)) ∧ ∃ kind id, s.slot n c = .opened content (some ⟨kind, k, id⟩)

/-- A CONFIRMING entry of a lift with no tote asked (R110). -/
structure Decided (s : State) (k : Handle) (e : Entry) (x : Lift) : Prop where
  entry : s.entry k = some e
  confirming : e.phase = .confirming
  asked : ∀ j ∈ e.items, j.conf ≠ .asked
  party : e.party = .lift x

/-- What a resume with REISSUE leaves (R166). -/
structure ReissueLeaves (s t : State) : Prop where
  faults : t.faults = s.faults
  visit : ∀ y, (t.lift y).visit = (s.lift y).visit.map (fun v => { v with timer := v.limit })
  unlatched : ∀ k e, s.entry k = some e → e.phase.isGranted = true → s.latch e.party = false →
    t.entry k = some (e.granted s.time s.timing e.items) ∧ t.port e.party = portAfter (s.goAgain k e) (some k) (s.port e.party)
  latched : ∀ k e, s.entry k = some e → e.phase.isGranted = true → s.latch e.party = true → t.notices.pending.doubt = true
    ∧ t.entry k = none ∧ t.port e.party = portAfter (s.refusal .revoked (k, e)) (some k) (s.port e.party)
    ∧ (∀ n c content, s.claimedBy k e n c content → t.slot n c = .doubt content .revoked none none)
    ∧ ∀ i, i ≠ 0 → ∀ id, pledges e i id = true → PledgeOwned t i id
  undecided : ∀ k e, s.entry k = some e → e.phase = .confirming → (∃ j ∈ e.items, j.conf = .asked) → t.entry k = some e
  waiting : ∀ k e f r q, s.entry k = some e → e.phase = .waiting r → t.entry k = some f → f.phase = .waiting q →
    f = { e with phase := .waiting q }
  kept : ∀ k e x, s.Decided k e x → s.keptItems e ≠ [] → t.entry k = some (e.granted s.time s.timing (s.keptItems e))
    ∧ t.port (.lift x) = portAfter (s.goAgain k { e with items := s.keptItems e }) (some k) (s.port (.lift x))
  refused : ∀ k e x, s.Decided k e x → s.keptItems e = [] → e.wait = false → t.entry k = none
    ∧ t.port (.lift x) = portAfter (s.refusal .denied (k, e)) (some k) (s.port (.lift x))
  held : ∀ k e x, s.Decided k e x → s.keptItems e = [] → e.wait = true →
    (∃ f, t.entry k = some f ∧ f.party = e.party ∧ f.kind = e.kind ∧ f.tag = e.tag ∧ f.askStamp = e.askStamp
      ∧ ∀ q, f.phase = .waiting q → f.timer = s.timing.holdLift.zeroExtend 32)
    ∧ (⟨s.toward e.party 0x29 e.tag (.hold (BitVec.ofNat 8 k.val) .notEligible), true, false⟩ : DownItem) ∈ (t.link x).down
  idle : ∀ p, s.entryOf p = none → t.port p = s.port p

theorem no_entry_of_entryOf {s : State} {p : Party} (h : s.entryOf p = none) : ∀ k e, s.entry k = some e → e.party ≠ p := by
  intro k e he hp
  have hfound := List.find?_eq_none.mp h (k, e) ((s.mem_entries_iff k e).mpr he)
  exact hfound (decide_eq_true hp)

/-- In RUN, with room in the lifts' queues. -/
theorem reissueLeaves_ends {s : State} {gone : List (Handle × Entry)} (hm : s.mode = .run) (hc : ClaimsGranted s) (ho : OneEntryEach s)
    (hroom : ∀ y, (s.link y).down.length ≤ 6)
    (hgone : ∀ k e, s.entry k = some e → e.phase.isGranted = true → s.latch e.party = true → (k, e) ∈ gone) :
    ReissueLeaves s (s.reissueEnds gone) := by
  obtain ⟨-, hfaults, hdoubt, hvisit⟩ := constants_reissueEnds gone hm hc
  refine ⟨hfaults, hvisit, fun k e he hg hl => ?unlatched, fun k e he hg hl => ?latched, fun k e he hconf hasked => ?undecided,
    fun k e f r q he hr hf hq => reissueEnds_of_waiting gone hm hc ho he ((isWaiting_iff e).mpr ⟨r, hr⟩) hf hq,
    fun k e x hd hk => reissueEnds_of_kept gone hm hc ho hd.entry hd.confirming hd.asked hd.party hk,
    fun k e x hd hk hw => reissueEnds_of_refused gone hm hc ho hd.entry hd.confirming hd.asked hd.party hk hw,
    fun k e x hd hk hw => reissueEnds_of_held gone hm hc ho hd.entry hd.confirming hd.asked hd.party hk hw
      (Nat.lt_of_le_of_lt (hroom x) (by decide)),
    fun p hp => port_reissueEnds_of_no_entry gone hm hc (no_entry_of_entryOf hp)⟩
  case unlatched =>
    obtain ⟨hentry, hport⟩ := reissuing_of_unlatched hm hc ho he hg hl
    obtain ⟨hend, hafter⟩ := reissueEnds_of_standing gone hm hc ho hentry rfl fun h => absurd h Phase.noConfusion
    exact ⟨hend, hafter.trans hport⟩
  case latched =>
    obtain ⟨hentry, hport⟩ := reissuing_of_latched hm hc ho he hg hl
    obtain ⟨hend, hafter⟩ := reissueEnds_of_removed gone hm hc ho he hentry
    refine ⟨hdoubt (s.doubt_flagged ⟨(k, e), hgone k e he hg hl, hg⟩), hend, hafter.trans hport, fun n c content hclaimed => ?_,
      fun i hi id hp => pledgeOwned_reissueEnds gone hm hc hi (pledgeOwned_reissuing hm hc he hg hl hi hp)⟩
    obtain ⟨hnamed, kind, id, hs⟩ := hclaimed
    exact slot_reissueEnds gone hm hc (slot_reissuing hm hc he hg hl hs hnamed)
  case undecided =>
    have hentry := (reissuing_of_not_granted hm hc ho he (isGranted_of_confirming hconf)).1
    refine (reissueEnds_of_standing gone hm hc ho hentry ?_ fun _ => hasked).1
    unfold Entry.isWaiting
    rw [hconf]

/-! ### The same in other states -/

theorem ReissueLeaves.of_shows {s t u : State} (h : ReissueLeaves s t) (a : Shows t u) (hv : ∀ y, (u.lift y).visit = (t.lift y).visit) :
    ReissueLeaves s u := by
  obtain ⟨h1, h2, h3, h4, h5, h6, h7, h8, h9, h10⟩ := h
  simp only [← a.faults, ← hv, ← a.entry, ← a.port, ← a.slot, ← a.link, ← a.notices, ← a.pledgeOwned]
    at h1 h2 h3 h4 h5 h6 h7 h8 h9 h10
  exact ⟨h1, h2, h3, h4, h5, h6, h7, h8, h9, h10⟩

section
variable {s v : State} (a : SameAisle s v)
include a

theorem SameAisle.port (p : Party) : v.port p = s.port p := by
  cases p with
  | shuttle n => exact congrArg Sum.inr (a.shuttle n)
  | lift y => exact congrArg Sum.inl (a.link y)

theorem SameAisle.toward (p : Party) (kind tag : Byte) (b : Body) : v.toward p kind tag b = s.toward p kind tag b := by
  unfold State.toward
  rw [a.unique]

theorem SameAisle.goAgain (k : Handle) (e : Entry) : v.goAgain k e = s.goAgain k e := a.toward _ _ _ _

theorem SameAisle.latch (p : Party) : v.latch p = s.latch p := by rw [State.latch, a.faults, State.latch]

theorem SameAisle.keptItems (e : Entry) : v.keptItems e = s.keptItems e := by
  have heligible := eligible_of_fixed (s := s) (t := v) fun i => by rw [a.stream]
  unfold State.keptItems stillFetchable
  simp only [a.lift, a.slot, heligible]

theorem SameAisle.decided {k : Handle} {e : Entry} {x : Lift} (h : s.Decided k e x) : v.Decided k e x :=
  ⟨(a.entry k).trans h.entry, h.confirming, h.asked, h.party⟩

theorem SameAisle.claimedBy (k : Handle) (e : Entry) (n : Level) (c : SlotCode) (content : Option Content) :
    v.claimedBy k e n c content ↔ s.claimedBy k e n c content := by
  unfold State.claimedBy
  rw [a.slot]

theorem SameAisle.claimsGranted (h : ClaimsOwned s) : ClaimsGranted v := by
  intro n c q hq e he
  rw [a.slot] at hq
  obtain ⟨f, hf, hg, -⟩ := h n c q hq
  rw [a.entry, hf] at he
  rwa [← Option.some.inj he]

end

theorem ReissueLeaves.of_sameAisle {s v t : State} (h : ReissueLeaves v t) (a : SameAisle s v) : ReissueLeaves s t := by
  obtain ⟨h1, h2, h3, h4, h5, h6, h7, h8, h9, h10⟩ := h
  simp only [a.faults, a.lift, a.entry, a.latch, a.time, a.timing, a.goAgain, a.port, a.refusal, a.claimedBy, a.keptItems, a.toward,
    a.entryOf] at h1 h2 h3 h4 h5 h6 h7 h8 h9 h10
  exact ⟨h1, h2, h3, h4, h5, h6, fun k e x hd => h7 k e x (a.decided hd), fun k e x hd => h8 k e x (a.decided hd),
    fun k e x hd => h9 k e x (a.decided hd), h10⟩

theorem ReissueLeaves.executed {s t : State} (h : ReissueLeaves s t) (tag : Byte) (answer : Bool) (code : Byte) (r : Option Reason)
    (data : List Byte) : ReissueLeaves s (t.executed tag answer code r data) :=
  h.of_shows ⟨rfl, rfl, fun _ => rfl, rfl, rfl, rfl, rfl, rfl⟩ fun _ => rfl

/-- A resume with REISSUE with the step that it ends (R166). -/
theorem reissueLeaves_of_sameAisle {s x : State} (hx : SameAisle s x) (hr : s.work.raises = []) (ho : OneEntryEach s)
    (hown : ClaimsOwned s) (hroom : ∀ y, (s.link y).down.length ≤ 6) : ReissueLeaves s x.reissue.finish
    ∧ x.reissue.finish.modeCtl = { x.modeCtl with mode := .run, motion := true } := by
  have hv := hx.setMode .run
  have hm : (x.setMode .run).mode = .run := congrArg ModeCtl.mode (x.modeCtl_setMode .run)
  have hc := hv.claimsGranted hown
  have ho' := hv.oneEntryEach ho
  have hroom' : ∀ y, ((x.setMode .run).link y).down.length ≤ 6 := fun y => by
    rw [hv.link]
    exact hroom y
  rw [reissue_eq]
  have hgone : ∀ k e, (x.setMode .run).entry k = some e → e.phase.isGranted = true → (x.setMode .run).latch e.party = true →
      (k, e) ∈ x.entries.filter (fun x' => x'.2.phase.isGranted && x.latch x'.2.party) := by
    intro k e he hg hl
    rw [hv.entry, ← hx.entry] at he
    rw [hv.latch, ← hx.latch] at hl
    exact List.mem_filter.mpr ⟨(x.mem_entries_iff k e).mpr he, by rw [hg, hl]; rfl⟩
  generalize x.entries.filter (fun x' => x'.2.phase.isGranted && x.latch x'.2.party) = gone at hgone ⊢
  obtain ⟨hshows, hvisit⟩ := shows_reissued gone hm hc ho' hroom' (hv.raises.trans hr)
  have hleaves := (reissueLeaves_ends hm hc ho' hroom' hgone).of_shows hshows hvisit
  refine ⟨hleaves.of_sameAisle hv, ?_⟩
  rw [hshows.modeCtl, (constants_reissueEnds gone hm hc).1, modeCtl_setMode]
  rfl

end Sys2Proof.Machine.State

/-! ## An entry into DRAIN and a resume with REISSUE (O51) -/

namespace Sys2Proof.Machine

section
variable {s : State} {h : StoreHdr}

/-- An entry into DRAIN, field by field (R161, R162). -/
theorem drain_entered (ht : Takes s h true) (ho : OneEntryEach s) (hown : ClaimsOwned s) (hroom : ∀ y, (s.link y).down.length ≤ 6)
    (hm : s.mode = .run) : ∃ t, exec (.entryIntoDrain h 0) s = .next t ∧ State.DrainLeaves s t
      ∧ (∀ k e, s.entry k = some e → e.phase.isGranted = true → t.mode = .drain ∧ t.modeCtl.motion = true)
      ∧ ((∀ k e, s.entry k = some e → e.phase.isGranted = false) → t.mode = .config ∧ t.modeCtl.motion = false) := by
  let x := s.storeHunt.executing h.tag true (.modeSet 2 0)
  have hx : State.SameAisle s x := s.sameAisle_executing h.tag true (.modeSet 2 0)
  have hr : s.work.raises = [] := by rw [ht.rests]; rfl
  obtain ⟨hleaves, hkept, hgone⟩ := State.drainLeaves_of_sameAisle hx hr ho hown hroom
  have hdone := modeSet_done ht (target := .drain) (resume := 0) rfl (State.changeMode_of_run (s := x) hm).2.2.1
  generalize x.drain.finish = w at hdone hleaves hkept hgone
  refine ⟨_, hdone, ?_, fun k e he hg => ?_, fun hnone => ?_⟩
  · exact hleaves.executed h.tag true 0x10 none _
  · have hctl := hkept k e he hg
    exact ⟨congrArg ModeCtl.mode hctl, congrArg ModeCtl.motion hctl⟩
  · have hctl := hgone hnone
    exact ⟨congrArg ModeCtl.mode hctl, congrArg ModeCtl.motion hctl⟩

/-- A resume with REISSUE, case by case (R166). -/
theorem reissue_resumed (ht : Takes s h true) (ho : OneEntryEach s) (hown : ClaimsOwned s) (hroom : ∀ y, (s.link y).down.length ≤ 6)
    (hm : s.mode = .halt) (hstop : s.modeCtl.stop = false) (hpending : ∀ c, s.disposition c = .halt → s.faultRec c = none) :
    ∃ t, exec (.resumeReissue h) s = .next t ∧ State.ReissueLeaves s t ∧ t.mode = .run ∧ t.modeCtl.motion = true := by
  let x := s.storeHunt.executing h.tag true (.modeSet 1 1)
  have hx : State.SameAisle s x := s.sameAisle_executing h.tag true (.modeSet 1 1)
  have hr : s.work.raises = [] := by rw [ht.rests]; rfl
  have hfree : ¬ x.RunBlocked := by
    rintro (hs | ⟨c, ⟨f, hf⟩, hc⟩)
    · exact Bool.false_ne_true (hstop.symm.trans hs)
    · exact Option.some_ne_none f (hf.symm.trans (hpending c hc))
  have hdone := modeSet_done ht (target := .run) (resume := 1) rfl ((State.changeMode_of_halt (s := x) hm).2.1.trans
    ((State.whenRunnable_of_none (State.runRefusal_of_unblocked (fun hf => absurd hf Bool.false_ne_true) hfree) _).trans
      (by rw [State.resume_of_reissue rfl])))
  obtain ⟨hleaves, hctl⟩ := State.reissueLeaves_of_sameAisle hx hr ho hown hroom
  generalize x.reissue.finish = w at hdone hleaves hctl
  exact ⟨_, hdone, hleaves.executed h.tag true 0x10 none _, congrArg ModeCtl.mode hctl, congrArg ModeCtl.motion hctl⟩

end

namespace State
variable {s t : State} {tel : Tel} {about : Option Handle}

/-- A telegram for a lift whose queue has room stands at its tail (R128). -/
theorem down_of_port {x : Lift} (h : t.port (.lift x) = portAfter tel about (s.port (.lift x))) (hroom : (s.link x).down.length ≤ 6) :
    (t.link x).down = (s.link x).down ++ [⟨tel, true, false⟩] := by
  have hlink := Sum.inl.inj h
  rw [hlink, if_pos (Nat.lt_of_le_of_lt hroom (by decide))]

/-- A telegram for a shuttle is put in its answer box by the rule of the box (R39). -/
theorem box_of_port {p : Party} {n : Level} (hp : p = .shuttle n) (h : t.port p = portAfter tel about (s.port p)) :
    (t.shuttle n).box = ((s.sendParty p tel about).shuttle n).box := by
  subst hp
  exact congrArg ShuttleRec.box (Sum.inr.inj (h.trans (s.port_sendParty_self (.shuttle n) tel about).symm))

theorem pledges_iff (e : Entry) (i : StreamNo) (id : ToteId) : pledges e i id = true ↔ (∃ x, e.party = .lift x) ∧ e.kind = .fetch
    ∧ e.phase.isGranted = true ∧ ∃ j ∈ e.items, j.tote.id = id ∧ j.tote.stream.toNat = i.val := by
  have hfetch : e.isLiftFetch = true ↔ (∃ x, e.party = .lift x) ∧ e.kind = .fetch := by
    unfold Entry.isLiftFetch
    cases e.party <;> cases e.kind <;> simp
  unfold pledges
  simp only [Bool.and_eq_true, List.any_eq_true, decide_eq_true_eq, hfetch, and_assoc]

end State

/-- Settles O51: an entry into DRAIN and a resume with REISSUE (R161, R162, R166). -/
theorem drainsAndReissues : Obligations.DrainsAndReissues := by
  unfold Obligations.DrainsAndReissues
  intro s h ht ho hown hroom granted goOf refused
  refine ⟨fun hm => ?drain, fun hm hstop hpending => ?reissue⟩
  case drain =>
    obtain ⟨t, hexec, hleaves, hkept, hgone⟩ := drain_entered ht ho hown hroom hm
    have hgrantedTo (y : Lift) : s.grantedTo (.lift y) = true ↔ ∃ k e, s.entry k = some e ∧ e.party = .lift y ∧ e.phase.isGranted = true :=
      State.grantedTo_iff ho (.lift y)
    refine ⟨t, hexec, fun y => ?_, fun n => ?_, ?_, hleaves.slots, hleaves.list, hleaves.faults, fun k hk => ?_, fun k hk => ?_,
      fun y hy => ?_, fun y hy => ?_, fun ⟨k, e, he, hg⟩ => hkept k e he hg, fun hnone => hgone fun k e he => ?_⟩
    · rw [hleaves.link y, State.refusals_leavers ho, State.idleEnds_eq]
      unfold State.grantedTo
      cases s.entryOf (.lift y) <;> cases (s.lift y).visit <;> rfl
    · rw [hleaves.shuttle n]
      cases s.entryOf (.shuttle n) <;> rfl
    · refine hleaves.unsentAsks.trans (List.filter_congr fun m _ => ?_)
      rw [State.leavers, List.all_filter, State.all_entries]
      refine congrArg (fun f => allHandles.all f) (funext fun k => ?_)
      cases s.entry k with
      | none => rfl
      | some e => cases hg : e.phase.isGranted <;> simp [hg]
    · obtain ⟨e, he, hg⟩ := hk
      rw [hleaves.entry k, he, Option.filter_some, if_pos hg]
    · rw [hleaves.entry k, Option.filter_eq_none_iff]
      exact fun e he hg => hk ⟨e, he, hg⟩
    · rw [hleaves.visit y, if_pos ((hgrantedTo y).mpr hy)]
    · rw [hleaves.visit y, if_neg]
      intro hg
      obtain ⟨k, e, he, hp, hg⟩ := (hgrantedTo y).mp hg
      exact Bool.false_ne_true ((hy k e he hp).symm.trans hg)
    · exact Bool.eq_false_iff.mpr fun hg => hnone k ⟨e, he, hg⟩
  case reissue =>
    obtain ⟨t, hexec, hleaves, hmode, hmotion⟩ := reissue_resumed ht ho hown hroom hm hstop hpending
    refine ⟨t, hexec, hmode, hmotion, fun k e g he hp hl => ?unlatched, fun k e he hp hasked => hleaves.undecided k e he hp hasked,
      fun k e e' r q he hp he' hq => hleaves.waiting k e e' r q he hp he' hq, fun k e x v he hp hall hparty hv => ?decided,
      fun k e g he hp hl => ?latched, ?pledges, fun x hnone => Sum.inl.inj (hleaves.idle (.lift x) hnone),
      fun n hnone => Sum.inr.inj (hleaves.idle (.shuttle n) hnone), hleaves.faults, hleaves.visit⟩
    case unlatched =>
      obtain ⟨hentry, hport⟩ := hleaves.unlatched k e he (by rw [hp]; rfl) hl
      refine ⟨hentry, fun n hn => ?_, fun x hx => ?_⟩
      · exact State.box_of_port hn hport
      · rw [hx] at hport
        exact State.down_of_port hport (hroom x)
    case decided =>
      intro stands passes sent
      have hd : s.Decided k e x := ⟨he, hp, hall, hparty⟩
      have hnil : s.keptItems e = [] ↔ ∀ i ∈ e.items, passes i = false := State.keptItems_eq_nil_iff hparty hv
      refine ⟨fun ⟨i, hi, hpass⟩ => ?_, fun hno hw => ?_, fun hno hw => ?_⟩
      · have hkept : s.keptItems e ≠ [] := fun hk => Bool.false_ne_true ((hnil.mp hk i hi).symm.trans hpass)
        obtain ⟨hentry, hport⟩ := hleaves.kept k e x hd hkept
        refine ⟨s.keptItems e, hentry.trans ?_, State.map_keptItems hparty hv, fun j hj => ?_, State.down_of_port hport (hroom x)⟩
        · have hlimit : actLimit s.timing e.party (s.keptItems e).length
              = s.timing.liftBase.zeroExtend 32 + s.timing.liftPer.zeroExtend 32 * BitVec.ofNat 32 (s.keptItems e).length := by
            rw [hparty]
            rfl
          rw [← hlimit]
          rfl
        · obtain ⟨c, b, hslot, hc, hs, htote⟩ := State.mem_keptItems hparty hv hj
          exact ⟨c, b, hslot, hc, hs, htote⟩
      · obtain ⟨hentry, hport⟩ := hleaves.refused k e x hd (hnil.mpr hno) hw
        exact ⟨hentry, State.down_of_port hport (hroom x)⟩
      · exact hleaves.held k e x hd (hnil.mpr hno) hw
    case latched =>
      obtain ⟨hdoubt, hentry, hport, hslots, -⟩ := hleaves.latched k e he (by rw [hp]; rfl) hl
      refine ⟨hentry, hdoubt, fun x hx => ?_, fun n hn => ?_, fun i hi n c content kind id hslot hs =>
        hslots n c content ⟨⟨i, hi, hslot⟩, kind, id, hs⟩⟩
      · rw [hx] at hport
        exact State.down_of_port hport (hroom x)
      · exact State.box_of_port hn hport
    case pledges =>
      intro pledges k e i he hl hi r hr hpl hpledged
      have hmine : State.pledges e i r.id = true := (State.pledges_iff e i r.id).mpr hpl
      obtain ⟨-, -, -, -, howned⟩ := hleaves.latched k e he hpl.2.2.1 hl
      obtain ⟨l, f, hf, hpf⟩ := howned i hi r.id hmine r hr rfl hpledged
      exact ⟨l, f, hf, (State.pledges_iff f i r.id).mp hpf⟩

end Sys2Proof.Machine
